-- ==== Sys2Proof/Word.lean ====
section
/-! DEFINITION. The plainest types of the model: the byte of the restart line, the strand link and the
command port, the 16-bit check of a line frame, and the moment of the station's timebase. -/

namespace Sys2Proof

/-- One byte of a frame or record (11_formats.md). -/
abbrev Byte := BitVec 8

/-- The 16-bit value of a line frame's CRC (R139). -/
abbrev Word16 := BitVec 16

/-- A moment of the station's timebase: a value of the 32-bit count of ms since the release of the last
reset (R30). -/
abbrev Moment := BitVec 32

end Sys2Proof
end

