-- ==== Sys2Proof/Syntax.lean ====
section
/-! DEFINITION. The commands and events the block takes: one constructor of `Instr` for each row of
spec/opcode_table.json, with the operands the row carries, and the closed enumerations of
11_formats.md that those operands use. -/

namespace Sys2Proof

/-- The four discrete inputs (R156, R157). -/
inductive Input where
  | supplyOk | drvReady | brkIn | dummyIn
deriving DecidableEq, Repr

/-- One value for each discrete input. -/
structure PerInput (α : Type) where
  supplyOk : α
  drvReady : α
  brkIn : α
  dummyIn : α
deriving DecidableEq, Repr

/-- The raw levels of the four input pins: `true` is high, asserted. -/
abbrev InputLevels := PerInput Bool

/-- All four input pins low: the levels of the reset state (entry 7). -/
def InputLevels.allLow : InputLevels :=
  { supplyOk := false, drvReady := false, brkIn := false, dummyIn := false }

/-- One input pin and the level a 1 ms sample finds at it (R157). -/
structure InputSample where
  input : Input
  raw : Bool
deriving DecidableEq, Repr

/-- The seven strap pins (R178): station number, strand count code, line rate (`true` is 1 Mbit/s). -/
structure StrapPins where
  station : BitVec 3
  count : BitVec 3
  lrate : Bool
deriving DecidableEq, Repr

/-- The eight sequencer states (R1). -/
inductive SeqState where
  | unjoined | parked | watch | stopped | queued | ramping | handback | abandoned
deriving DecidableEq, Repr

/-- The four causes, in their order of precedence (R12). The cause NONE is `none` of `Option Cause`. -/
inductive Cause where
  | dip | tundish | breakout | hold
deriving DecidableEq, Repr

/-- The two kinds of claim. -/
inductive ClaimKind where
  | draw | start
deriving DecidableEq, Repr

/-- The reasons a RELEASE carries (R102, R114). -/
inductive ReleaseReason where
  | creep | cleared | timeout | stopped
deriving DecidableEq, Repr

/-- The six frame kinds of the restart line. -/
inductive FrameKind where
  | beacon | claim | withdraw | release | clear | event
deriving DecidableEq, Repr

/-- The fields of a BEACON after its header (R147, R186). `deadline` is in 0.1 s, 65535 for absent. -/
structure BeaconFields where
  sequence : Nat
  periodCode : Nat
  state : SeqState
  cause : Option Cause
  urgency : Nat
  draw : Nat
  speed : Nat
  deadline : Nat
  auth : Bool
  slotHeld : Bool
  deaf : Bool
  limitLocal : Bool
  phaseReady : Bool
  settledDraw : Nat
  settledStart : Nat
  epoch : Nat
  limit : Nat
deriving DecidableEq, Repr

/-- The fields of a CLAIM after its header (R144, R186). `deadline` is in 0.1 s, 65535 for absent. -/
structure ClaimFields where
  kind : ClaimKind
  number : Nat
  urgency : Nat
  deadline : Nat
  amount : Nat
  settle : Nat
deriving DecidableEq, Repr

/-- The commands and events of spec/opcode_table.json, in the table's order. A host command stands for
a command record that has passed the checks of R170; `params`, `code`, `limit` and `k` are its
parameter bytes. A `…Received` row stands for a frame that has passed the checks of R148; `station`
is the sender named in its header. -/
inductive Instr where
  | nop
  | identify
  | loadStrand (params : Vector Byte 25)
  | loadCause (params : Vector Byte 13)
  | loadSlice (params : Vector Byte 41)
  | join
  | cast
  | park
  | stop (code : Byte)
  | release
  | take
  | tundishBegin
  | tundishReady (limit : BitVec 16)
  | getStatus
  | getPeer (k : Byte)
  | getClaims
  | getReport (k : Byte)
  | getFault
  | clearFault
  /-- RESET. `raw`: the levels of the input pins at the moment the reset is taken (R156). -/
  | softReset (raw : InputLevels)
  /-- `bytes`: the complete bytes of the frame (R170). -/
  | commandRecordRejected (bytes : List Byte)
  | emptyFrame
  /-- `raw`: the levels of the input pins at the release of RST_N (R156). -/
  | pinReset (raw : InputLevels)
  /-- `pins`: what the 1 ms strap sample finds on the seven strap pins (R178; entry 18). -/
  | strapLatched (pins : StrapPins)
  /-- `edge`: the pin and the level that the accepting 1 ms sample finds at it (R157). -/
  | inputEdgeAccepted (edge : InputSample)
  /-- `bytes`, `framingFault`: the record as read on SRX (R160). -/
  | sampleRecord (bytes : List Byte) (framingFault : Bool)
  | samplesGoStale
  | referenceRecordStart
  | referenceRecordEnd
  | rampTick
  | dwellEnd
  | levelHoldTimeout
  | freezeExpiry
  | marginTimerExpiry
  | handbackTimerExpiry
  | drawSettle
  | startSettleExpiry
  | tenureTimerExpiry
  | beaconTimerExpiry
  | listenTimerExpiry
  | silenceTimerExpiry
  /-- `levels`: the levels read on LRX at the bit boundaries since the last one the state has read;
  `true` is recessive (R140, entry 10). -/
  | transmissionStart (levels : List Bool)
  | transmissionAbort
  | ownFrameEnd
  | beaconReceived (station : Nat) (fields : BeaconFields)
  | claimReceived (station : Nat) (fields : ClaimFields)
  | withdrawReceived (station : Nat) (kind : ClaimKind) (number : Nat)
  | releaseReceived (station : Nat) (reason : ReleaseReason)
  | clearReceived (station : Nat) (target : Nat)
  | eventBeginReceived (station : Nat) (epoch : Nat)
  | eventReadyReceived (station : Nat) (epoch : Nat) (limit : Nat)
  /-- `bytes`, `framingFault`: the frame as read on LRX (R148). -/
  | badFrameReceived (bytes : List Byte) (framingFault : Bool)
  /-- `kind`: the kind of the valid frame that carries the own number (R153). -/
  | duplicateStation (kind : FrameKind)
  | peerSuspect (k : Nat)
  | peerLost (k : Nat)
  | claimLifetimeExpiry (station : Nat) (kind : ClaimKind)
  /-- `raw`: the raw levels the 1 ms sample finds (R157). -/
  | inputFilterSample (raw : InputLevels)
deriving DecidableEq, Repr

end Sys2Proof
end

