-- ==== Sys2Proof/WellFormed.lean ====
section
/-! DEFINITION. Which operand values a command can carry: the ranges that the layouts of 11_formats.md
leave for each field. The types already bound parameter bytes, strap pins and the enumerated fields. -/

namespace Sys2Proof

/-- A beacon's fields fit their layout (R186): the receiver takes urgency from two bits, each settled
number from four, and every other number from one or two bytes. -/
def BeaconFields.wf (b : BeaconFields) : Bool :=
  decide (b.sequence < 256) && decide (b.periodCode < 256) && decide (b.urgency < 4)
    && decide (b.draw < 65536) && decide (b.speed < 65536) && decide (b.deadline < 65536)
    && decide (b.settledDraw < 16) && decide (b.settledStart < 16)
    && decide (b.epoch < 256) && decide (b.limit < 65536)

/-- A claim's fields fit their layout (R186). -/
def ClaimFields.wf (c : ClaimFields) : Bool :=
  decide (c.number < 16) && decide (c.urgency < 4) && decide (c.deadline < 65536)
    && decide (c.amount < 65536) && decide (c.settle < 256)

/-- A station number as the straps can name one (R178). -/
def stationOk (n : Nat) : Bool := decide (n < 8)

/-- The operands of a command fit the fields they come from. -/
def Instr.wf : Instr → Bool
  | .commandRecordRejected bytes => !bytes.isEmpty
  | .beaconReceived station b => stationOk station && b.wf
  | .claimReceived station c => stationOk station && c.wf
  | .withdrawReceived station _ number => stationOk station && decide (number < 16)
  | .releaseReceived station _ => stationOk station
  | .clearReceived station target => stationOk station && decide (target < 256)
  | .eventBeginReceived station epoch => stationOk station && decide (epoch < 256)
  | .eventReadyReceived station epoch limit =>
    stationOk station && decide (epoch < 256) && decide (limit < 65536)
  | .peerSuspect k => stationOk k
  | .peerLost k => stationOk k
  | .claimLifetimeExpiry station _ => stationOk station
  | .nop | .identify | .loadStrand _ | .loadCause _ | .loadSlice _ | .join | .cast | .park
  | .stop _ | .release | .take | .tundishBegin | .tundishReady _ | .getStatus | .getPeer _
  | .getClaims | .getReport _ | .getFault | .clearFault | .softReset _ | .emptyFrame | .pinReset _
  | .strapLatched _ | .inputEdgeAccepted _ | .sampleRecord _ _ | .samplesGoStale
  | .referenceRecordStart | .referenceRecordEnd | .rampTick | .dwellEnd | .levelHoldTimeout
  | .freezeExpiry | .marginTimerExpiry | .handbackTimerExpiry | .drawSettle | .startSettleExpiry
  | .tenureTimerExpiry | .beaconTimerExpiry | .listenTimerExpiry | .silenceTimerExpiry
  | .transmissionStart _ | .transmissionAbort | .ownFrameEnd | .badFrameReceived _ _
  | .duplicateStation _ | .inputFilterSample _ => true

end Sys2Proof
end

