-- ==== Sys2Proof/Decode.lean ====
section
/-! DEFINITION. The reading of a word by the opcode table's bits. No row of this block's table gives
bits, so no word spells a command. The reading of command records, line frames and sample records by
the layouts of 11_formats.md stands in Machine/Operands.lean. -/

namespace Sys2Proof

/-- The command that a word spells by the opcode table's bits: none, since no row of
spec/opcode_table.json has any bits ("fields": []). -/
def decodeTableWord (_nbits _w : Nat) : Option Instr := none

end Sys2Proof
end

