-- ==== Sys2Proof/Config.lean ====
section
/-! DEFINITION. The numbers the data book fixes for every DB4416, and the values it leaves open. What
the host configures is state (`Pst`). -/

namespace Sys2Proof.Config

/-- The ramp tick in ms (R52). -/
def rampTick : Nat := 100

/-- The highest speed in mm/min (R50). -/
def maxSpeed : Nat := 8000

/-- The depth of the context stack (R67). -/
def stackDepth : Nat := 3

/-- "Absent" in a 16-bit deadline or time field (00_scope.md, Time). -/
def absent16 : Nat := 65535

/-- The gauge-fault value of the mould level (R161). -/
def gaugeFault : Nat := 4095

/-- The bytes of a sample record (R160). -/
def sampleLength : Nat := 6

/-- The lifetime in ms of a claim whose station has sent no beacon (R128). -/
def unknownLifetime : Nat := 2000

/-- What a bad frame adds to the deaf counter (R149). -/
def badFrameWeight : Nat := 4

/-- The identity bytes IDENTIFY returns (11_formats.md). -/
def identity : List Byte := [0x44#8, 0x42#8, 0x44#8, 0x16#8]

/-- What SDO drives in a frame that the station ignores, after the given number of SCLK pulses: R168 says
that the pin is driven and names no level. A free value (entry 40). -/
opaque ignoredSdo : Nat → Bool

end Sys2Proof.Config
end

