-- ==== Sys2Proof/Machine/State.lean ====
section
/-! DEFINITION. The state of one DB4416: one record for each of its eight blocks (00_scope.md,
Functional Blocks), the timebase, and the queue of waiting commands. Plain data throughout. -/

namespace Sys2Proof.Machine

/-- One value for each cause. -/
structure PerCause (α : Type) where
  dip : α
  tundish : α
  breakout : α
  hold : α
deriving DecidableEq, Repr

/-! ### Profile Store (03) -/

/-- A point record (R44). -/
structure Point where
  target : Nat
  slew : Nat
  dwell : Nat
  levelGate : Bool
  last : Bool
deriving DecidableEq, Repr

/-- The point every slice holds after reset (R44). -/
def Point.reset : Point :=
  { target := 0, slew := 1, dwell := 0, levelGate := false, last := true }

/-- A slice: eight points. -/
abbrev Slice := Vector Point 8

/-- A cause table entry (R45). `p1 = none` is NONE. -/
structure CauseEntry where
  p0 : Fin 24
  p1 : Option (Fin 24)
  holdSpeed : Nat
  freezeCode : Nat
  marginCode : Nat
  baseUrgency : Nat
  levelTarget : Nat
  bandHalf : Nat
  levelHoldCode : Nat
deriving DecidableEq, Repr

/-- The cause entry after reset (R45). -/
def CauseEntry.reset : CauseEntry :=
  { p0 := 0, p1 := none, holdSpeed := 0, freezeCode := 0, marginCode := 0, baseUrgency := 0,
    levelTarget := 0, bandHalf := 0, levelHoldCode := 0 }

/-- Where a station takes its line limit from (R80). -/
inductive LimitSource where
  | line | localSource
deriving DecidableEq, Repr

/-- The strand record (R46). -/
structure StrandRecord where
  mass : Nat
  initialLimit : Nat
  limitSource : LimitSource
  periodCode : Nat
  settleTime : Nat
  lossCount : Nat
  deafThreshold : Nat
  soloAllowance : Nat
  creepThreshold : Nat
  chunk : Nat
  minClaim : Nat
  startCode : Nat
  handbackCode : Nat
  staleTime : Nat
  filterTimes : PerInput Nat
deriving DecidableEq, Repr

/-- The strand record after reset (R46). -/
def StrandRecord.reset : StrandRecord :=
  { mass := 0, initialLimit := 0, limitSource := .line, periodCode := 20, settleTime := 40,
    lossCount := 4, deafThreshold := 32, soloAllowance := 0, creepThreshold := 50, chunk := 500,
    minClaim := 10, startCode := 40, handbackCode := 0, staleTime := 200,
    filterTimes := { supplyOk := 5, drvReady := 5, brkIn := 5, dummyIn := 5 } }

/-- The Profile Store: slices, cause table, strand record, and the ramp length of each cause as
computed at JOIN (R43, R47). -/
structure Pst where
  slices : Vector Slice 24
  causes : PerCause CauseEntry
  strand : StrandRecord
  rampLength : PerCause Nat
deriving DecidableEq, Repr

/-- The Profile Store after any reset (R43). The ramp lengths hold 0 until JOIN computes them:
DESIGN CHOICE, entry 23. -/
def Pst.reset : Pst :=
  { slices := Vector.replicate 24 (Vector.replicate 8 Point.reset)
    causes := { dip := CauseEntry.reset, tundish := CauseEntry.reset,
                breakout := CauseEntry.reset, hold := CauseEntry.reset }
    strand := StrandRecord.reset
    rampLength := { dip := 0, tundish := 0, breakout := 0, hold := 0 } }

/-! ### Restart Sequencer (01 to 04) -/

/-- A pending-cause record (R10); the cause is the place it stands at in the set. -/
structure PendingRecord where
  stopTime : Moment
  deadline : Option Moment
  epoch : Option Nat
  latch : Option Bool
deriving DecidableEq, Repr

/-- The pending-cause set: at most one record for each cause (R10). -/
abbrev PendingSet := PerCause (Option PendingRecord)

/-- The empty pending-cause set. -/
def PendingSet.empty : PendingSet := { dip := none, tundish := none, breakout := none, hold := none }

/-- The counters of one restart (R66). -/
structure Counters where
  pointsCompleted : Nat
  drawSettled : Nat
  drawWithdrawn : Nat
  startAttempts : Nat
  levelHoldTotal : Nat
  timesInterrupted : Nat
  earliestStop : Option Moment
  creepMoment : Option Moment
deriving DecidableEq, Repr

/-- The starting values of the counters (R66). -/
def Counters.start : Counters :=
  { pointsCompleted := 0, drawSettled := 0, drawWithdrawn := 0, startAttempts := 0,
    levelHoldTotal := 0, timesInterrupted := 0, earliestStop := none, creepMoment := none }

/-- A context record (R67). -/
structure Context where
  cause : Option Cause
  step : Nat
  resumeSpeed : Nat
  dwell : Nat
  levelHoldTime : Nat
  unmetDeadline : Option Moment
  baseUrgency : Nat
  counters : Counters
deriving DecidableEq, Repr

/-- The Restart Sequencer. AUTH, FLOW_CLOSE, the freeze timer and the margin timer are views
(Machine/Flags.lean, entries 19 and 21). The stack's head is its top. `tickPhase` counts the ms since the
last 100 ms step of RSQ's timebase (R52); `tickTaken` is the model's own mark that the ramp tick of the
present ms has been taken (entry 5). `baseUrgency` is the base urgency that a context saves and a pop
restores (R62, R67); `urgencyBase` is the base that the urgency stands on, fixed with it at entry to RAMPING
and from a pop on the one configured for the restored cause (R36; entry 12). -/
structure Rsq where
  state : SeqState
  pendingSet : PendingSet
  currentCause : Option Cause
  step : Nat
  dwell : Nat
  levelHoldTime : Nat
  levelHold : Bool
  speed : Nat
  stack : List Context
  carried : Option Moment
  baseUrgency : Nat
  urgencyBase : Nat
  counters : Counters
  handbackAt : Option Moment
  runReq : Bool
  urgency : Nat
  tickPhase : Nat
  tickTaken : Bool
deriving DecidableEq, Repr

/-- The sequencer after any reset (R2, R42, R65). -/
def Rsq.reset : Rsq :=
  { state := .unjoined, pendingSet := PendingSet.empty, currentCause := none, step := 0, dwell := 0,
    levelHoldTime := 0, levelHold := false, speed := 0, stack := [], carried := none,
    baseUrgency := 0, urgencyBase := 0, counters := Counters.start, handbackAt := none, runReq := false,
    urgency := 0, tickPhase := 0, tickTaken := false }

/-! ### Draw Budget Unit (05) -/

/-- The tundish phase (R80). -/
inductive Phase where
  | opened | ready
deriving DecidableEq, Repr

/-- The states of the own DRAW claim (05, The Own Draw Claim). -/
inductive DrawStatus where
  | none | waiting | sent | contending | holdoff
deriving DecidableEq, Repr

/-- The Draw Budget Unit. `claimNumber` is the number of the latest claim formed, and so of the own
claim while one stands; `needOfRunning` tells whether the running restart gave the need (R66). -/
structure Dbu where
  granted : Nat
  limit : Nat
  epoch : Nat
  phase : Phase
  learned : Bool
  mismatch : Bool
  claim : DrawStatus
  claimNumber : Nat
  amount : Nat
  need : Option Nat
  needOfRunning : Bool
  lastSettled : Nat
  settleAt : Option Moment
  overcommit : Bool
deriving DecidableEq, Repr

/-- The Draw Budget Unit after any reset (R101). -/
def Dbu.reset : Dbu :=
  { granted := 0, limit := 0, epoch := 0, phase := .ready, learned := false, mismatch := false,
    claim := .none, claimNumber := 0, amount := 0, need := none, needOfRunning := false,
    lastSettled := 0, settleAt := none, overcommit := false }

/-! ### Start Slot Unit (06) -/

/-- The states of the own START claim (06, The Own Start Claim). -/
inductive StartStatus where
  | none | sent | contending | waiting
deriving DecidableEq, Repr

/-- The Start Slot Unit. -/
structure Ssu where
  holder : Option Nat
  request : Bool
  claim : StartStatus
  claimNumber : Nat
  lastSettled : Nat
  settleAt : Option Moment
  tenure : Bool
  tenureAt : Option Moment
  clearPending : Bool
  attempts : Nat
  clearSent : Bool
deriving DecidableEq, Repr

/-- The Start Slot Unit after any reset (R118). -/
def Ssu.reset : Ssu :=
  { holder := none, request := false, claim := .none, claimNumber := 0, lastSettled := 0,
    settleAt := none, tenure := false, tenureAt := none, clearPending := false, attempts := 0,
    clearSent := false }

/-! ### Peer View Unit (07) -/

/-- The standing of a peer entry (R119). -/
inductive PeerStatus where
  | absent | live | suspect | lost
deriving DecidableEq, Repr

/-- A peer entry (R119). -/
structure PeerEntry where
  status : PeerStatus
  lastBeacon : Option Moment
  sequence : Nat
  missed : Nat
  periodCode : Nat
  state : SeqState
  cause : Option Cause
  urgency : Nat
  draw : Nat
  speed : Nat
  deadline : Option Moment
  auth : Bool
  slotHeld : Bool
  deaf : Bool
  limitLocal : Bool
  phaseReady : Bool
  settledDraw : Nat
  settledStart : Nat
  epoch : Nat
  limit : Nat
  releaseReason : Option ReleaseReason
deriving DecidableEq, Repr

/-- A peer entry after any reset (R136). -/
def PeerEntry.reset : PeerEntry :=
  { status := .absent, lastBeacon := none, sequence := 0, missed := 0, periodCode := 0,
    state := .unjoined, cause := none, urgency := 0, draw := 0, speed := 0, deadline := none,
    auth := false, slotHeld := false, deaf := false, limitLocal := false, phaseReady := false,
    settledDraw := 0, settledStart := 0, epoch := 0, limit := 0, releaseReason := none }

/-- Statuses an own entry of the claim list can have (R127). -/
inductive OwnStatus where
  | sent | contending | waiting
deriving DecidableEq, Repr

/-- Whose claim an entry is: a peer's (status PENDING) with the urgency and deadline heard and its
lifetime, or the own one with its status; the own urgency and deadline are live (R41, R127). -/
inductive ClaimOrigin where
  | peer (urgency : Nat) (deadline : Option Moment) (lifetime : Moment)
  | own (status : OwnStatus)
deriving DecidableEq, Repr

/-- A claim list entry (R127). -/
structure ClaimEntry where
  station : Nat
  kind : ClaimKind
  number : Nat
  amount : Nat
  origin : ClaimOrigin
deriving DecidableEq, Repr

/-- The Peer View Unit. The rank order of the list is formed when it is read (R129, entry 20). -/
structure Pvu where
  peers : Vector PeerEntry 8
  claims : List ClaimEntry
deriving DecidableEq, Repr

/-- The Peer View Unit after any reset (R136). -/
def Pvu.reset : Pvu := { peers := Vector.replicate 8 PeerEntry.reset, claims := [] }

/-! ### Line Controller (08) -/

/-- The line states (R150). -/
inductive LineState where
  | off | listen | active | deaf | barred
deriving DecidableEq, Repr

/-- A frame in the transmit queue: the fields fixed when it was queued (R144). -/
inductive QueuedFrame where
  | claim (kind : ClaimKind) (number amount settle : Nat)
  | withdraw (kind : ClaimKind) (number : Nat)
  | release (reason : ReleaseReason)
  | clear (target : Nat)
  | eventBegin (epoch : Nat)
  | eventReady (epoch limit : Nat)
deriving DecidableEq, Repr

/-- The BEACON slot: empty, holding a beacon, or holding an aborted beacon that is the head (R141). -/
inductive BeaconSlot where
  | empty | queued | retry
deriving DecidableEq, Repr

/-- A composed frame after its header (R144, R186). -/
inductive FrameBody where
  | beacon (fields : BeaconFields)
  | claim (fields : ClaimFields)
  | withdraw (kind : ClaimKind) (number : Nat)
  | release (reason : ReleaseReason)
  | clear (target : Nat)
  | eventBegin (epoch : Nat)
  | eventReady (epoch limit : Nat)
deriving DecidableEq, Repr

/-- A composed frame: sender and body. -/
structure LineFrame where
  station : Nat
  body : FrameBody
deriving DecidableEq, Repr

/-- The frame in the transmitter, and the number of its bits that have been sent (R137, R141). -/
structure Transmission where
  frame : LineFrame
  sent : Nat
deriving DecidableEq, Repr

/-- The Line Controller. `queue` holds the six slots other than BEACON, in the order queued (R142).
`quiet` is the quiet time in bit times (R140), `charLeft` the number of bits still to come of the
character on LRX (R137), `synced` whether the receiver has seen 10 bit times of quiet since JOIN
(R138). -/
structure Lnc where
  line : LineState
  queue : List QueuedFrame
  beacon : BeaconSlot
  tx : Option Transmission
  beaconAt : Option Moment
  listenAt : Option Moment
  silenceAt : Option Moment
  sequence : Nat
  deafCount : Nat
  quiet : Option Nat
  charLeft : Nat
  synced : Bool
deriving DecidableEq, Repr

/-- The Line Controller after any reset (R155). -/
def Lnc.reset : Lnc :=
  { line := .off, queue := [], beacon := .empty, tx := none, beaconAt := none, listenAt := none,
    silenceAt := none, sequence := 0, deafCount := 0, quiet := none, charLeft := 0, synced := false }

/-! ### Strand Port Unit (09) -/

/-- The filter of one input: the level of the pin as last sampled, the filtered value, the stability
count (R157). -/
structure FilterState where
  raw : Bool
  filtered : Bool
  count : Nat
deriving DecidableEq, Repr

/-- A filter at reset release: the filtered value is the raw level (R156). -/
def FilterState.reset (raw : Bool) : FilterState :=
  { raw := raw, filtered := raw, count := 0 }

/-- A held sample value with the moment it was taken and its freshness (R161, R162). A value that no
record has given, which a reset leaves, has no moment: DESIGN CHOICE, entry 41. -/
structure Held where
  value : Nat
  takenAt : Option Moment
  fresh : Bool
deriving DecidableEq, Repr

/-- A reference record as composed at its start (R164), and the moment of its start: the ms and the µs
within it. -/
structure ReferenceRecord where
  sequence : Nat
  speed : Nat
  auth : Bool
  runReq : Bool
  flowClose : Bool
  startedAt : Moment
  startedMicros : Nat
deriving DecidableEq, Repr

/-- The Strand Port Unit. `sampled` is the model's own mark that the inputs have been sampled in the
present ms (entry 9). `search` stands while the sample receiver, after a reset, looks for its 10 bit times
of idle: the µs of idle on SRX that it has seen (R156; entry 43). -/
structure Spu where
  inputs : PerInput FilterState
  sampled : Bool
  search : Option Nat
  feedback : Held
  level : Held
  staleMark : Bool
  refSequence : Nat
  refTx : Option ReferenceRecord
  refWaiting : Bool
deriving DecidableEq, Repr

/-- The Strand Port Unit at a reset that finds the input pins at `raw` (R156). R156 gives F and the level
and calls them stale; the moment at which they were taken it does not give, and they have none, so no
stale time makes them fresh: DESIGN CHOICE, entry 41. The first sample falls at the next ms: DESIGN
CHOICE, entry 9. The sample receiver looks for 10 bit times of idle. -/
def Spu.reset (raw : InputLevels) : Spu :=
  { inputs := { supplyOk := FilterState.reset raw.supplyOk
                drvReady := FilterState.reset raw.drvReady
                brkIn := FilterState.reset raw.brkIn
                dummyIn := FilterState.reset raw.dummyIn }
    sampled := true
    search := some 0
    feedback := { value := 0, takenAt := none, fresh := false }
    level := { value := 4095, takenAt := none, fresh := false }
    staleMark := false, refSequence := 0, refTx := none, refWaiting := false }

/-! ### Command Port and Notice Unit (10) -/

/-- The status of a reply (R171). -/
inductive Status where
  | ok | refusedState | refusedParam | unknown | badCheck | badLength | powerUp | reset
deriving DecidableEq, Repr

/-- The reply record in the reply buffer (R169); its length and check bytes follow from these. -/
structure Reply where
  status : Status
  code : Byte
  data : List Byte
deriving DecidableEq, Repr

/-- The event notices (R181). The condition notices are views. -/
structure EventNotices where
  stopTaken : Bool
  rampStarted : Bool
  reportReady : Bool
  limitChanged : Bool
  lineChanged : Bool
deriving DecidableEq, Repr

/-- No event notice present. -/
def EventNotices.empty : EventNotices :=
  { stopTaken := false, rampStarted := false, reportReady := false, limitChanged := false,
    lineChanged := false }

/-- The fault kinds (R183). NONE is `none` of `Option FaultKind`. -/
inductive FaultKind where
  | freezeExpired | startTimeout | stackDrop | levelHoldTimeout | handbackOverdue | lineDeaf
  | duplicateStation | holderLost | overcommit | limitMismatch | fieldStale
deriving DecidableEq, Repr

/-- The fault record (R182). -/
structure FaultRecord where
  locked : Bool
  kind : Option FaultKind
  state : SeqState
  cause : Option Cause
  step : Nat
  time : Nat
  detail : Nat
  multiple : Bool
  later : Nat
deriving DecidableEq, Repr

/-- The clear fault record (R182). -/
def FaultRecord.clear : FaultRecord :=
  { locked := false, kind := none, state := .unjoined, cause := none, step := 0, time := 0,
    detail := 0, multiple := false, later := 0 }

/-- The outcomes of a report (R73), EMPTY included (R75). -/
inductive ReportOutcome where
  | empty | completed | resumed | abandoned | taken | parked | dropped
deriving DecidableEq, Repr

/-- A restart report (R73). -/
structure Report where
  cause : Option Cause
  outcome : ReportOutcome
  pointsCompleted : Nat
  lastStep : Option Nat
  pointsLeft : Nat
  finalSpeed : Nat
  timeToCreep : Option Nat
  drawSettled : Nat
  drawWithdrawn : Nat
  startAttempts : Nat
  levelHoldTotal : Nat
  timesInterrupted : Nat
deriving DecidableEq, Repr

/-- An entry of the ring that has never been written (R75). -/
def Report.empty : Report :=
  { cause := none, outcome := .empty, pointsCompleted := 0, lastStep := none, pointsLeft := 0,
    finalSpeed := 0, timeToCreep := none, drawSettled := 0, drawWithdrawn := 0, startAttempts := 0,
    levelHoldTotal := 0, timesInterrupted := 0 }

/-- The strap latch before it is set (R178). -/
def StrapPins.unlatched : StrapPins := { station := 0, count := 0, lrate := false }

/-- The sampling of the seven strap pins (R178): the levels they show, the latest sample since the release
of RST_N, and the model's own mark that they have been sampled in the present ms (entry 18). -/
structure StrapSampler where
  pins : StrapPins
  last : Option StrapPins
  taken : Bool
deriving DecidableEq, Repr

/-- The strap sampling at a reset release that finds the strap pins at `pins`: no sample has been taken,
and the first falls at the next ms (R178; entry 18). -/
def StrapSampler.reset (pins : StrapPins) : StrapSampler := { pins := pins, last := none, taken := true }

/-- The SPI side of the command port (R168): CS_N is low, the frame under way is ignored because a reset
release found CS_N low, the bits sampled on SDI in the latest frame, oldest first, and the number of
falling SCLK edges in it. -/
structure Spi where
  csLow : Bool
  ignoring : Bool
  bits : List Bool
  shifted : Nat
deriving DecidableEq, Repr

/-- The SPI side with CS_N high and no frame received. -/
def Spi.idle : Spi := { csLow := false, ignoring := false, bits := [], shifted := 0 }

/-- The Command Port and Notice Unit. -/
structure Cpn where
  spi : Spi
  reply : Reply
  events : EventNotices
  fault : FaultRecord
  ring : Vector Report 4
  straps : StrapPins
  strapDone : Bool
  strapSampler : StrapSampler
deriving DecidableEq, Repr

/-- The POWER_UP reply (R169). -/
def Reply.powerUp : Reply := { status := .powerUp, code := 0, data := [] }

/-- The command port after a pin reset that finds CS_N high (R179) and the strap pins low (entry 7). -/
def Cpn.reset : Cpn :=
  { spi := Spi.idle, reply := Reply.powerUp, events := EventNotices.empty, fault := FaultRecord.clear,
    ring := Vector.replicate 4 Report.empty, straps := StrapPins.unlatched, strapDone := false,
    strapSampler := StrapSampler.reset { station := 0, count := 0, lrate := false } }

/-! ### The station -/

/-- The state of the station, and the commands that wait for it, oldest first. `rstLow` is the RST_N pin
at its low level (R156, R168, R179). `micros` is the time within the present ms, in µs, counted by bit
times of the line (R137, entry 10). -/
structure State where
  rstLow : Bool
  now : Moment
  micros : Nat
  joinedAt : Option Moment
  rsq : Rsq
  pst : Pst
  dbu : Dbu
  ssu : Ssu
  pvu : Pvu
  lnc : Lnc
  spu : Spu
  cpn : Cpn
  pending : List Instr
deriving DecidableEq, Repr

/-- The station at the release of a pin reset that finds the input pins at `raw` (R2, R30, R43, R101,
R118, R136, R155, R156, R179), with an empty queue. -/
def State.afterPinReset (raw : InputLevels) : State :=
  { rstLow := false, now := 0, micros := 0, joinedAt := none, rsq := Rsq.reset, pst := Pst.reset, dbu := Dbu.reset,
    ssu := Ssu.reset, pvu := Pvu.reset, lnc := Lnc.reset, spu := Spu.reset raw, cpn := Cpn.reset,
    pending := [] }

/-- The station right after pin reset. The four inputs and the seven straps are low and CS_N is high:
DESIGN CHOICE, the spec gives the pins no level (entry 7). -/
def State.reset : State := State.afterPinReset .allLow

/-- Reasons to stop with a machine fault. The data book gives the DB4416 none: its own faults are
captured in the fault record and "do not stop the station" (R182), so there is no constructor. -/
inductive Fault : Type
deriving DecidableEq, Repr

/-- Reasons to refuse a command. -/
inductive Refusal where
  /-- Raised by `exec` alone, for a row of the opcode table that has no meaning yet; no row is left
  so. Safe: nothing can be proved of the refused command. -/
  | notModelled (mnemonic : String)
deriving DecidableEq, Repr

end Sys2Proof.Machine
end

