-- ==== Sys2Proof/Machine/Operands.lean ====
section
/-! DEFINITION. The operand forms: bytes and checks, the codes of the enumerated fields, the layouts of
line frames, strand link records, command records and configuration records (11_formats.md), read and
written. Access by cause and by input stands here too. -/

namespace Sys2Proof.Machine

/-! ### Access by cause and by input -/

/-- The value kept for cause `c`. -/
def PerCause.get {α : Type} (p : PerCause α) : Cause → α
  | .dip => p.dip
  | .tundish => p.tundish
  | .breakout => p.breakout
  | .hold => p.hold

/-- `p` with the value for cause `c` replaced. -/
def PerCause.set {α : Type} (p : PerCause α) (c : Cause) (v : α) : PerCause α :=
  match c with
  | .dip => { p with dip := v }
  | .tundish => { p with tundish := v }
  | .breakout => { p with breakout := v }
  | .hold => { p with hold := v }

/-- The causes in order of precedence (R12). -/
def allCauses : List Cause := [.dip, .tundish, .breakout, .hold]

/-- The value kept for input `i`. -/
def inputGet {α : Type} (p : PerInput α) : Input → α
  | .supplyOk => p.supplyOk
  | .drvReady => p.drvReady
  | .brkIn => p.brkIn
  | .dummyIn => p.dummyIn

/-- `p` with the value for input `i` replaced. -/
def inputSet {α : Type} (p : PerInput α) (i : Input) (v : α) : PerInput α :=
  match i with
  | .supplyOk => { p with supplyOk := v }
  | .drvReady => { p with drvReady := v }
  | .brkIn => { p with brkIn := v }
  | .dummyIn => { p with dummyIn := v }

/-! ### Bytes and checks -/

/-- A number as one byte, modulo 256. -/
def byte (n : Nat) : Byte := BitVec.ofNat 8 n

/-- A number as two bytes, most significant first. -/
def bytes16 (n : Nat) : List Byte := [byte (n / 256), byte n]

/-- A number as four bytes, most significant first. -/
def bytes32 (n : Nat) : List Byte := bytes16 (n / 65536) ++ bytes16 n

/-- The number two bytes hold, most significant first. -/
def value16 (high low : Byte) : Nat := high.toNat * 256 + low.toNat

/-- A flag as a byte 00h or 01h. -/
def flagByte (b : Bool) : Byte := if b then 1 else 0

/-- A flag as the bit of weight `w`. -/
def flagBit (b : Bool) (w : Nat) : Nat := if b then w else 0

/-- One bit step of the line CRC: generator 1021h, most significant bit first (R139). -/
def crc16Bit (c : Word16) : Word16 := if c.msb then (c <<< 1) ^^^ 0x1021#16 else c <<< 1

/-- One byte step of the line CRC (R139). -/
def crc16Byte (c : Word16) (b : Byte) : Word16 :=
  (crc16Bit ∘ crc16Bit ∘ crc16Bit ∘ crc16Bit ∘ crc16Bit ∘ crc16Bit ∘ crc16Bit ∘ crc16Bit)
    (c ^^^ ((b.setWidth 16) <<< 8))

/-- The CRC of a line frame's bytes: initial value FFFFh (R139). -/
def crc16 (bs : List Byte) : Word16 := bs.foldl crc16Byte 0xFFFF#16

/-- One bit step of the strand link check: generator 07h (R160). -/
def crc8Bit (c : Byte) : Byte := if c.msb then (c <<< 1) ^^^ 0x07#8 else c <<< 1

/-- One byte step of the strand link check (R160). -/
def crc8Byte (c b : Byte) : Byte :=
  (crc8Bit ∘ crc8Bit ∘ crc8Bit ∘ crc8Bit ∘ crc8Bit ∘ crc8Bit ∘ crc8Bit ∘ crc8Bit) (c ^^^ b)

/-- The check of a strand link record: initial value 00h (R160). -/
def crc8 (bs : List Byte) : Byte := bs.foldl crc8Byte 0x00#8

/-- The sum of bytes modulo 256. -/
def byteSum (bs : List Byte) : Byte := bs.foldl (· + ·) 0#8

/-- The check byte of a command or reply record: the two's complement of the sum (R170). -/
def checkByte (bs : List Byte) : Byte := 0#8 - byteSum bs

/-! ### Codes of the enumerated fields (11_formats.md) -/

/-- The code of a cause, 00h for NONE. -/
def causeCode : Option Cause → Byte
  | none => 0x00
  | some .dip => 0x01
  | some .tundish => 0x02
  | some .breakout => 0x03
  | some .hold => 0x04

/-- The cause a beacon's cause byte names; `none` for a code that is not defined. -/
def causeOfCode (b : Byte) : Option (Option Cause) :=
  if b = 0x00 then some none
  else if b = 0x01 then some (some .dip)
  else if b = 0x02 then some (some .tundish)
  else if b = 0x03 then some (some .breakout)
  else if b = 0x04 then some (some .hold)
  else none

/-- The code of a sequencer state. -/
def seqStateCode : SeqState → Byte
  | .unjoined => 0x00
  | .parked => 0x01
  | .watch => 0x02
  | .stopped => 0x03
  | .queued => 0x04
  | .ramping => 0x05
  | .handback => 0x06
  | .abandoned => 0x07

/-- The sequencer state a byte names. -/
def seqStateOfCode (b : Byte) : Option SeqState :=
  if b = 0x00 then some .unjoined
  else if b = 0x01 then some .parked
  else if b = 0x02 then some .watch
  else if b = 0x03 then some .stopped
  else if b = 0x04 then some .queued
  else if b = 0x05 then some .ramping
  else if b = 0x06 then some .handback
  else if b = 0x07 then some .abandoned
  else none

/-- The code of a claim kind. -/
def claimKindCode : ClaimKind → Byte
  | .draw => 0x01
  | .start => 0x02

/-- The claim kind a byte names. -/
def claimKindOfCode (b : Byte) : Option ClaimKind :=
  if b = 0x01 then some .draw else if b = 0x02 then some .start else none

/-- The code of a RELEASE reason. -/
def reasonCode : ReleaseReason → Byte
  | .creep => 0x01
  | .cleared => 0x02
  | .timeout => 0x03
  | .stopped => 0x04

/-- The RELEASE reason a byte names. -/
def reasonOfCode (b : Byte) : Option ReleaseReason :=
  if b = 0x01 then some .creep
  else if b = 0x02 then some .cleared
  else if b = 0x03 then some .timeout
  else if b = 0x04 then some .stopped
  else none

/-- The code of a frame kind. -/
def frameKindCode : FrameKind → Byte
  | .beacon => 0x41
  | .claim => 0x42
  | .withdraw => 0x43
  | .release => 0x44
  | .clear => 0x45
  | .event => 0x46

/-- The length in bytes of a frame of a kind. -/
def frameLength : FrameKind → Nat
  | .beacon => 20
  | .claim => 12
  | .withdraw => 6
  | .release => 5
  | .clear => 5
  | .event => 8

/-- The code of a reply status. -/
def statusCode : Status → Byte
  | .ok => 0x00
  | .refusedState => 0x01
  | .refusedParam => 0x02
  | .unknown => 0x03
  | .badCheck => 0x04
  | .badLength => 0x05
  | .powerUp => 0x06
  | .reset => 0x07

/-- The code of a fault kind, 00h for NONE. -/
def faultKindCode : Option FaultKind → Byte
  | none => 0x00
  | some .freezeExpired => 0x01
  | some .startTimeout => 0x02
  | some .stackDrop => 0x03
  | some .levelHoldTimeout => 0x04
  | some .handbackOverdue => 0x05
  | some .lineDeaf => 0x06
  | some .duplicateStation => 0x07
  | some .holderLost => 0x08
  | some .overcommit => 0x09
  | some .limitMismatch => 0x0A
  | some .fieldStale => 0x0B

/-- The code of a report outcome. -/
def outcomeCode : ReportOutcome → Byte
  | .empty => 0x00
  | .completed => 0x01
  | .resumed => 0x02
  | .abandoned => 0x03
  | .taken => 0x04
  | .parked => 0x05
  | .dropped => 0x06

/-- The code of a line state. -/
def lineStateCode : LineState → Byte
  | .off => 0x00
  | .listen => 0x01
  | .active => 0x02
  | .deaf => 0x03
  | .barred => 0x04

/-- The code of a peer entry's status. -/
def peerStatusCode : PeerStatus → Byte
  | .absent => 0x00
  | .live => 0x01
  | .suspect => 0x02
  | .lost => 0x03

/-- The code of a tundish phase. -/
def phaseCode : Phase → Byte
  | .opened => 0x00
  | .ready => 0x01

/-! ### Restart line frames (R138, R186) -/

/-- The kind of a frame body. -/
def FrameBody.frameKind : FrameBody → FrameKind
  | .beacon _ => .beacon
  | .claim _ => .claim
  | .withdraw _ _ => .withdraw
  | .release _ => .release
  | .clear _ => .clear
  | .eventBegin _ => .event
  | .eventReady _ _ => .event

/-- The flag byte of a BEACON. -/
def beaconFlags (b : BeaconFields) : Nat :=
  flagBit b.auth 1 + flagBit b.slotHeld 2 + flagBit b.deaf 4 + flagBit b.limitLocal 8
    + flagBit b.phaseReady 16

/-- The bytes of a frame between its header and its CRC. -/
def FrameBody.bytes : FrameBody → List Byte
  | .beacon b =>
    [byte b.sequence, byte b.periodCode, seqStateCode b.state, causeCode b.cause, byte b.urgency]
      ++ bytes16 b.draw ++ bytes16 b.speed ++ bytes16 b.deadline
      ++ [byte (beaconFlags b), byte (b.settledDraw * 16 + b.settledStart), byte b.epoch]
      ++ bytes16 b.limit
  | .claim c =>
    [claimKindCode c.kind, byte c.number, byte c.urgency] ++ bytes16 c.deadline
      ++ bytes16 c.amount ++ [byte c.settle]
  | .withdraw kind number => [claimKindCode kind, byte number]
  | .release reason => [reasonCode reason]
  | .clear target => [byte target]
  | .eventBegin epoch => [0x01#8, byte epoch, 0x00#8, 0x00#8]
  | .eventReady epoch limit => [0x02#8, byte epoch] ++ bytes16 limit

/-- The bytes of a frame before its CRC: header and body. -/
def LineFrame.content (f : LineFrame) : List Byte :=
  [frameKindCode f.body.frameKind, byte f.station] ++ f.body.bytes

/-- The two CRC bytes of a frame's content. -/
def crcBytes (content : List Byte) : List Byte := bytes16 (crc16 content).toNat

/-- A frame as its transmitter composes it (R139, R186). -/
def LineFrame.bytes (f : LineFrame) : List Byte := f.content ++ crcBytes f.content

/-- Is bit `i` of byte `b` set? -/
def bitSet (b : Byte) (i : Nat) : Bool := b.toNat.testBit i

/-- The fields of a beacon from its bytes; `none` when an enumerated field holds a code that is not
defined. Bits outside the layout are ignored (R186). -/
def readBeacon (sq pc ss ca ur rh rl sh sl dh dl fl sn ep lh ll : Byte) : Option BeaconFields :=
  match seqStateOfCode ss, causeOfCode ca with
  | some state, some cause =>
    some { sequence := sq.toNat, periodCode := pc.toNat, state := state, cause := cause,
           urgency := ur.toNat % 4, draw := value16 rh rl, speed := value16 sh sl,
           deadline := value16 dh dl, auth := bitSet fl 0, slotHeld := bitSet fl 1,
           deaf := bitSet fl 2, limitLocal := bitSet fl 3, phaseReady := bitSet fl 4,
           settledDraw := sn.toNat / 16, settledStart := sn.toNat % 16, epoch := ep.toNat,
           limit := value16 lh ll }
  | _, _ => none

/-- The fields of a claim from its bytes (R186). -/
def readClaim (kd nr ur dh dl ah al st : Byte) : Option ClaimFields :=
  match claimKindOfCode kd with
  | some kind =>
    some { kind := kind, number := nr.toNat % 16, urgency := ur.toNat % 4,
           deadline := value16 dh dl, amount := value16 ah al, settle := st.toNat }
  | none => none

/-- The body of an EVENT from its bytes: the limit of a BEGIN is not read (R186). -/
def readEvent (sub ep lh ll : Byte) : Option FrameBody :=
  if sub = 0x01 then some (.eventBegin ep.toNat)
  else if sub = 0x02 then some (.eventReady ep.toNat (value16 lh ll))
  else none

/-- The body of a frame of kind byte `kind` from the bytes between header and CRC; `none` on a wrong
length, an unknown kind or an undefined code (R148, R186). -/
def readBody (kind : Byte) (body : List Byte) : Option FrameBody :=
  if kind = 0x41 then
    match body with
    | [sq, pc, ss, ca, ur, rh, rl, sh, sl, dh, dl, fl, sn, ep, lh, ll] =>
      (readBeacon sq pc ss ca ur rh rl sh sl dh dl fl sn ep lh ll).map .beacon
    | _ => none
  else if kind = 0x42 then
    match body with
    | [kd, nr, ur, dh, dl, ah, al, st] => (readClaim kd nr ur dh dl ah al st).map .claim
    | _ => none
  else if kind = 0x43 then
    match body with
    | [kd, nr] => (claimKindOfCode kd).map fun k => .withdraw k (nr.toNat % 16)
    | _ => none
  else if kind = 0x44 then
    match body with
    | [r] => (reasonOfCode r).map .release
    | _ => none
  else if kind = 0x45 then
    match body with
    | [t] => some (.clear t.toNat)
    | _ => none
  else if kind = 0x46 then
    match body with
    | [sub, ep, lh, ll] => readEvent sub ep lh ll
    | _ => none
  else none

/-- Reads the content of a frame, CRC removed. -/
def readContent : List Byte → Option LineFrame
  | kind :: station :: body => (readBody kind body).map fun b => { station := station.toNat, body := b }
  | _ => none

/-- The frame that `bs` holds when it passes the reception checks of R148 on a caster of `strands`
strands, and `none` when it is bad. -/
def validFrame (strands : Nat) (bs : List Byte) (framingFault : Bool) : Option LineFrame :=
  let content := bs.take (bs.length - 2)
  if framingFault = true ∨ bs.length < 4 ∨ bs.drop (bs.length - 2) ≠ crcBytes content then none
  else
    match readContent content with
    | some f => if f.station < strands then some f else none
    | none => none

/-- The bits of one character on the line or the strand link: start bit, eight data bits with the
least significant first, stop bit; `true` is recessive (R137, R160). -/
def characterBits (b : Byte) : List Bool :=
  [false, b.getLsbD 0, b.getLsbD 1, b.getLsbD 2, b.getLsbD 3, b.getLsbD 4, b.getLsbD 5, b.getLsbD 6,
    b.getLsbD 7, true]

/-- The bits of a run of characters sent back to back (R138). -/
def frameBits (bs : List Byte) : List Bool := bs.flatMap characterBits

/-! ### Strand link records (R160, R164) -/

/-- The bytes of a reference record (11_formats.md, Strand Link Records). -/
def ReferenceRecord.bytes (r : ReferenceRecord) : List Byte :=
  let content := [0x52#8, byte r.sequence] ++ bytes16 r.speed
    ++ [byte (flagBit r.auth 1 + flagBit r.runReq 2 + flagBit r.flowClose 4)]
  content ++ [crc8 content]

/-- F and level of a sample record as carried, or `none` when the record is discarded (R160). -/
def readSample (bs : List Byte) (framingFault : Bool) : Option (Nat × Nat) :=
  match bs with
  | [kind, fh, fl, lh, ll, check] =>
    if framingFault = false ∧ kind = 0x53 ∧ check = crc8 [kind, fh, fl, lh, ll] then
      some (value16 fh fl, value16 lh ll)
    else none
  | _ => none

/-- A record of `n` bytes that ends `micros` µs into the receiver's search has its first start bit after
10 bit times of idle: before its end lie its characters and the 10 bit times of idle that close it, at
2304 bit times in 10 ms (R156, R160). -/
def recordSearched (n micros : Nat) : Bool := decide ((10 * n + 20) * 10000 ≤ micros * 2304)

/-! ### Command and reply records (R170, R187) -/

/-- A reply record as it is clocked out (R169, R187). -/
def Reply.bytes (r : Reply) : List Byte :=
  let content := [statusCode r.status, r.code, byte r.data.length] ++ r.data
  content ++ [checkByte content]

/-- The first `n` bytes a frame of `n` bytes clocks out: the reply, then 00h (R168). -/
def Reply.shiftOut (r : Reply) (n : Nat) : List Byte :=
  (r.bytes ++ List.replicate n 0x00#8).take n

/-- The bits of a byte on SDI and SDO, most significant first (R168). -/
def spiBits (b : Byte) : List Bool :=
  [b.getLsbD 7, b.getLsbD 6, b.getLsbD 5, b.getLsbD 4, b.getLsbD 3, b.getLsbD 2, b.getLsbD 1,
    b.getLsbD 0]

/-- The byte that eight bits spell, most significant first (R168). -/
def byteOfBits (bits : List Bool) : Byte := bits.foldl (fun b x => (b <<< 1) ||| (flagByte x)) 0#8

/-- The complete bytes among the bits of a frame; bits after the last complete byte are discarded
(R168). -/
def completeBytes : List Bool → List Byte
  | a :: b :: c :: d :: e :: f :: g :: h :: rest =>
    byteOfBits [a, b, c, d, e, f, g, h] :: completeBytes rest
  | _ => []

/-- The parameter length of the command with a code; `none` when the code is no command. -/
def paramLength (code : Byte) : Option Nat :=
  match code.toNat with
  | 0x01 => some 0 | 0x02 => some 0 | 0x10 => some 25 | 0x11 => some 13 | 0x12 => some 41
  | 0x13 => some 0 | 0x20 => some 0 | 0x21 => some 0 | 0x22 => some 1 | 0x23 => some 0
  | 0x24 => some 0 | 0x28 => some 0 | 0x29 => some 2 | 0x30 => some 0 | 0x31 => some 1
  | 0x32 => some 0 | 0x33 => some 1 | 0x34 => some 0 | 0x35 => some 0 | 0x3F => some 0
  | _ => none

/-- The status with which the port rejects the complete bytes of a frame, in the order of R170;
`none` when the record passes all four checks. -/
def recordFailure (bs : List Byte) : Option Status :=
  match bs with
  | code :: len :: _ :: _ =>
    if bs.length < 3 + len.toNat then some .badLength
    else if byteSum (bs.take (3 + len.toNat)) ≠ 0#8 then some .badCheck
    else
      match paramLength code with
      | none => some .unknown
      | some n => if n = len.toNat then none else some .badLength
  | _ => some .badLength

/-- A command record: code, length, parameters, check (R170). -/
def commandRecord (code : Byte) (params : List Byte) : List Byte :=
  let content := code :: byte params.length :: params
  content ++ [checkByte content]

/-- The code and parameter bytes of a host command; `none` for the other rows. -/
def hostCommand : Instr → Option (Byte × List Byte)
  | .nop => some (0x01, [])
  | .identify => some (0x02, [])
  | .loadStrand p => some (0x10, p.toList)
  | .loadCause p => some (0x11, p.toList)
  | .loadSlice p => some (0x12, p.toList)
  | .join => some (0x13, [])
  | .cast => some (0x20, [])
  | .park => some (0x21, [])
  | .stop code => some (0x22, [code])
  | .release => some (0x23, [])
  | .take => some (0x24, [])
  | .tundishBegin => some (0x28, [])
  | .tundishReady limit => some (0x29, bytes16 limit.toNat)
  | .getStatus => some (0x30, [])
  | .getPeer k => some (0x31, [k])
  | .getClaims => some (0x32, [])
  | .getReport k => some (0x33, [k])
  | .getFault => some (0x34, [])
  | .clearFault => some (0x35, [])
  | .softReset _ => some (0x3F, [])
  | _ => none

/-- The first `n` bytes of a list as a vector. -/
def takeVector (n : Nat) (l : List Byte) : Vector Byte n := Vector.ofFn fun i => l.getD i.val 0#8

/-- The host command with a code and parameter bytes; `raw` is what a RESET finds on the input pins. -/
def readCommand (raw : InputLevels) (code : Byte) (params : List Byte) : Option Instr :=
  match code.toNat with
  | 0x01 => some .nop
  | 0x02 => some .identify
  | 0x10 => some (.loadStrand (takeVector 25 params))
  | 0x11 => some (.loadCause (takeVector 13 params))
  | 0x12 => some (.loadSlice (takeVector 41 params))
  | 0x13 => some .join
  | 0x20 => some .cast
  | 0x21 => some .park
  | 0x22 => some (.stop (params.getD 0 0#8))
  | 0x23 => some .release
  | 0x24 => some .take
  | 0x28 => some .tundishBegin
  | 0x29 => some (.tundishReady (BitVec.ofNat 16 (value16 (params.getD 0 0#8) (params.getD 1 0#8))))
  | 0x30 => some .getStatus
  | 0x31 => some (.getPeer (params.getD 0 0#8))
  | 0x32 => some .getClaims
  | 0x33 => some (.getReport (params.getD 0 0#8))
  | 0x34 => some .getFault
  | 0x35 => some .clearFault
  | 0x3F => some (.softReset raw)
  | _ => none

/-- The row of the opcode table that a frame of the command port is, by its complete bytes: an empty
frame (R169), a rejected record (R170), or the command of a record that passes the checks. Bytes after
the record are ignored. `raw` is what the input pins show at the end of the frame. -/
def commandOfFrame (raw : InputLevels) (bs : List Byte) : Instr :=
  match bs with
  | [] => .emptyFrame
  | code :: rest =>
    if (recordFailure bs).isSome then .commandRecordRejected bs
    else
      (readCommand raw code ((rest.drop 1).take (rest.headD 0#8).toNat)).getD (.commandRecordRejected bs)

/-! ### Configuration records (R173 to R175) -/

/-- Every field of a strand record lies in its accepted range (R175). -/
def StrandRecord.inRange (r : StrandRecord) : Bool :=
  decide (20 ≤ r.mass ∧ r.mass ≤ 2000) && decide (r.initialLimit ≤ 65535)
    && decide (5 ≤ r.periodCode ∧ r.periodCode ≤ 100)
    && decide (10 ≤ r.settleTime ∧ r.settleTime ≤ 250)
    && decide (2 ≤ r.lossCount ∧ r.lossCount ≤ 15)
    && decide (8 ≤ r.deafThreshold ∧ r.deafThreshold ≤ 96)
    && decide (r.soloAllowance ≤ 16000)
    && decide (1 ≤ r.creepThreshold ∧ r.creepThreshold ≤ 500)
    && decide (10 ≤ r.chunk ∧ r.chunk ≤ 16000)
    && decide (1 ≤ r.minClaim ∧ r.minClaim ≤ 1000 ∧ r.minClaim ≤ r.chunk)
    && decide (r.startCode ≤ 255) && decide (r.handbackCode ≤ 255)
    && decide (50 ≤ r.staleTime ∧ r.staleTime ≤ 2000)
    && decide (r.filterTimes.supplyOk ≤ 15) && decide (r.filterTimes.drvReady ≤ 15)
    && decide (r.filterTimes.brkIn ≤ 15) && decide (r.filterTimes.dummyIn ≤ 15)

/-- The limit source a byte names (R187). -/
def limitSourceOfCode (b : Byte) : Option LimitSource :=
  if b = 0x00 then some .line else if b = 0x01 then some .localSource else none

/-- The fields of LOAD_STRAND's parameters, before the range check. -/
def strandFields (p : Vector Byte 25) (source : LimitSource) : StrandRecord :=
  { mass := value16 p[0] p[1], initialLimit := value16 p[2] p[3], limitSource := source,
    periodCode := p[5].toNat, settleTime := p[6].toNat, lossCount := p[7].toNat,
    deafThreshold := p[8].toNat, soloAllowance := value16 p[9] p[10],
    creepThreshold := value16 p[11] p[12], chunk := value16 p[13] p[14],
    minClaim := value16 p[15] p[16], startCode := p[17].toNat, handbackCode := p[18].toNat,
    staleTime := value16 p[19] p[20],
    filterTimes := { supplyOk := p[21].toNat, drvReady := p[22].toNat, brkIn := p[23].toNat,
                     dummyIn := p[24].toNat } }

/-- The strand record that LOAD_STRAND's parameters hold, or `none` when one is refused (R175). -/
def readStrand (p : Vector Byte 25) : Option StrandRecord :=
  match limitSourceOfCode p[4] with
  | some source => if (strandFields p source).inRange then some (strandFields p source) else none
  | none => none

/-- The ranges of a cause entry for its cause (R174). -/
def CauseEntry.inRange (e : CauseEntry) (c : Cause) : Bool :=
  decide (e.holdSpeed ≤ 8000)
    && (decide (c ≠ .dip ∧ c ≠ .breakout) || decide (e.holdSpeed = 0))
    && (decide (c ≠ .breakout) || decide (e.freezeCode = 0))
    && decide (e.baseUrgency ≤ 2) && decide (e.levelTarget ≤ 4094) && decide (e.bandHalf ≤ 4094)

/-- The slice pointer a byte holds (R174). -/
def slicePointer (b : Byte) : Option (Fin 24) :=
  if h : b.toNat < 24 then some ⟨b.toNat, h⟩ else none

/-- P1 from its byte: FFh is NONE (R174, R187). -/
def slicePointerOrNone (b : Byte) : Option (Option (Fin 24)) :=
  if b = 0xFF then some none else (slicePointer b).map some

/-- The cause and entry that LOAD_CAUSE's parameters hold, or `none` when refused (R174). -/
def readCauseEntry (p : Vector Byte 13) : Option (Cause × CauseEntry) :=
  match causeOfCode p[0], slicePointer p[1], slicePointerOrNone p[2] with
  | some (some c), some p0, some p1 =>
    let e : CauseEntry :=
      { p0 := p0, p1 := p1, holdSpeed := value16 p[3] p[4], freezeCode := p[5].toNat,
        marginCode := p[6].toNat, baseUrgency := p[7].toNat, levelTarget := value16 p[8] p[9],
        bandHalf := value16 p[10] p[11], levelHoldCode := p[12].toNat }
    if e.inRange c then some (c, e) else none
  | _, _, _ => none

/-- Point `i` of LOAD_SLICE's parameters, with its flag byte's range check (R173, R187). -/
def readPoint (p : Vector Byte 41) (i : Fin 8) : Option Point :=
  let at' : Nat → Byte := fun k => p.toList.getD (1 + 5 * i.val + k) 0#8
  let target := value16 (at' 0) (at' 1)
  let slew := (at' 2).toNat
  let flags := (at' 4).toNat
  if target ≤ 8000 ∧ slew ≠ 0 ∧ flags < 4 then
    some { target := target, slew := slew, dwell := (at' 3).toNat, levelGate := bitSet (at' 4) 0,
           last := bitSet (at' 4) 1 }
  else none

/-- The slice number and slice that LOAD_SLICE's parameters hold, or `none` when refused (R173). -/
def readSlice (p : Vector Byte 41) : Option (Fin 24 × Slice) :=
  match slicePointer p[0], readPoint p 0, readPoint p 1, readPoint p 2, readPoint p 3,
    readPoint p 4, readPoint p 5, readPoint p 6, readPoint p 7 with
  | some n, some a, some b, some c, some d, some e, some f, some g, some h =>
    some (n, #v[a, b, c, d, e, f, g, h])
  | _, _, _, _, _, _, _, _, _ => none

end Sys2Proof.Machine
end

