-- ==== Sys2Proof/Machine/Flags.lean ====
section
/-! DEFINITION. Values computed from the state: outputs, flags and conditions, durations, deadlines and
urgency, the draw arithmetic, headroom, rank, and the tests that the rules make. Nothing here changes
the state. -/

namespace Sys2Proof.Machine

/-! ### Durations and moments (R29, R30) -/

/-- The duration in ms of a duration code; `none` for code 0, the timer that is not used (R29). -/
def durationMs (code : Nat) : Option Nat :=
  if code = 0 then none
  else if code ≤ 120 then some (code * 250)
  else if code ≤ 240 then some (30000 + (code - 120) * 1000)
  else if code ≤ 254 then some (150000 + (code - 240) * 30000)
  else some 900000

/-- A time in ms in units of 0.1 s, rounded up (R38). -/
def tenthsUp (ms : Nat) : Nat := (ms + 99) / 100

/-- The moment `ms` milliseconds after `t`, on the 32-bit count (R30). -/
def later (t : Moment) (ms : Nat) : Moment := t + BitVec.ofNat 32 ms

/-- The age at `now` of the moment `t`: the difference of the two, modulo 2^32 (R30). -/
def ageAt (now t : Moment) : Nat := (now - t).toNat

/-- How far the moment `t` lies ahead of `now` in ms, negative once it has passed: the difference modulo
2^32 that lies nearest to 0. DEDUCED from the last sentence of R30, entry 4. -/
def ahead (now t : Moment) : Int := (t - now).toInt

/-- The remaining time at `now` of the moment `t`, 0 once it has passed (R30, R38, R39). -/
def timeLeft (now t : Moment) : Nat := (ahead now t).toNat

/-- The timebase has reached the moment `t`: the remaining time is 0 (R33). -/
def reached (now t : Moment) : Bool := decide (timeLeft now t = 0)

/-- The moment at which a timer started now with a duration code runs out. -/
def timerFrom (now : Moment) (code : Nat) : Option Moment := (durationMs code).map (later now)

/-- Has a timer run out? A stopped timer has not. -/
def expired (now : Moment) (timer : Option Moment) : Bool :=
  match timer with
  | some t => reached now t
  | none => false

/-- The present moment in ms since JOIN (R30, R182). -/
def State.sinceJoin (s : State) : Nat := ageAt s.now (s.joinedAt.getD s.now)

/-- The station's beacon period in ms (R146). -/
def State.beaconPeriod (s : State) : Nat := s.pst.strand.periodCode * 10

/-! ### Straps (R178) -/

/-- The station's own number. -/
def State.ownStation (s : State) : Nat := s.cpn.straps.station.toNat

/-- The strand count: the count code plus 1. -/
def State.strandCount (s : State) : Nat := s.cpn.straps.count.toNat + 1

/-- The straps are valid: latched, count code not 0, station number below the strand count. -/
def State.strapsValid (s : State) : Bool :=
  s.cpn.strapDone && decide (s.cpn.straps.count ≠ 0) && decide (s.ownStation < s.strandCount)

/-! ### Outputs and causes of the sequencer -/

/-- The states with authority (R1). -/
def hasAuthority : SeqState → Bool
  | .stopped | .queued | .ramping | .handback | .abandoned => true
  | .unjoined | .parked | .watch => false

/-- AUTH (R1). -/
def State.auth (s : State) : Bool := hasAuthority s.rsq.state

/-- The profile cause: the pending cause of highest precedence (R12). -/
def PerCause.profile (p : PendingSet) : Option Cause := allCauses.find? fun c => (p.get c).isSome

/-- The restart cause of the state (R1). -/
def State.restartCause (s : State) : Option Cause :=
  match s.rsq.state with
  | .unjoined | .parked | .watch => none
  | .stopped | .queued => s.rsq.pendingSet.profile
  | .ramping | .handback | .abandoned => s.rsq.currentCause

/-- FLOW_CLOSE (R24). -/
def State.flowClose (s : State) : Bool :=
  match s.rsq.state with
  | .stopped | .queued => s.rsq.pendingSet.breakout.isSome
  | .abandoned => true
  | .unjoined | .parked | .watch | .ramping | .handback => false

/-- The filtered value of an input (R157). -/
def State.filtered (s : State) (i : Input) : Bool := (inputGet s.spu.inputs i).filtered

/-- The filtered DRV_READY. -/
def State.drvReady (s : State) : Bool := s.spu.inputs.drvReady.filtered

/-- The drive is running: RUN_REQ set and DRV_READY asserted (R15). -/
def State.driveRunning (s : State) : Bool := s.rsq.runReq && s.drvReady

/-! ### Samples (R162) -/

/-- A held value is fresh: marked so, with an age below the stale time (R162, entry 30). -/
def State.isFresh (s : State) (h : Held) : Bool :=
  h.fresh && match h.takenAt with
    | some t => decide (ageAt s.now t < s.pst.strand.staleTime)
    | none => false

/-- Creep: a fresh F at or above the creep threshold (R34). -/
def State.creep (s : State) : Bool :=
  s.isFresh s.spu.feedback && decide (s.pst.strand.creepThreshold ≤ s.spu.feedback.value)

/-- The mould level is in band for cause entry `e` (R58). -/
def State.levelInBand (s : State) (e : CauseEntry) : Bool :=
  s.isFresh s.spu.level && decide (s.spu.level.value ≠ Config.gaugeFault)
    && decide (s.spu.level.value ≤ e.levelTarget + e.bandHalf
        ∧ e.levelTarget ≤ s.spu.level.value + e.bandHalf)

/-! ### Draw of a speed (R49, R50) -/

/-- D(S): the draw of a speed, rounded up (R49). -/
def drawOf (mass speed : Nat) : Nat := (speed * mass + 999) / 1000

/-- S_max(G): the highest speed a granted draw allows (R50). -/
def speedMax (mass granted : Nat) : Nat := min Config.maxSpeed (granted * 1000 / mass)

/-- D(S) with the station's section mass. -/
def State.drawOf (s : State) (speed : Nat) : Nat := Machine.drawOf s.pst.strand.mass speed

/-- S_max of the present granted draw. -/
def State.speedMax (s : State) : Nat := Machine.speedMax s.pst.strand.mass s.dbu.granted

/-! ### Ramps (R47, R48, R53) -/

/-- The point at ramp index `i` of a cause entry; `none` beyond its slices (R47). -/
def Pst.point (p : Pst) (e : CauseEntry) (i : Nat) : Option Point :=
  if i < 8 then p.slices[e.p0]? >>= (·[i]?)
  else e.p1 >>= fun n => p.slices[n]? >>= (·[i - 8]?)

/-- The first ramp index below `i + n`, from `i`, whose point carries LAST, with that point (R47). -/
def Pst.firstLast (p : Pst) (e : CauseEntry) : Nat → Nat → Option (Nat × Point)
  | _, 0 => none
  | i, n + 1 =>
    match p.point e i with
    | some pt => if pt.last then some (i, pt) else p.firstLast e (i + 1) n
    | none => p.firstLast e (i + 1) n

/-- The last point of a cause's ramp within the points its pointers allow (R48). -/
def Pst.rampEnd (p : Pst) (c : Cause) : Option (Nat × Point) := p.firstLast (p.causes.get c) 0 16

/-- The ramp length of a cause (R47); 0 when its ramp is not well formed. -/
def Pst.computeLength (p : Pst) (c : Cause) : Nat :=
  match p.rampEnd c with
  | some (i, _) => i + 1
  | none => 0

/-- The cause entry of an optional cause; the reset entry for NONE. -/
def State.entryOf (s : State) (c : Option Cause) : CauseEntry :=
  match c with
  | some c => s.pst.causes.get c
  | none => CauseEntry.reset

/-- The ramp length of an optional cause; 0 for NONE. -/
def State.rampLengthOf (s : State) (c : Option Cause) : Nat :=
  match c with
  | some c => s.pst.rampLength.get c
  | none => 0

/-- The point at ramp index `i` of an optional cause's ramp; the reset point where there is none. -/
def State.pointAt (s : State) (c : Option Cause) (i : Nat) : Point :=
  (s.pst.point (s.entryOf c) i).getD Point.reset

/-- A target capped by the resume speed of the top context, if there is one (R53). -/
def capTarget (stack : List Context) (target : Nat) : Nat :=
  match stack with
  | [] => target
  | c :: _ => min target c.resumeSpeed

/-- The current point of the ramp. -/
def State.currentPoint (s : State) : Point := s.pointAt s.rsq.currentCause s.rsq.step

/-- The capped target T of the current point (R53). -/
def State.target (s : State) : Nat := capTarget s.rsq.stack s.currentPoint.target

/-- The capped target T of point 0 of the profile cause's ramp (R16). -/
def State.firstTarget (s : State) : Nat :=
  capTarget s.rsq.stack (s.pointAt s.rsq.pendingSet.profile 0).target

/-! ### Preconditions (R13, R81) -/

/-- An epoch `e` is newer than `c` (R81). -/
def newerEpoch (e c : Nat) : Bool :=
  let d := (e + 256 - c % 256) % 256
  decide (1 ≤ d ∧ d ≤ 127)

/-- The precondition of a pending record of cause `c` is met (R13). -/
def State.preconditionMet (s : State) (c : Cause) (r : PendingRecord) : Bool :=
  match c with
  | .dip => s.filtered .supplyOk
  | .tundish =>
    decide (s.dbu.phase = .ready)
      && (decide (s.dbu.epoch = r.epoch.getD 0) || newerEpoch s.dbu.epoch (r.epoch.getD 0))
  | .breakout => r.latch.getD false && s.filtered .dummyIn
  | .hold => r.latch.getD false

/-- Every pending record's precondition is met (R14). -/
def State.allMet (s : State) : Bool :=
  allCauses.all fun c =>
    match s.rsq.pendingSet.get c with
    | some r => s.preconditionMet c r
    | none => true

/-! ### Deadlines and urgency (R31 to R38) -/

/-- The deadlines of the pending records, with their causes. -/
def pendingDeadlines (p : PendingSet) : List (Option Cause × Moment) :=
  allCauses.filterMap fun c => (p.get c).bind fun r => r.deadline.map fun d => (some c, d)

/-- The unmet deadlines of the contexts, with their causes. -/
def stackDeadlines (stack : List Context) : List (Option Cause × Moment) :=
  stack.filterMap fun c => c.unmetDeadline.map fun d => (c.cause, d)

/-- The deadlines that count in the present state, with their causes (R32). -/
def State.deadlines (s : State) : List (Option Cause × Moment) :=
  match s.rsq.state with
  | .stopped | .queued => pendingDeadlines s.rsq.pendingSet ++ stackDeadlines s.rsq.stack
  | .ramping =>
    (s.rsq.carried.map fun d => (s.rsq.currentCause, d)).toList ++ stackDeadlines s.rsq.stack
  | .unjoined | .parked | .watch | .handback | .abandoned => []

/-- The first of a list of moments by a measure of time. -/
def firstBy (measure : Moment → Int) (l : List Moment) : Option Moment :=
  l.foldr (fun d acc =>
    some (match acc with | some a => if measure a < measure d then a else d | none => d)) none

/-- The earliest of a list of deadlines: the one least far ahead (R32). -/
def earliestDeadline (now : Moment) (l : List Moment) : Option Moment := firstBy (ahead now) l

/-- The earliest of a list of stop times: the one of the greatest age (R18). -/
def earliestStopTime (now : Moment) (l : List Moment) : Option Moment :=
  firstBy (fun t => -(ageAt now t : Int)) l

/-- The deadline in force: the earliest that counts (R32). The freeze timer is set to it (R33). -/
def State.deadlineInForce (s : State) : Option Moment := earliestDeadline s.now (s.deadlines.map (·.2))

/-- The cause of the deadline `d` in force: of several equal ones the cause of highest precedence
(R33). -/
def State.deadlineCause (s : State) (d : Moment) : Option Cause :=
  allCauses.find? fun c => s.deadlines.contains (some c, d)

/-- The governing cause of the critical margin (R35). -/
def State.governingCause (s : State) : Option Cause :=
  match s.rsq.state with
  | .stopped | .queued => s.rsq.pendingSet.profile
  | .ramping => s.rsq.currentCause
  | .unjoined | .parked | .watch | .handback | .abandoned => none

/-- The critical margin in use, in ms (R35). -/
def State.marginInUse (s : State) : Option Nat :=
  s.governingCause.bind fun c => durationMs (s.pst.causes.get c).marginCode

/-- The remaining time of the deadline in force is below the margin in use (R36). -/
def State.critical (s : State) : Bool :=
  match s.deadlineInForce, s.marginInUse with
  | some d, some m => decide (timeLeft s.now d < m)
  | _, _ => false

/-- The moment the margin timer is set to: 1 ms after the deadline in force minus the margin (R37). -/
def State.marginMoment (s : State) : Option Moment :=
  match s.deadlineInForce, s.marginInUse with
  | some d, some m => some (later (d - BitVec.ofNat 32 m) 1)
  | _, _ => none

/-- The highest base urgency among the pending causes (R12). -/
def State.pendingBase (s : State) : Nat :=
  (allCauses.map fun c =>
    if (s.rsq.pendingSet.get c).isSome then (s.pst.causes.get c).baseUrgency else 0).foldl max 0

/-- The urgency the state calls for (R36). -/
def State.computeUrgency (s : State) : Nat :=
  match s.rsq.state with
  | .unjoined | .parked | .watch | .abandoned => 0
  | .stopped | .queued => if s.critical then 3 else s.pendingBase
  | .ramping => if s.critical then 3 else s.rsq.urgencyBase
  | .handback => s.rsq.urgencyBase

/-- A heard or own deadline as a deadline remaining field (R38, R134). -/
def State.remainingField (s : State) (deadline : Option Moment) : Nat :=
  match deadline with
  | some d => tenthsUp (timeLeft s.now d)
  | none => Config.absent16

/-- The own deadline remaining, as the station states it (R38). -/
def State.deadlineField (s : State) : Nat := s.remainingField s.deadlineInForce

/-- A carried deadline remaining as an expiry moment (R39). -/
def State.heardDeadline (s : State) (carried : Nat) : Option Moment :=
  if carried = Config.absent16 then none else some (later s.now (carried * 100))

/-! ### Rank (R40, R41, R129) -/

/-- The urgency a claim list entry is ranked at: as heard, or the live one for an own entry. -/
def State.entryUrgency (s : State) (e : ClaimEntry) : Nat :=
  match e.origin with
  | .peer urgency _ _ => urgency
  | .own _ => s.rsq.urgency

/-- The deadline a claim list entry is ranked at: as heard, or the live one for an own entry. -/
def State.entryDeadline (s : State) (e : ClaimEntry) : Option Moment :=
  match e.origin with
  | .peer _ deadline _ => deadline
  | .own _ => s.deadlineInForce

/-- Less deadline remaining: an absent one counts as more than any present one (R40). -/
def lessRemaining (now : Moment) (a b : Option Moment) : Bool :=
  match a, b with
  | some a, some b => decide (timeLeft now a < timeLeft now b)
  | some _, none => true
  | none, _ => false

/-- Claim `a` outranks claim `b` (R40). -/
def State.outranks (s : State) (a b : ClaimEntry) : Bool :=
  if s.entryUrgency a ≠ s.entryUrgency b then decide (s.entryUrgency b < s.entryUrgency a)
  else if lessRemaining s.now (s.entryDeadline a) (s.entryDeadline b) then true
  else if lessRemaining s.now (s.entryDeadline b) (s.entryDeadline a) then false
  else decide (a.station < b.station)

/-- Claim `a` comes before claim `b` in the list: by rank, and for claims of one station equal at all
three tests the START entry first (R129). -/
def State.listedBefore (s : State) (a b : ClaimEntry) : Bool :=
  s.outranks a b || (!s.outranks b a && decide (a.kind = .start ∧ b.kind = .draw))

/-- The claim list in its order at the moment of reading (R129). -/
def State.rankedClaims (s : State) : List ClaimEntry :=
  s.pvu.claims.foldr (fun e l => l.takeWhile (s.listedBefore · e) ++ e :: l.dropWhile (s.listedBefore · e)) []

/-- Is an entry the station's own? -/
def ClaimEntry.isOwn (e : ClaimEntry) : Bool :=
  match e.origin with
  | .own _ => true
  | .peer _ _ _ => false

/-- The own entry of a kind. -/
def State.ownEntry (s : State) (k : ClaimKind) : Option ClaimEntry :=
  s.pvu.claims.find? fun e => e.isOwn && decide (e.kind = k)

/-- The peers' entries of a kind. -/
def State.peerClaims (s : State) (k : ClaimKind) : List ClaimEntry :=
  s.pvu.claims.filter fun e => !e.isOwn && decide (e.kind = k)

/-- A peer's entry of kind `k` outranks the own entry of that kind. -/
def State.outranksOwn (s : State) (k : ClaimKind) (e : ClaimEntry) : Bool :=
  match s.ownEntry k with
  | some own => s.outranks e own
  | none => false

/-- No START claim in the list outranks the own one (R108). -/
def State.startTopRanked (s : State) : Bool :=
  (s.peerClaims .start).all fun e => !s.outranksOwn .start e

/-! ### Headroom (R88, R89) and overcommit (R100) -/

/-- The sum of the reported draw of the peer entries that are not ABSENT. -/
def State.reportedSum (s : State) : Nat :=
  (s.pvu.peers.toList.map fun e => if e.status = .absent then 0 else e.draw).sum

/-- The send headroom H_send (R88). -/
def State.sendHeadroom (s : State) : Nat :=
  s.dbu.limit - (s.dbu.granted + s.reportedSum + ((s.peerClaims .draw).map (·.amount)).sum)

/-- The keep headroom H_keep (R89). -/
def State.keepHeadroom (s : State) : Nat :=
  s.dbu.limit - (s.dbu.granted + s.reportedSum
    + (((s.peerClaims .draw).filter (s.outranksOwn .draw)).map (·.amount)).sum)

/-- The overcommit condition (R100). -/
def State.overcommitted (s : State) : Bool :=
  decide (s.rsq.state ≠ .unjoined) && decide (s.dbu.limit < s.dbu.granted + s.reportedSum)

/-- The own DRAW claim is outstanding (05, The Own Draw Claim). -/
def DrawStatus.outstanding : DrawStatus → Bool
  | .sent | .contending => true
  | .none | .waiting | .holdoff => false

/-! ### Notices (R167, R181) -/

/-- The notice set as its 16 bits (11_formats.md). The condition notices are present exactly while
their conditions hold (R181). -/
def State.noticeBits (s : State) : Nat :=
  flagBit s.cpn.events.stopTaken 1 + flagBit s.cpn.events.rampStarted 2
    + flagBit s.cpn.events.reportReady 4 + flagBit s.cpn.events.limitChanged 8
    + flagBit s.cpn.events.lineChanged 16 + flagBit (decide (s.rsq.state = .handback)) 256
    + flagBit (decide (s.rsq.state = .abandoned)) 512 + flagBit s.rsq.levelHold 1024
    + flagBit s.dbu.overcommit 2048 + flagBit s.cpn.fault.locked 4096

/-- The level of the ATTN_N pin: low while the notice set is not empty (R167). -/
def State.attnN (s : State) : Bool := decide (s.noticeBits = 0)

/-! ### Line (R137, R140, R142) -/

/-- The bits of the frame in the transmitter, start, data and stop bits in the order sent (R137). -/
def Transmission.bits (t : Transmission) : List Bool := frameBits t.frame.bytes

/-- A bit of the frame in the transmitter is on the line. -/
def Transmission.sending (t : Transmission) : Bool := decide (t.sent < t.bits.length)

/-- LTXEN: asserted from the first start bit of a frame to the end of its last stop bit (R137). -/
def State.ltxen (s : State) : Bool :=
  match s.lnc.tx with
  | some t => t.sending
  | none => false

/-- The bit on LTX (R137); `true` is recessive. R137 gives LTX no level while LTXEN is deasserted; the model
makes it recessive: DESIGN CHOICE, entry 44. -/
def State.ltx (s : State) : Bool :=
  match s.lnc.tx with
  | some t => t.bits.getD t.sent true
  | none => true

/-- The receiver reads the level of one bit boundary on LRX (R137, R138, R140): within a character the
quiet time stays 0; outside one a recessive level adds to it, 10 in a row end the search that JOIN began,
and a dominant level sets it to 0 and, once that search has ended, starts a character. Where the quiet
time is not measured, LRX is not read. -/
def Lnc.readBit (l : Lnc) (recessive : Bool) : Lnc :=
  match l.quiet with
  | none => l
  | some q =>
    if l.charLeft ≠ 0 then { l with quiet := some 0, charLeft := l.charLeft - 1 }
    else if recessive then { l with quiet := some (q + 1), synced := l.synced || decide (10 ≤ q + 1) }
    else { l with quiet := some 0, charLeft := if l.synced then 9 else 0 }

/-- The line at the end of a frame: 10 recessive bit times after its last stop bit (R138). -/
def Lnc.atFrameEnd (l : Lnc) : Lnc := { l with quiet := some 10, charLeft := 0, synced := true }

/-- The duration of a bit on the line in µs (R137). -/
def State.bitTime (s : State) : Nat := if s.cpn.straps.lrate then 1 else 4

/-- The six slots of the transmit queue other than BEACON (R142). -/
inductive Slot where
  | drawClaim | startClaim | release | clear | eventBegin | eventReady
deriving DecidableEq, Repr

/-- The slot a frame is queued in (R142). -/
def QueuedFrame.slot : QueuedFrame → Slot
  | .claim .draw _ _ _ => .drawClaim
  | .claim .start _ _ _ => .startClaim
  | .withdraw .draw _ => .drawClaim
  | .withdraw .start _ => .startClaim
  | .release _ => .release
  | .clear _ => .clear
  | .eventBegin _ => .eventBegin
  | .eventReady _ _ => .eventReady

/-- The line state lets a frame other than a BEACON be queued and sent (R142). -/
def LineState.allows (l : LineState) (f : QueuedFrame) : Bool :=
  match l, f with
  | .active, _ => true
  | .deaf, .withdraw _ _ => true
  | .deaf, .release _ => true
  | _, _ => false

/-- The line state lets a BEACON be queued and sent (R142). -/
def LineState.allowsBeacon : LineState → Bool
  | .active | .deaf => true
  | .off | .listen | .barred => false

/-- What stands at the head of the transmit queue. -/
inductive Head where
  | beacon
  | frame (f : QueuedFrame)
deriving DecidableEq, Repr

/-- The head of the transmit queue: the aborted frame awaiting retry, else the oldest frame other than
the BEACON that the line state allows, else the BEACON (R140). An aborted frame other than a BEACON
stands first in the queue (R141). -/
def Lnc.head (l : Lnc) : Option Head :=
  if l.line.allowsBeacon && decide (l.beacon = .retry) then some .beacon
  else
    match l.queue.find? l.line.allows with
    | some f => some (.frame f)
    | none => if l.line.allowsBeacon && decide (l.beacon ≠ .empty) then some .beacon else none

/-- The gap in bit times before a head frame may start (R140). -/
def headGap (station : Nat) : Head → Nat
  | .beacon => 30 + 2 * station
  | .frame _ => 12 + 2 * station

/-- The transmitter holds a CLAIM of a kind and number. -/
def Lnc.sendingClaim (l : Lnc) (k : ClaimKind) (number : Nat) : Bool :=
  match l.tx with
  | some t =>
    match t.frame.body with
    | .claim c => decide (c.kind = k ∧ c.number = number)
    | _ => false
  | none => false

/-- The queue holds a CLAIM of a kind and number, not yet started. -/
def Lnc.holdsClaim (l : Lnc) (k : ClaimKind) (number : Nat) : Bool :=
  l.queue.any fun f =>
    match f with
    | .claim k' n _ _ => decide (k' = k ∧ n = number)
    | _ => false

/-- The slot of claims of a kind. -/
def claimSlot : ClaimKind → Slot
  | .draw => .drawClaim
  | .start => .startClaim

/-- The queue holds a frame in a slot. -/
def Lnc.slotFull (l : Lnc) (k : Slot) : Bool := l.queue.any fun f => decide (f.slot = k)

end Sys2Proof.Machine
end

