-- ==== Sys2Proof/Machine/Ops.lean ====
section
/-! DEFINITION. The shared operations of the blocks: notices, faults and reports (CPN), the transmit
queue (LNC), own claims (DBU, SSU, PVU), the sequencer's transitions (RSQ), tundish events and line
state changes. Where a block asks another for something, the asked block's operation is called. -/

namespace Sys2Proof.Machine

/-! ### Notices, faults and reports (CPN) -/

/-- The event notices by name (R181). -/
inductive EventNotice where
  | stopTaken | rampStarted | reportReady | limitChanged | lineChanged
deriving DecidableEq, Repr

/-- Raises one event notice in the set (R181). -/
def EventNotices.raise (e : EventNotices) : EventNotice → EventNotices
  | .stopTaken => { e with stopTaken := true }
  | .rampStarted => { e with rampStarted := true }
  | .reportReady => { e with reportReady := true }
  | .limitChanged => { e with limitChanged := true }
  | .lineChanged => { e with lineChanged := true }

/-- CPN raises an event notice. -/
def notify (n : EventNotice) (s : State) : State :=
  { s with cpn := { s.cpn with events := s.cpn.events.raise n } }

/-- A capture: fills and locks an unlocked record, and counts as a later fault in a locked one (R182,
R184). -/
def FaultRecord.capture (r : FaultRecord) (kind : FaultKind) (detail : Nat) (state : SeqState)
    (cause : Option Cause) (step time : Nat) : FaultRecord :=
  if r.locked then { r with multiple := true, later := min 255 (r.later + 1) }
  else { locked := true, kind := some kind, state := state, cause := cause, step := step,
         time := time, detail := detail, multiple := false, later := 0 }

/-- CPN captures a fault (R182). -/
def capture (kind : FaultKind) (detail : Nat) (s : State) : State :=
  let r := s.cpn.fault.capture kind detail s.rsq.state s.restartCause s.rsq.step s.sinceJoin
  { s with cpn := { s.cpn with fault := r } }

/-- The state, cause and step of a fault record filled in this occurrence are those before it: "the
values before any change of state that the same occurrence brings" (R182, entry 15). -/
def stampFault (before after : State) : State :=
  if !before.cpn.fault.locked && after.cpn.fault.locked then
    { after with cpn := { after.cpn with fault := { after.cpn.fault with
        state := before.rsq.state, cause := before.restartCause, step := before.rsq.step } } }
  else after

/-- One whole occurrence: the effect `f`, with a fault it captured stamped with the state before. -/
def occur (f : State → State) (s : State) : Host.Outcome State Fault Refusal :=
  .next (stampFault s (f s))

/-- The outcome of a row is `o` with RST_N high. With RST_N low the station holds its reset values,
samples no pin and has an inert port, so that no row other than PIN_RESET changes anything (R156, R168,
R179; entry 37). -/
def released (s : State) (o : Host.Outcome State Fault Refusal) : Host.Outcome State Fault Refusal :=
  if s.rstLow then .next s else o

/-- The effect `f` when its occasion `c` holds; otherwise the occurrence does not take place and
nothing changes (entry 2). -/
def whenever (c : Bool) (f : State → State) (s : State) : State := if c then f s else s

/-- A number as a counter that saturates at 255. -/
def sat255 (n : Nat) : Nat := min 255 n

/-- Places a report in the ring as the newest (R75). -/
def pushReport (ring : Vector Report 4) (r : Report) : Vector Report 4 :=
  #v[r, ring[0], ring[1], ring[2]]

/-- RSQ writes a report; CPN stores it and raises REPORT_READY (R75). -/
def writeReport (r : Report) (s : State) : State :=
  notify .reportReady { s with cpn := { s.cpn with ring := pushReport s.cpn.ring r } }

/-- Time to creep in 0.1 s: creep moment minus earliest stop time, rounded up, saturating at 65534;
absent when either moment is (R73). -/
def Counters.timeToCreep (c : Counters) : Option Nat :=
  match c.creepMoment, c.earliestStop with
  | some m, some e => some (min 65534 (tenthsUp (ageAt m e)))
  | _, _ => none

/-- A report filled from a restart's counters (R73). -/
def fillReport (cause : Option Cause) (outcome : ReportOutcome) (lastStep : Option Nat)
    (rampLength finalSpeed : Nat) (c : Counters) : Report :=
  { cause := cause, outcome := outcome, pointsCompleted := c.pointsCompleted, lastStep := lastStep,
    pointsLeft := rampLength - c.pointsCompleted, finalSpeed := finalSpeed,
    timeToCreep := c.timeToCreep, drawSettled := c.drawSettled, drawWithdrawn := c.drawWithdrawn,
    startAttempts := c.startAttempts, levelHoldTotal := c.levelHoldTotal,
    timesInterrupted := c.timesInterrupted }

/-- The report of the running restart at its end: in STOPPED and QUEUED under the profile cause with
last step NONE (R73, R74). -/
def State.runningReport (s : State) (outcome : ReportOutcome) : Report :=
  match s.rsq.state with
  | .stopped | .queued =>
    fillReport s.restartCause outcome none (s.rampLengthOf s.restartCause) s.rsq.speed s.rsq.counters
  | _ =>
    fillReport s.rsq.currentCause outcome (some s.rsq.step) (s.rampLengthOf s.rsq.currentCause)
      s.rsq.speed s.rsq.counters

/-- The counters with times interrupted raised by one (R66, R69, R70, R72). -/
def Counters.interrupted (c : Counters) : Counters :=
  { c with timesInterrupted := sat255 (c.timesInterrupted + 1) }

/-- The report of a context from the stack, its times interrupted raised first (R69, R72). -/
def State.contextReport (s : State) (outcome : ReportOutcome) (c : Context) : Report :=
  fillReport c.cause outcome (some c.step) (s.rampLengthOf c.cause) c.resumeSpeed
    c.counters.interrupted

/-- The reports of an end that clears the stack: the running restart, then each context from the top;
the stack is emptied (R72). -/
def clearStack (outcome : ReportOutcome) (s : State) : State :=
  let s1 := writeReport (s.runningReport outcome) s
  let s2 := s.rsq.stack.foldl (fun t c => writeReport (s.contextReport outcome c) t) s1
  { s2 with rsq := { s2.rsq with stack := [] } }

/-! ### The transmit queue (LNC) -/

/-- Places a frame in its slot: in place of the frame the slot holds, else last in the order (R142,
R143). -/
def putFrame (f : QueuedFrame) (q : List QueuedFrame) : List QueuedFrame :=
  if q.any (fun g => decide (g.slot = f.slot)) then
    q.map fun g => if g.slot = f.slot then f else g
  else q ++ [f]

/-- Is a queued frame the CLAIM of a kind and number? -/
def QueuedFrame.isClaim (k : ClaimKind) (number : Nat) : QueuedFrame → Bool
  | .claim k' n _ _ => decide (k' = k ∧ n = number)
  | _ => false

/-- A request to queue a WITHDRAW: it removes the CLAIM of its number that stands unstarted in the
slot, and is then queued only if the transmitter holds that CLAIM (R143). -/
def Lnc.queueWithdraw (l : Lnc) (k : ClaimKind) (number : Nat) : Lnc :=
  if l.queue.any (QueuedFrame.isClaim k number) then
    let q := l.queue.filter fun f => !f.isClaim k number
    { l with queue := if l.sendingClaim k number then putFrame (.withdraw k number) q else q }
  else { l with queue := putFrame (.withdraw k number) l.queue }

/-- A request to queue a frame, taken as the line state allows (R142, R143). -/
def Lnc.queueFrame (l : Lnc) (f : QueuedFrame) : Lnc :=
  if l.line.allows f then
    match f with
    | .withdraw k n => l.queueWithdraw k n
    | _ => { l with queue := putFrame f l.queue }
  else l

/-- A request for a beacon (R146): a beacon already queued and not started covers it. -/
def Lnc.requestBeacon (l : Lnc) : Lnc :=
  if l.line.allowsBeacon && decide (l.beacon = .empty) then { l with beacon := .queued } else l

/-- A request to remove the station's queued CLEAR (R143). -/
def Lnc.dropClear (l : Lnc) : Lnc :=
  { l with queue := l.queue.filter fun f => decide (f.slot ≠ .clear) }

/-- A block asks LNC for a beacon. -/
def requestBeacon (s : State) : State := { s with lnc := s.lnc.requestBeacon }

/-- A block asks LNC to queue a frame. -/
def queueFrame (f : QueuedFrame) (s : State) : State := { s with lnc := s.lnc.queueFrame f }

/-! ### Reference records (SPU) -/

/-- A request for a reference record: it stands waiting until the link is idle, and covers any later
request (R165). In UNJOINED none is sent. -/
def requestReference (s : State) : State :=
  if s.rsq.state = .unjoined then s else { s with spu := { s.spu with refWaiting := true } }

/-! ### Own entries of the claim list (PVU) -/

/-- Places an own entry with status SENT (R92, R106, R127). -/
def Pvu.placeOwn (p : Pvu) (station : Nat) (k : ClaimKind) (number amount : Nat) : Pvu :=
  { p with claims := p.claims.filter (fun e => !(decide (e.station = station ∧ e.kind = k)))
      ++ [{ station := station, kind := k, number := number, amount := amount, origin := .own .sent }] }

/-- Sets the status of the own entry of a kind (R127). -/
def Pvu.setOwnStatus (p : Pvu) (k : ClaimKind) (st : OwnStatus) : Pvu :=
  { p with claims := p.claims.map fun e =>
      if e.isOwn && decide (e.kind = k) then { e with origin := .own st } else e }

/-- Removes the own entry of a kind (R127). -/
def Pvu.removeOwn (p : Pvu) (k : ClaimKind) : Pvu :=
  { p with claims := p.claims.filter fun e => !(e.isOwn && decide (e.kind = k)) }

/-! ### Draw Budget Unit -/

/-- Evaluates the overcommit condition; its rise is captured with the excess (R100). -/
def evalOvercommit (s : State) : State :=
  let s1 := { s with dbu := { s.dbu with overcommit := s.overcommitted } }
  if s.overcommitted && !s.dbu.overcommit then
    capture .overcommit (min 65535 (s.dbu.granted + s.reportedSum - s.dbu.limit)) s1
  else s1

/-- Sets G; a change of G is an occasion of the overcommit test (R100). -/
def setGranted (g : Nat) (s : State) : State :=
  evalOvercommit { s with dbu := { s.dbu with granted := g } }

/-- Sets L where it changes: LIMIT_CHANGED is raised and the overcommit condition evaluated (R80,
R100). -/
def setLimit (l : Nat) (s : State) : State :=
  if s.dbu.limit = l then s
  else evalOvercommit (notify .limitChanged { s with dbu := { s.dbu with limit := l } })

/-- The number of a new claim: the next modulo 16, skipping the last settled one (R92, R106). -/
def nextNumber (number lastSettled : Nat) : Nat :=
  let n := (number + 1) % 16
  if n = lastSettled then (n + 1) % 16 else n

/-- Forms a claim from the held need, or holds the need as WAITING (R92). -/
def formDraw (s : State) : State :=
  match s.dbu.need with
  | none => s
  | some need =>
    let amount := min need (min s.sendHeadroom s.pst.strand.chunk)
    if amount < min s.pst.strand.minClaim need then
      { s with dbu := { s.dbu with claim := .waiting } }
    else
      let n := nextNumber s.dbu.claimNumber s.dbu.lastSettled
      { s with
        dbu := { s.dbu with claim := .sent, claimNumber := n, amount := amount, settleAt := none }
        pvu := s.pvu.placeOwn s.ownStation .draw n amount
        lnc := s.lnc.queueFrame (.claim .draw n amount s.pst.strand.settleTime) }

/-- The solo allowance answers a need: G is raised to min(D(T), solo allowance) where that exceeds it
(R99). No need is held and the claim is NONE. -/
def soloRaise (need : Nat) (s : State) : State :=
  let s1 := { s with dbu := { s.dbu with claim := .none, need := none } }
  let goal := min (need + s.dbu.granted) s.pst.strand.soloAllowance
  if s.dbu.granted < goal then requestBeacon (setGranted goal s1) else s1

/-- RSQ gives DBU a need (R91). -/
def giveNeed (need : Nat) (s : State) : State :=
  match s.lnc.line with
  | .active =>
    match s.dbu.claim with
    | .none | .waiting =>
      formDraw { s with dbu := { s.dbu with need := some need, needOfRunning := true } }
    | .holdoff => { s with dbu := { s.dbu with need := some need, needOfRunning := true } }
    | .sent | .contending => s
  | .listen =>
    { s with dbu := { s.dbu with claim := .waiting, need := some need, needOfRunning := true } }
  | .deaf | .barred => soloRaise need s
  | .off => s

/-- The counters of the running restart with one more draw claim withdrawn, where that restart gave the
need (R66). -/
def countWithdrawn (s : State) : State :=
  if s.dbu.needOfRunning then
    { s with rsq := { s.rsq with counters := { s.rsq.counters with
        drawWithdrawn := sat255 (s.rsq.counters.drawWithdrawn + 1) } } }
  else s

/-- The own CONTENDING claim gives way on its keep headroom (R93). -/
def drawGiveWay (s : State) : State :=
  countWithdrawn
    { s with
      dbu := { s.dbu with claim := .holdoff, settleAt := none }
      pvu := s.pvu.removeOwn .draw
      lnc := s.lnc.queueFrame (.withdraw .draw s.dbu.claimNumber) }

/-- A view change at DBU: a WAITING claim is formed again, a CONTENDING claim is tested against the
keep headroom, and a HOLDOFF ends with a new claim formed at once (R90, R93, R94). -/
def drawViewChange (s : State) : State :=
  match s.dbu.claim with
  | .waiting => if s.lnc.line = .active then formDraw s else s
  | .contending => if s.keepHeadroom < s.dbu.amount then drawGiveWay s else s
  | .holdoff =>
    if s.lnc.line = .active then formDraw { s with dbu := { s.dbu with claim := .none } } else s
  | .none | .sent => s

/-- RSQ withdraws the own DRAW claim (R97). -/
def drawWithdraw (s : State) : State :=
  match s.dbu.claim with
  | .none => s
  | .waiting | .holdoff => { s with dbu := { s.dbu with claim := .none, need := none } }
  | .sent | .contending =>
    { s with
      dbu := { s.dbu with claim := .none, need := none, settleAt := none }
      pvu := s.pvu.removeOwn .draw
      lnc := s.lnc.queueFrame (.withdraw .draw s.dbu.claimNumber) }

/-- DBU's own claim when the line goes DEAF or BARRED: the claim is withdrawn or dropped, and its need
is given to the solo allowance (R98). In BARRED the request for a WITHDRAW is dropped by LNC (R142). -/
def drawLineLost (s : State) : State :=
  let s1 :=
    if s.dbu.claim.outstanding then
      countWithdrawn
        { s with
          dbu := { s.dbu with settleAt := none }
          pvu := s.pvu.removeOwn .draw
          lnc := s.lnc.queueFrame (.withdraw .draw s.dbu.claimNumber) }
    else s
  match s.dbu.need with
  | some need => soloRaise need s1
  | none => { s1 with dbu := { s1.dbu with claim := .none } }

/-- The held need is dropped when a ramp tick ends without being blocked (R91). -/
def dropHeldNeed (s : State) : State :=
  match s.dbu.claim with
  | .waiting | .holdoff => { s with dbu := { s.dbu with claim := .none, need := none } }
  | .none | .sent | .contending => s

/-- A rise of urgency to 3 sends the own DRAW claim again (R96). -/
def resendDraw (s : State) : State :=
  let copy : QueuedFrame := .claim .draw s.dbu.claimNumber s.dbu.amount s.pst.strand.settleTime
  match s.dbu.claim with
  | .sent =>
    if s.lnc.holdsClaim .draw s.dbu.claimNumber then s else { s with lnc := s.lnc.queueFrame copy }
  | .contending =>
    { s with
      dbu := { s.dbu with claim := .sent, settleAt := none }
      pvu := s.pvu.setOwnStatus .draw .sent
      lnc := s.lnc.queueFrame copy }
  | .none | .waiting | .holdoff => s

/-! ### Start Slot Unit: the claim and the view -/

/-- The CLAIM of the own START claim (R106). -/
def State.startFrame (s : State) (number : Nat) : QueuedFrame :=
  .claim .start number 0 s.pst.strand.settleTime

/-- Queues the own START claim again with the same number; the claim and its entry return to SENT
(R109, R110). -/
def repeatStart (s : State) : State :=
  { s with
    ssu := { s.ssu with claim := .sent, settleAt := none }
    pvu := s.pvu.setOwnStatus .start .sent
    lnc := s.lnc.queueFrame (s.startFrame s.ssu.claimNumber) }

/-- A rise of urgency to 3 sends the own START claim again (R110). -/
def resendStart (s : State) : State :=
  match s.ssu.claim with
  | .sent => if s.lnc.holdsClaim .start s.ssu.claimNumber then s else repeatStart s
  | .contending | .waiting => repeatStart s
  | .none => s

/-- The re-test of a WAITING claim: the view is none and the own claim is top-ranked (R109). -/
def retestStart (s : State) : State :=
  if s.ssu.claim = .waiting ∧ s.ssu.holder = none ∧ s.startTopRanked = true then repeatStart s else s

/-- SSU sends a CLEAR to the holder in view, once (R115). -/
def clearTest (s : State) : State :=
  match s.ssu.holder with
  | some p =>
    if s.ssu.claim = .waiting ∧ s.rsq.urgency = 3 ∧ p ≠ s.ownStation ∧ s.ssu.clearSent = false then
      { s with
        ssu := { s.ssu with clearSent := true }
        lnc := s.lnc.queueFrame (.clear p) }
    else s
  | none => s

/-- Sets the holder view. Its change clears the CLEAR-sent mark and removes a queued CLEAR; a view that
becomes none re-tests a WAITING claim, and a new holder may be sent a CLEAR (R102, R109, R115). -/
def setHolder (v : Option Nat) (s : State) : State :=
  if s.ssu.holder = v then s
  else
    clearTest (retestStart
      { s with ssu := { s.ssu with holder := v, clearSent := false }, lnc := s.lnc.dropClear })

/-- The own START claim is withdrawn, for RSQ or because the line left ACTIVE (R111). A WITHDRAW is
queued as R143 gives; in BARRED LNC drops the request. -/
def withdrawStart (s : State) : State :=
  let s1 :=
    if s.ssu.claim = .none then s
    else { s with lnc := s.lnc.queueFrame (.withdraw .start s.ssu.claimNumber) }
  { s1 with
    ssu := { s.ssu with claim := .none, settleAt := none, clearSent := false }
    pvu := s.pvu.removeOwn .start
    lnc := s1.lnc.dropClear }

/-- A tenure ends with a RELEASE and its reason (R114). -/
def endTenure (reason : ReleaseReason) (s : State) : State :=
  if s.ssu.tenure then
    let s1 :=
      { s with
        ssu := { s.ssu with tenure := false, tenureAt := none, clearPending := false }
        lnc := s.lnc.queueFrame (.release reason) }
    let s2 := if s.ssu.holder = some s.ownStation then setHolder none s1 else s1
    requestBeacon s2
  else s

/-- The sequencer leaves QUEUED and RAMPING, or ends there: DBU and SSU withdraw the own claims and the
start request, and a tenure ends with RELEASE reason STOPPED (R3, R7, R17, R20, R22, R105, R114). -/
def withdrawClaims (s : State) : State :=
  let s1 := drawWithdraw s
  endTenure .stopped (withdrawStart { s1 with ssu := { s1.ssu with request := false } })

/-! ### Urgency -/

/-- RSQ evaluates the urgency: on a change it asks for a beacon, and a rise to 3 sends the own claims
again (R36, R37, R96, R110). -/
def refreshUrgency (s : State) : State :=
  if s.computeUrgency = s.rsq.urgency then s
  else
    let s1 := requestBeacon { s with rsq := { s.rsq with urgency := s.computeUrgency } }
    if s.computeUrgency = 3 then resendStart (resendDraw s1) else s1

/-- RSQ asks for a beacon when the sequencer state or the restart cause has changed (R25). -/
def beaconIfChanged (before after : State) : State :=
  if before.rsq.state = after.rsq.state ∧ before.restartCause = after.restartCause then after
  else requestBeacon after

/-! ### Entering RAMPING -/

/-- The creep test in RAMPING: at the first moment it passes in a restart, and where a carried deadline
stands, it records the creep moment, keeping one already set, meets the freeze, and evaluates the
urgency (R34, R70). -/
def creepTest (s : State) : State :=
  if s.rsq.state = .ramping ∧ s.creep = true
      ∧ (s.rsq.counters.creepMoment = none ∨ s.rsq.carried.isSome = true) then
    let moment := some (s.rsq.counters.creepMoment.getD s.now)
    refreshUrgency { s with rsq := { s.rsq with
      carried := none, counters := { s.rsq.counters with creepMoment := moment } } }
  else s

/-- The stop times of the pending records. -/
def pendingStopTimes (p : PendingSet) : List Moment :=
  allCauses.filterMap fun c => (p.get c).map (·.stopTime)

/-- The restart as entry to RAMPING fixes it (R18, R36). -/
def Rsq.rampingFrom (r : Rsq) (now : Moment) (base : Nat) (firstDwell : Nat) : Rsq :=
  { r with
    state := .ramping
    currentCause := r.pendingSet.profile
    carried := earliestDeadline now ((pendingDeadlines r.pendingSet).map (·.2))
    counters := { r.counters with
      earliestStop := earliestStopTime now (pendingStopTimes r.pendingSet) }
    baseUrgency := base
    urgencyBase := base
    pendingSet := PendingSet.empty
    step := 0
    dwell := firstDwell
    levelHoldTime := 0 }

/-- Entry to RAMPING from QUEUED (R18, R34). -/
def enterRamping (s : State) : State :=
  let s1 := { s with rsq :=
    s.rsq.rampingFrom s.now s.pendingBase (s.pointAt s.rsq.pendingSet.profile 0).dwell }
  refreshUrgency (creepTest (requestBeacon (notify .rampStarted s1)))

/-- The test of the first point with the drive running in QUEUED (R16). -/
def firstPointTest (s : State) : State :=
  if s.rsq.state = .queued ∧ s.driveRunning = true then
    if s.firstTarget ≤ s.rsq.speed ∨ s.rsq.speed < s.speedMax then enterRamping s
    else if s.dbu.claim.outstanding then s
    else
      let s1 := giveNeed (s.drawOf s.firstTarget - s.dbu.granted) s
      if s1.rsq.speed < s1.speedMax then enterRamping s1 else s1
  else s

/-- The drive becomes running in QUEUED: the start request is withdrawn, and with it an own START claim,
while a tenure runs on; then the first point is tested (R15, R16, R105, R111). -/
def driveTest (s : State) : State :=
  if s.rsq.state = .queued ∧ s.driveRunning = true then
    firstPointTest (withdrawStart { s with ssu := { s.ssu with request := false } })
  else s

/-! ### Taking the slot -/

/-- The state after a take, before the beacon and the drive test (R112, R117). `settled` is the last
settled START number after the take: the claim's own for a take by settlement. Every take adds 1 to the
attempts, which are not held at the 2 that R113 gives as their highest: a request that stands after a second
tenure can take the slot once more. DESIGN CHOICE, entry 45. -/
def slotTaken (settled : Nat) (s : State) : State :=
  { s with
    rsq := { s.rsq with
      runReq := true
      counters := { s.rsq.counters with startAttempts := sat255 (s.rsq.counters.startAttempts + 1) } }
    ssu := { s.ssu with
      holder := some s.ownStation
      tenure := true
      tenureAt := timerFrom s.now s.pst.strand.startCode
      attempts := s.ssu.attempts + 1
      lastSettled := settled
      claim := .none
      settleAt := none
      clearSent := false }
    pvu := s.pvu.removeOwn .start
    lnc := s.lnc.dropClear }

/-- The station takes the slot (R112, R117). -/
def takeSlot (settled : Nat) (s : State) : State := driveTest (requestBeacon (slotTaken settled s))

/-- Forms an own START claim (R106). -/
def formStart (s : State) : State :=
  let n := nextNumber s.ssu.claimNumber s.ssu.lastSettled
  { s with
    ssu := { s.ssu with claim := .sent, claimNumber := n, settleAt := none }
    pvu := s.pvu.placeOwn s.ownStation .start n 0
    lnc := s.lnc.queueFrame (s.startFrame n) }

/-- SSU acts on a standing start request by the line state (R105, R117). -/
def actOnRequest (s : State) : State :=
  if s.ssu.request = true ∧ s.ssu.tenure = false ∧ s.ssu.claim = .none then
    match s.lnc.line with
    | .active => formStart s
    | .deaf | .barred => if s.rsq.urgency = 3 then takeSlot s.ssu.lastSettled s else s
    | .off | .listen => s
  else s

/-- SSU's test without the line at a change of urgency (R105, R117). -/
def selfTakeTest (s : State) : State :=
  match s.lnc.line with
  | .deaf | .barred => actOnRequest s
  | .off | .listen | .active => s

/-! ### STOPPED and QUEUED -/

/-- Entry to QUEUED (R14, R15). -/
def enterQueued (s : State) : State :=
  let s1 := refreshUrgency (requestBeacon { s with rsq := { s.rsq with state := .queued } })
  if s1.rsq.runReq then driveTest s1
  else actOnRequest { s1 with ssu := { s1.ssu with request := true } }

/-- Return from QUEUED to STOPPED without a stop event (R17). -/
def returnToStopped (s : State) : State :=
  refreshUrgency (requestBeacon
    (withdrawClaims { s with rsq := { s.rsq with state := .stopped } }))

/-- RSQ evaluates the preconditions of all pending records (R13, R14, R17). -/
def evalPreconditions (s : State) : State :=
  match s.rsq.state with
  | .stopped => if s.allMet then enterQueued s else s
  | .queued => if s.allMet then s else returnToStopped s
  | .unjoined | .parked | .watch | .ramping | .handback | .abandoned => s

/-! ### Stop events -/

/-- A new pending record of a cause (R10, R31). -/
def State.newRecord (s : State) (c : Cause) (epoch : Option Nat) : PendingRecord :=
  { stopTime := s.now
    deadline := timerFrom s.now (s.pst.causes.get c).freezeCode
    epoch := match c with | .tundish => epoch | .dip | .breakout | .hold => none
    latch := match c with | .breakout | .hold => some false | .dip | .tundish => none }

/-- A record after a repeated event of its cause (R11). -/
def PendingRecord.repeated (r : PendingRecord) (c : Cause) (epoch : Option Nat) : PendingRecord :=
  match c with
  | .dip => r
  | .tundish => { r with epoch := epoch }
  | .breakout | .hold => { r with latch := some false }

/-- The pending set after a stop event of a cause (R10, R11). -/
def State.mergeCause (s : State) (p : PendingSet) (c : Cause) (epoch : Option Nat) : PendingSet :=
  match p.get c with
  | some r => p.set c (some (r.repeated c epoch))
  | none => p.set c (some (s.newRecord c epoch))

/-- Stop entry (R7), on a state whose sequencer state and pending set are those of the stop; `before`
is the state the event met. R37 has the urgency change on a stop event and R7 gives it no step: here it
is evaluated once, after the own claims have been withdrawn, so that a rise to 3 brought by the stop
sends no claim again. DESIGN CHOICE, entry 17. -/
def stopEntry (c : Cause) (before : State) (s : State) : State :=
  let hold := (s.entryOf s.rsq.pendingSet.profile).holdSpeed
  let s1 := { s with rsq := { s.rsq with
    runReq := s.rsq.runReq && decide (c ≠ .dip), speed := hold } }
  let s2 := withdrawClaims (setGranted (s1.drawOf hold) s1)
  let s3 := { s2 with ssu := { s2.ssu with attempts := 0 } }
  beaconIfChanged before (refreshUrgency (notify .stopTaken (requestReference s3)))

/-- The context of the running restart (R67). -/
def Rsq.context (r : Rsq) : Context :=
  { cause := r.currentCause, step := r.step, resumeSpeed := r.speed, dwell := r.dwell,
    levelHoldTime := r.levelHoldTime, unmetDeadline := r.carried, baseUrgency := r.baseUrgency,
    counters := r.counters }

/-- Drops the bottom context of a full stack: a DROPPED report and a STACK_DROP capture (R69). -/
def dropBottom (s : State) : State :=
  match s.rsq.stack.getLast? with
  | some bottom =>
    if Config.stackDepth ≤ s.rsq.stack.length then
      let s1 := capture .stackDrop (causeCode bottom.cause).toNat
        (writeReport (s.contextReport .dropped bottom) s)
      { s1 with rsq := { s1.rsq with stack := s1.rsq.stack.take (Config.stackDepth - 1) } }
    else s
  | none => s

/-- Pushes the running restart and leaves its ramp (R8, R68). -/
def pushContext (s : State) : State :=
  let s1 := dropBottom s
  { s1 with rsq := { s1.rsq with
    stack := s1.rsq.context :: s1.rsq.stack
    currentCause := none
    step := 0
    dwell := 0
    levelHoldTime := 0
    levelHold := false
    carried := none
    counters := Counters.start } }

/-- The sequencer as a stop event in WATCH leaves it before stop entry: authority is taken, and a DIP
record is added when DRV_READY is deasserted (R6). -/
def authorityTaken (c : Cause) (epoch : Option Nat) (s : State) : State :=
  let p := PendingSet.empty.set c (some (s.newRecord c epoch))
  { s with rsq := { s.rsq with
    state := .stopped
    runReq := s.drvReady
    pendingSet := if s.drvReady || decide (c = .dip) then p else p.set .dip (some (s.newRecord .dip none))
    counters := Counters.start } }

/-- The sequencer as a stop event in HANDBACK leaves it before stop entry (R9, R65). -/
def handbackStopped (c : Cause) (epoch : Option Nat) (s : State) : State :=
  { s with rsq := { s.rsq with
    state := .stopped
    handbackAt := none
    currentCause := none
    step := 0
    dwell := 0
    levelHoldTime := 0
    pendingSet := PendingSet.empty.set c (some (s.newRecord c epoch))
    counters := Counters.start } }

/-- The sequencer as a stop event in STOPPED, QUEUED or RAMPING leaves it before stop entry: the cause
is merged into the pending set, which is empty in RAMPING (R5, R8, R10). -/
def causeMerged (c : Cause) (epoch : Option Nat) (s : State) : State :=
  { s with rsq := { s.rsq with
    state := .stopped, pendingSet := s.mergeCause s.rsq.pendingSet c epoch } }

/-- A stop event of a cause (R5): ignored, or taken with stop entry, after which the preconditions are
evaluated at once. -/
def stopEvent (c : Cause) (epoch : Option Nat) (s : State) : State :=
  match s.rsq.state with
  | .unjoined | .parked | .abandoned => s
  | .watch => evalPreconditions (stopEntry c s (authorityTaken c epoch s))
  | .stopped | .queued => evalPreconditions (stopEntry c s (causeMerged c epoch s))
  | .ramping => evalPreconditions (stopEntry c s (causeMerged c epoch (pushContext s)))
  | .handback => evalPreconditions (stopEntry c s (handbackStopped c epoch s))

/-! ### Authority given up, ABANDONED, HANDBACK -/

/-- The sequencer without authority: speed, outputs, pending set, cause, stack, deadlines, point and
counters as giving up authority leaves them (R3, R65, R66). -/
def Rsq.withoutAuthority (r : Rsq) (target : SeqState) : Rsq :=
  { r with
    state := target
    pendingSet := PendingSet.empty
    currentCause := none
    step := 0
    dwell := 0
    levelHoldTime := 0
    levelHold := false
    speed := 0
    stack := []
    carried := none
    counters := Counters.start
    handbackAt := none
    runReq := false }

/-- G tracks a fresh F (R78). -/
def trackFeedback (s : State) : State :=
  if s.isFresh s.spu.feedback then setGranted (s.drawOf s.spu.feedback.value) s else s

/-- Authority is given up, to WATCH or PARKED (R3, R78). -/
def giveUpAuthority (target : SeqState) (s : State) : State :=
  let s1 := withdrawClaims s
  let s2 := { s1 with
    rsq := s1.rsq.withoutAuthority target
    ssu := { s1.ssu with attempts := 0 } }
  refreshUrgency (trackFeedback (requestBeacon (requestReference s2)))

/-- Entry to ABANDONED (R22). -/
def enterAbandoned (s : State) : State :=
  let s1 := withdrawClaims (clearStack .abandoned s)
  let s2 := { s1 with
    rsq := { s1.rsq with
      state := .abandoned
      currentCause := s.restartCause
      pendingSet := PendingSet.empty
      carried := none
      levelHold := false
      speed := 0
      runReq := false }
    ssu := { s1.ssu with attempts := 0 } }
  refreshUrgency (requestBeacon (requestReference (setGranted 0 s2)))

/-- Entry to HANDBACK (R20, R21). -/
def enterHandback (s : State) : State :=
  let s1 := withdrawClaims (writeReport (s.runningReport .completed) s)
  let s2 := { s1 with rsq := { s1.rsq with
    state := .handback
    carried := none
    handbackAt := timerFrom s.now s.pst.strand.handbackCode } }
  refreshUrgency (requestBeacon s2)

/-! ### The ramp tick -/

/-- The base that the urgency stands on becomes the one configured for the current cause (R36; entry 12). -/
def takeConfiguredBase (s : State) : State :=
  { s with rsq := { s.rsq with urgencyBase := (s.entryOf s.rsq.currentCause).baseUrgency } }

/-- A pop: the running restart is reported RESUMED and context `c` restored over `rest` with every field of
its record (R62, R67, R70), and the urgency then stands on the base configured for the restored cause (R36;
entry 12). It is evaluated once the creep test is made (R37, R70; entry 17). -/
def popContext (c : Context) (rest : List Context) (s : State) : State :=
  let s1 := writeReport (s.runningReport .resumed) s
  let s2 := { s1 with
    rsq := { s1.rsq with
      stack := rest
      currentCause := c.cause
      step := c.step
      dwell := c.dwell
      levelHoldTime := c.levelHoldTime
      carried := c.unmetDeadline
      baseUrgency := c.baseUrgency
      counters := c.counters.interrupted }
    dbu := { s1.dbu with needOfRunning := false } }
  beaconIfChanged s (refreshUrgency (creepTest (takeConfiguredBase s2)))

/-- A step advance (R61). -/
def advanceStep (s : State) : State :=
  { s with rsq := { s.rsq with
    step := s.rsq.step + 1
    dwell := (s.pointAt s.rsq.currentCause (s.rsq.step + 1)).dwell
    levelHoldTime := 0 } }

/-- A point completes: it pops a context, ends the ramp, or advances the step (R60). -/
def completePoint (s : State) : State :=
  let s1 := { s with rsq := { s.rsq with
    levelHold := false
    counters := { s.rsq.counters with pointsCompleted := s.rsq.counters.pointsCompleted + 1 } } }
  match s.rsq.stack with
  | c :: rest =>
    if s.rsq.speed = c.resumeSpeed ∨ s.currentPoint.last = true then popContext c rest s1
    else advanceStep s1
  | [] => if s.currentPoint.last then enterHandback s1 else advanceStep s1

/-- The level-hold timeout of the current cause is first exceeded by a level-hold time of `after` that
was `before` (R59). -/
def State.holdTimeoutCrossed (s : State) (before after : Nat) : Bool :=
  match durationMs (s.entryOf s.rsq.currentCause).levelHoldCode with
  | some t => decide (before ≤ t ∧ t < after)
  | none => false

/-- A tick that waits on the level gate (R59). -/
def levelWait (s : State) : State :=
  let after := s.rsq.levelHoldTime + Config.rampTick
  let s1 := { s with rsq := { s.rsq with
    levelHoldTime := after
    levelHold := true
    counters := { s.rsq.counters with
      levelHoldTotal := min 65535 (s.rsq.counters.levelHoldTotal + 1) } } }
  if s.holdTimeoutCrossed s.rsq.levelHoldTime after then
    capture .levelHoldTimeout s.spu.level.value s1
  else s1

/-- The at-target step works on the dwell and then on the level gate (R57, R58). -/
def atTargetStep (s : State) : State :=
  let s1 := { s with rsq := { s.rsq with dwell := s.rsq.dwell - 1 } }
  if s.rsq.dwell ≤ 1 then
    if s.currentPoint.levelGate && !s.levelInBand (s.entryOf s.rsq.currentCause) then levelWait s1
    else completePoint s1
  else s1

/-- The rising step, which may end blocked by draw (R54, R55). -/
def risingStep (s : State) : State :=
  let new := min (s.rsq.speed + s.currentPoint.slew) (min s.target s.speedMax)
  let s1 := { s with rsq := { s.rsq with speed := new } }
  if new = s.speedMax ∧ new < s.target then
    if s.dbu.claim.outstanding then s1 else giveNeed (s.drawOf s.target - s.dbu.granted) s1
  else dropHeldNeed s1

/-- The falling step (R56). -/
def fallingStep (s : State) : State :=
  dropHeldNeed { s with rsq := { s.rsq with
    speed := max (s.rsq.speed - s.currentPoint.slew) s.target } }

/-- One step of the ramp (R52). -/
def rampStep (s : State) : State :=
  if s.rsq.speed < s.target then risingStep s
  else if s.target < s.rsq.speed then fallingStep s
  else atTargetStep (dropHeldNeed s)

/-- A ramp tick falls now and has not been taken (R52, entry 5). -/
def State.tickDue (s : State) : Bool :=
  decide (s.rsq.state ≠ .unjoined) && decide (s.rsq.tickPhase = 0) && !s.rsq.tickTaken

/-- The ramp tick: it acts on the ramp in RAMPING, and requests a reference record in every joined
state (R52, R165). -/
def takeTick (s : State) : State :=
  let s1 := { s with rsq := { s.rsq with tickTaken := true } }
  requestReference (if s.rsq.state = .ramping then rampStep s1 else s1)

/-! ### Tundish events (DBU) -/

/-- DBU takes a BEGIN of epoch `e` (R82). -/
def takeBegin (e : Nat) (s : State) : State :=
  if newerEpoch e s.dbu.epoch then
    requestBeacon (stopEvent .tundish (some e)
      { s with dbu := { s.dbu with epoch := e, phase := .opened, learned := true, mismatch := false } })
  else s

/-- DBU adopts a limit from the line where its limit source is LINE (R80). -/
def adoptLimit (l : Option Nat) (s : State) : State :=
  match l with
  | some l => if s.pst.strand.limitSource = .line then setLimit l s else s
  | none => s

/-- DBU asks for a beacon on a change of epoch, phase or L (R83, R146). -/
def beaconIfTundishChanged (before after : State) : State :=
  if before.dbu.epoch = after.dbu.epoch ∧ before.dbu.phase = after.dbu.phase
      ∧ before.dbu.limit = after.dbu.limit then after
  else requestBeacon after

/-- DBU takes a READY of epoch `e` with the limit it may adopt (R83, R84). -/
def takeReady (e : Nat) (l : Option Nat) (s : State) : State :=
  if e = s.dbu.epoch then
    evalPreconditions (beaconIfTundishChanged s
      (adoptLimit l { s with dbu := { s.dbu with phase := .ready } }))
  else if newerEpoch e s.dbu.epoch then
    evalPreconditions (beaconIfTundishChanged s
      (adoptLimit l
        { s with dbu := { s.dbu with epoch := e, phase := .ready, learned := true, mismatch := false } }))
  else s

/-- A change of L by an EVENT is a view change for DBU (R80, R90). -/
def takeReadyEvent (e limit : Nat) (s : State) : State :=
  let s1 := takeReady e (some limit) s
  if s1.dbu.limit = s.dbu.limit then s1 else drawViewChange s1

/-- The limit a beacon offers: none from a LOCAL sender (R84, R85). -/
def beaconLimit (b : BeaconFields) : Option Nat := if b.limitLocal then none else some b.limit

/-- The phase a beacon shows. -/
def beaconPhase (b : BeaconFields) : Phase := if b.phaseReady then .ready else .opened

/-- DBU adopts epoch, phase and limit from the first beacon it takes (R85). -/
def adoptEpoch (b : BeaconFields) (s : State) : State :=
  evalPreconditions (beaconIfTundishChanged s
    (adoptLimit (beaconLimit b)
      { s with dbu := { s.dbu with
        epoch := b.epoch
        phase := beaconPhase b
        learned := true
        mismatch := s.dbu.mismatch && decide (b.epoch = s.dbu.epoch) } }))

/-- Repair of the epoch, phase and limit from a peer's beacon (R84, R85). -/
def repairTundish (b : BeaconFields) (s : State) : State :=
  if s.dbu.learned = false then adoptEpoch b s
  else if newerEpoch b.epoch s.dbu.epoch then
    if b.phaseReady then takeReady b.epoch (beaconLimit b) s else takeBegin b.epoch s
  else if b.epoch = s.dbu.epoch ∧ b.phaseReady = true ∧ s.dbu.phase = .opened then
    takeReady b.epoch (beaconLimit b) s
  else s

/-- The mismatch test on a peer's beacon (R86). -/
def mismatchTest (station : Nat) (b : BeaconFields) (s : State) : State :=
  if b.limitLocal = false ∧ b.phaseReady = true ∧ b.epoch = s.dbu.epoch ∧ s.dbu.phase = .ready
      ∧ s.pst.strand.limitSource = .line ∧ b.limit ≠ s.dbu.limit ∧ s.dbu.mismatch = false then
    capture .limitMismatch station { s with dbu := { s.dbu with mismatch := true } }
  else s

/-! ### Line state changes (LNC) -/

/-- DBU takes a new line state (R90, R98, R154). -/
def drawLineChange (new : LineState) (s : State) : State :=
  match new with
  | .active => drawViewChange s
  | .deaf | .barred => drawLineLost s
  | .off | .listen => s

/-- SSU takes a new line state (R105, R111, R117, R154). -/
def startLineChange (new : LineState) (s : State) : State :=
  match new with
  | .active => actOnRequest s
  | .deaf | .barred => actOnRequest (withdrawStart s)
  | .off | .listen => s

/-- The beacon that a change to ACTIVE or DEAF queues, and the start of a beacon timer that stands
still (R146, R154). -/
def lineBeacon (new : LineState) (s : State) : State :=
  if new.allowsBeacon then
    { s with lnc := { s.lnc.requestBeacon with
      beaconAt := some (s.lnc.beaconAt.getD (later s.now s.beaconPeriod)) } }
  else s

/-- A change of line state (R154): LINE_CHANGED is raised, DBU and SSU take the new state, RSQ tests the
first point (R16), and then the beacon is queued. -/
def changeLine (new : LineState) (s : State) : State :=
  let s1 := notify .lineChanged { s with lnc := { s.lnc with line := new } }
  lineBeacon new (firstPointTest (startLineChange new (drawLineChange new s1)))

/-- The detail of LINE_DEAF: errors (11_formats.md). -/
def detailErrors : Nat := 1

/-- The detail of LINE_DEAF: silence (11_formats.md). -/
def detailSilence : Nat := 2

/-- The line goes DEAF with LINE_DEAF captured (R150, R151). -/
def goDeaf (detail : Nat) (s : State) : State := changeLine .deaf (capture .lineDeaf detail s)

/-! ### Answers of the command port -/

/-- CPN puts the reply to a command in the reply buffer (R169, R171). -/
def answer (code : Byte) (status : Status) (data : List Byte) (s : State) : State :=
  { s with cpn := { s.cpn with reply := { status := status, code := code, data := data } } }

end Sys2Proof.Machine
end

