-- ==== Sys2Proof/Machine/Claims.lean ====
section
/-! DEFINITION. The timers of the own claims and of the tenure: DRAW_SETTLE, START_SETTLE_EXPIRY,
TENURE_TIMER_EXPIRY (05, R95; 06, R108, R112, R113). -/

namespace Sys2Proof.Machine

/-- DBU's part of a settle: the amount joins G, the claim ends (R95). -/
def settleDraw (s : State) : State :=
  setGranted (s.dbu.granted + s.dbu.amount)
    { s with
      dbu := { s.dbu with
        claim := .none, need := none, settleAt := none, lastSettled := s.dbu.claimNumber }
      pvu := s.pvu.removeOwn .draw }

/-- The counters of the running restart with one more draw claim settled, where that restart gave the
need (R66). -/
def countSettled (s : State) : State :=
  if s.dbu.needOfRunning then
    { s with rsq := { s.rsq with counters := { s.rsq.counters with
        drawSettled := sat255 (s.rsq.counters.drawSettled + 1) } } }
  else s

/-- DRAW_SETTLE (R95); RSQ then makes the test of R16. -/
def execDrawSettle (s : State) : Host.Outcome State Fault Refusal :=
  released s <|
    occur (whenever (decide (s.dbu.claim = .contending) && expired s.now s.dbu.settleAt)
      (fun s => firstPointTest (requestBeacon (countSettled (settleDraw s))))) s

/-- The own START claim waits its turn (R108), and a CLEAR may be sent (R115). -/
def startWaits (s : State) : State :=
  clearTest
    { s with
      ssu := { s.ssu with claim := .waiting, settleAt := none }
      pvu := s.pvu.setOwnStatus .start .waiting }

/-- The settle expiry of the own START claim: it takes the slot or waits (R108). -/
def settleStart (s : State) : State :=
  if s.ssu.holder = none ∧ s.startTopRanked = true then takeSlot s.ssu.claimNumber s else startWaits s

/-- START_SETTLE_EXPIRY (R108). -/
def execStartSettleExpiry (s : State) : Host.Outcome State Fault Refusal :=
  released s <|
    occur (whenever (decide (s.ssu.claim = .contending) && expired s.now s.ssu.settleAt) settleStart) s

/-- A start timeout: START_TIMEOUT with the attempt, RUN_REQ cleared, the tenure ended (R113). -/
def startTimeout (attempt : Nat) (s : State) : State :=
  let s1 := capture .startTimeout attempt s
  endTenure .timeout { s1 with rsq := { s1.rsq with runReq := false } }

/-- The tenure timer runs out (R113). A count of 0 attempts, which no run reaches with a tenure, acts as
the first attempt (entry 28); a count past 2 acts as the second, with detail 2: DESIGN CHOICE, entry 45. -/
def tenureTimeout (s : State) : State :=
  if s.drvReady then endTenure .timeout s
  else if s.ssu.attempts < 2 then actOnRequest (startTimeout 1 s)
  else enterAbandoned (startTimeout 2 s)

/-- TENURE_TIMER_EXPIRY (R113). -/
def execTenureTimerExpiry (s : State) : Host.Outcome State Fault Refusal :=
  released s <|
    occur (whenever (s.ssu.tenure && expired s.now s.ssu.tenureAt) tenureTimeout) s

end Sys2Proof.Machine
end

