-- ==== Sys2Proof/Machine/Layouts.lean ====
section
/-! DEFINITION. The data of the replies that return a record: the layouts of 11_formats.md, Returned
Records, filled from the state (R134, R135, R177, R182, R73). -/

namespace Sys2Proof.Machine

/-- The data of IDENTIFY: part identity, straps, STRAP_DONE (R178). -/
def State.identityBytes (s : State) : List Byte :=
  Config.identity ++ [s.cpn.straps.station.setWidth 8, s.cpn.straps.count.setWidth 8,
    flagByte s.cpn.straps.lrate, flagByte s.cpn.strapDone]

/-- The release latch of a pending record, clear where there is none. -/
def latchOf (r : Option PendingRecord) : Bool := (r.bind (·.latch)).getD false

/-- The pending set as a byte of the status layout. -/
def pendingByte (p : PendingSet) : Byte :=
  byte (flagBit p.dip.isSome 1 + flagBit p.tundish.isSome 2 + flagBit p.breakout.isSome 4
    + flagBit p.hold.isSome 8 + flagBit (latchOf p.breakout) 64 + flagBit (latchOf p.hold) 128)

/-- The output flags of the status layout. -/
def State.outputByte (s : State) : Byte :=
  byte (flagBit s.auth 1 + flagBit s.rsq.runReq 2 + flagBit s.flowClose 4)

/-- Freshness of F and level, and the filtered inputs, of the status layout. -/
def State.inputByte (s : State) : Byte :=
  byte (flagBit (s.isFresh s.spu.feedback) 1 + flagBit (s.isFresh s.spu.level) 2
    + flagBit (s.filtered .supplyOk) 16 + flagBit (s.filtered .drvReady) 32
    + flagBit (s.filtered .brkIn) 64 + flagBit (s.filtered .dummyIn) 128)

/-- The holder view as a byte, FFh for none. -/
def holderByte (h : Option Nat) : Byte :=
  match h with
  | some n => byte n
  | none => 0xFF

/-- The 29 data bytes of GET_STATUS (R177). -/
def State.statusBytes (s : State) : List Byte :=
  [seqStateCode s.rsq.state, causeCode s.restartCause, pendingByte s.rsq.pendingSet,
    byte s.rsq.step, byte s.rsq.stack.length, byte s.rsq.urgency]
  ++ bytes16 s.deadlineField ++ bytes16 s.rsq.speed ++ [s.outputByte]
  ++ bytes16 s.spu.feedback.value ++ bytes16 s.spu.level.value ++ [s.inputByte]
  ++ bytes16 s.dbu.granted ++ bytes16 s.sendHeadroom ++ bytes16 s.dbu.limit
  ++ [byte s.dbu.epoch, phaseCode s.dbu.phase, lineStateCode s.lnc.line, holderByte s.ssu.holder]
  ++ bytes16 s.noticeBits ++ [flagByte s.cpn.fault.locked]

/-- The age of a peer entry as the snapshot gives it: 65535 for an ABSENT entry, else saturating at
65534 (R134). -/
def State.ageField (s : State) (e : PeerEntry) : Nat :=
  match e.lastBeacon with
  | some t => min 65534 (ageAt s.now t)
  | none => 65535

/-- The RELEASE reason as a byte, 00h for NONE. -/
def reasonByte (r : Option ReleaseReason) : Byte :=
  match r with
  | some r => reasonCode r
  | none => 0x00

/-- The flag byte of a peer entry, laid out as in the BEACON. -/
def peerFlags (e : PeerEntry) : Nat :=
  flagBit e.auth 1 + flagBit e.slotHeld 2 + flagBit e.deaf 4 + flagBit e.limitLocal 8
    + flagBit e.phaseReady 16

/-- An entry as the snapshot shows it: an ABSENT one keeps only its RELEASE reason (R134). -/
def PeerEntry.shown (e : PeerEntry) : PeerEntry :=
  if e.status = .absent then { PeerEntry.reset with releaseReason := e.releaseReason } else e

/-- The peer entry at station `k`. -/
def State.peer (s : State) (k : Nat) : PeerEntry := s.pvu.peers[k]?.getD PeerEntry.reset

/-- The 22 data bytes of GET_PEER for station `k` (R134). -/
def State.peerBytes (s : State) (k : Nat) : List Byte :=
  let e := (s.peer k).shown
  [byte k, peerStatusCode e.status] ++ bytes16 (s.ageField e)
  ++ [byte e.missed, byte e.sequence, byte e.periodCode, seqStateCode e.state, causeCode e.cause,
    byte e.urgency]
  ++ bytes16 e.draw ++ bytes16 e.speed ++ bytes16 (s.remainingField e.deadline)
  ++ [byte (peerFlags e), byte (e.settledDraw * 16 + e.settledStart), byte e.epoch]
  ++ bytes16 e.limit ++ [reasonByte e.releaseReason]

/-- The lifetime remaining of a claim: 65535 for an own entry, else saturating at 65534 (R135). -/
def State.lifetimeField (s : State) (e : ClaimEntry) : Nat :=
  match e.origin with
  | .peer _ _ lifetime => min 65534 (timeLeft s.now lifetime)
  | .own _ => 65535

/-- The status byte of a claim entry. -/
def claimStatusCode : ClaimOrigin → Byte
  | .peer _ _ _ => 0x00
  | .own .sent => 0x01
  | .own .contending => 0x02
  | .own .waiting => 0x03

/-- The 11 bytes of one claim of GET_CLAIMS (R135). -/
def State.claimBytes (s : State) (e : ClaimEntry) : List Byte :=
  [byte e.station, claimKindCode e.kind, byte e.number, byte (s.entryUrgency e)]
  ++ bytes16 (s.remainingField (s.entryDeadline e)) ++ bytes16 e.amount
  ++ bytes16 (s.lifetimeField e) ++ [claimStatusCode e.origin]

/-- The data bytes of GET_CLAIMS: count, then the entries in the list's order (R135). -/
def State.claimListBytes (s : State) : List Byte :=
  byte s.rankedClaims.length :: s.rankedClaims.flatMap s.claimBytes

/-- The last step reached as a byte, FFh for NONE. -/
def lastStepByte (n : Option Nat) : Byte :=
  match n with
  | some n => byte n
  | none => 0xFF

/-- The 15 data bytes of a report (R73). -/
def Report.bytes (r : Report) : List Byte :=
  [causeCode r.cause, outcomeCode r.outcome, byte r.pointsCompleted, lastStepByte r.lastStep,
    byte r.pointsLeft]
  ++ bytes16 r.finalSpeed ++ bytes16 (r.timeToCreep.getD Config.absent16)
  ++ [byte r.drawSettled, byte r.drawWithdrawn, byte r.startAttempts]
  ++ bytes16 r.levelHoldTotal ++ [byte r.timesInterrupted]

/-- The 13 data bytes of the fault record (R182, R187). The layout gives no code for a set locked flag
and for MULTIPLE in a locked record; they are sent as 01h when set and 00h when clear: DESIGN CHOICE,
entry 42. -/
def FaultRecord.bytes (r : FaultRecord) : List Byte :=
  [flagByte r.locked, faultKindCode r.kind, seqStateCode r.state, causeCode r.cause, byte r.step]
  ++ bytes32 r.time ++ bytes16 r.detail ++ [flagByte r.multiple, byte r.later]

end Sys2Proof.Machine
end

