-- ==== Sys2Proof/Machine/Line.lean ====
section
/-! DEFINITION. The line controller's own events: its timers, the start, abort and end of an own frame,
bad frames and the duplicate station (08, R140 to R153). -/

namespace Sys2Proof.Machine

/-! ### Timers -/

/-- BEACON_TIMER_EXPIRY (R146): a BEACON is queued; the timer starts again with its transmission. -/
def execBeaconTimerExpiry (s : State) : Host.Outcome State Fault Refusal :=
  released s <|
    .next (whenever (s.lnc.line.allowsBeacon && expired s.now s.lnc.beaconAt)
      (fun s => requestBeacon { s with lnc := { s.lnc with beaconAt := none } }) s)

/-- The end of LISTEN (R150). -/
def endListen (s : State) : State :=
  let s1 := { s with lnc := { s.lnc with listenAt := none } }
  if s.pst.strand.deafThreshold ≤ s.lnc.deafCount then goDeaf detailErrors s1
  else changeLine .active s1

/-- LISTEN_TIMER_EXPIRY (R150). -/
def execListenTimerExpiry (s : State) : Host.Outcome State Fault Refusal :=
  released s <|
    occur (whenever (decide (s.lnc.line = .listen) && expired s.now s.lnc.listenAt) endListen) s

/-- SILENCE_TIMER_EXPIRY (R151). -/
def execSilenceTimerExpiry (s : State) : Host.Outcome State Fault Refusal :=
  released s <|
    occur (whenever (decide (s.lnc.line = .active) && expired s.now s.lnc.silenceAt)
      (goDeaf detailSilence)) s

/-! ### Composition and transmission -/

/-- The fields of a BEACON as they stand now (R147). -/
def State.beaconFields (s : State) : BeaconFields :=
  { sequence := s.lnc.sequence, periodCode := s.pst.strand.periodCode, state := s.rsq.state,
    cause := s.restartCause, urgency := s.rsq.urgency, draw := s.dbu.granted,
    speed := if s.auth then s.rsq.speed else s.spu.feedback.value,
    deadline := s.deadlineField, auth := s.auth, slotHeld := s.ssu.tenure,
    deaf := decide (s.lnc.line = .deaf), limitLocal := decide (s.pst.strand.limitSource = .localSource),
    phaseReady := decide (s.dbu.phase = .ready), settledDraw := s.dbu.lastSettled,
    settledStart := s.ssu.lastSettled, epoch := s.dbu.epoch, limit := s.dbu.limit }

/-- A queued frame with the live fields of a CLAIM, which are composed at its start (R144). -/
def QueuedFrame.body (urgency deadline : Nat) : QueuedFrame → FrameBody
  | .claim kind number amount settle =>
    .claim { kind := kind, number := number, urgency := urgency, deadline := deadline,
             amount := amount, settle := settle }
  | .withdraw kind number => .withdraw kind number
  | .release reason => .release reason
  | .clear target => .clear target
  | .eventBegin epoch => .eventBegin epoch
  | .eventReady epoch limit => .eventReady epoch limit

/-- A queued frame as composed now: fields fixed when queued, urgency and deadline live (R144). -/
def State.compose (s : State) (f : QueuedFrame) : FrameBody := f.body s.rsq.urgency s.deadlineField

/-- A frame body passes to the transmitter now (R144). -/
def State.transmit (s : State) (body : FrameBody) : Transmission :=
  { frame := { station := s.ownStation, body := body }, sent := 0 }

/-- The head frame leaves its slot for the transmitter; a BEACON restarts the beacon timer (R142, R144,
R146). -/
def startFrame (h : Head) (s : State) : State :=
  match h with
  | .beacon =>
    { s with lnc := { s.lnc with
      beacon := .empty, tx := some (s.transmit (.beacon s.beaconFields)),
      beaconAt := some (later s.now s.beaconPeriod), quiet := some 0 } }
  | .frame f =>
    { s with lnc := { s.lnc with
      queue := s.lnc.queue.erase f, tx := some (s.transmit (s.compose f)), quiet := some 0 } }

/-- The head frame that may start now: the quiet time has reached its gap (R140). -/
def State.startable (s : State) : Option Head :=
  match s.lnc.tx, s.lnc.head, s.lnc.quiet with
  | none, some h, some q => if headGap s.ownStation h ≤ q then some h else none
  | _, _, _ => none

/-- The head frame starts if it may. -/
def tryStart (s : State) : State :=
  match s.startable with
  | some h => startFrame h s
  | none => s

/-- A station that does not send reads levels on LRX, one at each bit boundary (R137, R140). -/
def readLevels (levels : List Bool) (s : State) : State :=
  if s.lnc.tx.isSome then s else { s with lnc := levels.foldl Lnc.readBit s.lnc }

/-- TRANSMISSION_START: the levels on LRX since the last boundary the state has read, and then the start
of the head frame where the quiet time has reached its gap (R140, R144; entry 10). -/
def execTransmissionStart (levels : List Bool) (s : State) : Host.Outcome State Fault Refusal :=
  released s <|
    .next (tryStart (readLevels levels s))

/-- The queued form of a frame body; none for a BEACON. -/
def FrameBody.queued : FrameBody → Option QueuedFrame
  | .beacon _ => none
  | .claim c => some (.claim c.kind c.number c.amount c.settle)
  | .withdraw kind number => some (.withdraw kind number)
  | .release reason => some (.release reason)
  | .clear target => some (.clear target)
  | .eventBegin epoch => some (.eventBegin epoch)
  | .eventReady epoch limit => some (.eventReady epoch limit)

/-- Is `f` the CLAIM that the WITHDRAW `g` withdraws? -/
def withdraws (g f : QueuedFrame) : Bool :=
  match g, f with
  | .withdraw k n, .claim k' n' _ _ => decide (k = k' ∧ n = n')
  | _, _ => false

/-- The queue when the aborted frame `f` returns to its slot at the head (R141, R143). -/
def requeue (f : QueuedFrame) (q : List QueuedFrame) : List QueuedFrame :=
  match q.find? (fun g => decide (g.slot = f.slot)) with
  | none => f :: q
  | some g => if withdraws g f then q.erase g else g :: q.erase g

/-- An own frame is aborted (R141). -/
def abortFrame (t : Transmission) (s : State) : State :=
  match t.frame.body.queued with
  | none => { s with lnc := { s.lnc with tx := none, beacon := .retry, quiet := some 0 } }
  | some f => { s with lnc := { s.lnc with tx := none, queue := requeue f s.lnc.queue, quiet := some 0 } }

/-- TRANSMISSION_ABORT (R141). -/
def execTransmissionAbort (s : State) : Host.Outcome State Fault Refusal :=
  released s <|
    match s.lnc.tx with
    | some t => .next (abortFrame t s)
    | none => .next s

/-! ### The end of an own frame -/

/-- DBU at the end of its own CLAIM: the settle timer starts unless the slot is filled again (R93,
R145). -/
def drawSent (number : Nat) (s : State) : State :=
  if s.dbu.claim = .sent ∧ s.dbu.claimNumber = number ∧ s.lnc.slotFull .drawClaim = false then
    { s with
      dbu := { s.dbu with claim := .contending, settleAt := some (later s.now s.pst.strand.settleTime) }
      pvu := s.pvu.setOwnStatus .draw .contending }
  else s

/-- SSU at the end of its own CLAIM (R107, R145). -/
def startSent (number : Nat) (s : State) : State :=
  if s.ssu.claim = .sent ∧ s.ssu.claimNumber = number ∧ s.lnc.slotFull .startClaim = false then
    { s with
      ssu := { s.ssu with claim := .contending, settleAt := some (later s.now s.pst.strand.settleTime) }
      pvu := s.pvu.setOwnStatus .start .contending }
  else s

/-- The own blocks take the own frame (R145). -/
def takeOwn (body : FrameBody) (s : State) : State :=
  match body with
  | .beacon _ => { s with lnc := { s.lnc with sequence := (s.lnc.sequence + 1) % 256 } }
  | .claim c =>
    match c.kind with
    | .draw => drawSent c.number s
    | .start => startSent c.number s
  | .withdraw _ _ | .release _ | .clear _ => s
  | .eventBegin epoch => takeBegin epoch s
  | .eventReady epoch limit => takeReadyEvent epoch limit s

/-- OWN_FRAME_END: the frame is taken 10 bit times after its last stop bit (R138, R145). -/
def execOwnFrameEnd (s : State) : Host.Outcome State Fault Refusal :=
  released s <|
    match s.lnc.tx with
    | some t =>
      occur (fun s =>
        takeOwn t.frame.body { s with lnc := { s.lnc.atFrameEnd with tx := none } }) s
    | none => .next s

/-! ### Bad frames and the duplicate station -/

/-- A frame ends on the line. Until the receiver has seen 10 bit times of quiet since JOIN the frame was
under way at JOIN: it is not taken and not counted, and its end is that quiet. Otherwise the frame is
taken by `f` (R138, R150). -/
def frameTaken (f : State → State) (s : State) : State :=
  if s.lnc.synced then f s else { s with lnc := s.lnc.atFrameEnd }

/-- A bad frame (R148, R149, R151). -/
def takeBadFrame (s : State) : State :=
  let s1 := { s with lnc := s.lnc.atFrameEnd }
  if s.lnc.line = .barred then s1
  else
    let count := sat255 (s.lnc.deafCount + Config.badFrameWeight)
    let s2 := { s1 with lnc := { s1.lnc with deafCount := count } }
    if s.lnc.line = .active ∧ s.pst.strand.deafThreshold ≤ count then goDeaf detailErrors s2 else s2

/-- The bytes are those of a bad frame that the station takes (R148). -/
def State.isBadFrame (s : State) (bytes : List Byte) (framingFault : Bool) : Bool :=
  decide (s.lnc.line ≠ .off) && !bytes.isEmpty
    && (validFrame s.strandCount bytes framingFault).isNone

/-- BAD_FRAME_RECEIVED (R148). -/
def execBadFrameReceived (bytes : List Byte) (framingFault : Bool) (s : State) :
    Host.Outcome State Fault Refusal :=
  released s <|
    occur (whenever (s.isBadFrame bytes framingFault) (frameTaken takeBadFrame)) s

/-- Another station carries the own number: the line is BARRED (R153). -/
def enterBarred (kind : FrameKind) (s : State) : State :=
  let s1 := capture .duplicateStation (frameKindCode kind).toNat s
  changeLine .barred
    { s1 with lnc := { s1.lnc.atFrameEnd with
      queue := [], beacon := .empty, tx := none, beaconAt := none, listenAt := none } }

/-- The line states from which a duplicate bars the station (R153). -/
def LineState.canBar : LineState → Bool
  | .listen | .active | .deaf => true
  | .off | .barred => false

/-- DUPLICATE_STATION (R153). -/
def execDuplicateStation (kind : FrameKind) (s : State) : Host.Outcome State Fault Refusal :=
  released s <|
    occur (whenever s.lnc.line.canBar (frameTaken (enterBarred kind))) s

end Sys2Proof.Machine
end

