-- ==== Sys2Proof/Machine/Receive.lean ====
section
/-! DEFINITION. The taking of valid peer frames: the reception of R148 to R152, and what PVU, SSU and
DBU do with each kind (05, R82 to R86; 06, R102, R116; 07, R120 to R131). -/

namespace Sys2Proof.Machine

/-- A frame of sender `station` is a valid peer frame that the station takes (R148). -/
def State.hears (s : State) (station : Nat) : Bool :=
  decide (s.lnc.line ≠ .off ∧ station < s.strandCount ∧ station ≠ s.ownStation)

/-- LNC at a valid peer frame, before the frame passes to PVU (R148, R149, R152). -/
def receivePeer (s : State) : State :=
  let s1 := { s with lnc := s.lnc.atFrameEnd }
  if s.lnc.line = .barred then s1
  else
    let s2 := { s1 with lnc := { s1.lnc with
      deafCount := s.lnc.deafCount - 1
      silenceAt := some (later s.now (3 * s.beaconPeriod)) } }
    if s.lnc.line = .deaf ∧ s.lnc.deafCount ≤ 1 then changeLine .active s2 else s2

/-- Replaces the peer entry at station `k`. -/
def setPeer (k : Nat) (e : PeerEntry) (s : State) : State :=
  { s with pvu := { s.pvu with peers := s.pvu.peers.setIfInBounds k e } }

/-! ### BEACON -/

/-- Beacons missed, after a beacon of sequence `n` (R121). -/
def PeerEntry.missedAfter (e : PeerEntry) (n : Nat) : Nat :=
  match e.status with
  | .live | .suspect =>
    if n = e.sequence then e.missed else sat255 (e.missed + (n + 255 - e.sequence) % 256)
  | .absent | .lost => e.missed

/-- The entry of a peer after its beacon (R120). -/
def State.beaconEntry (s : State) (e : PeerEntry) (b : BeaconFields) : PeerEntry :=
  { status := .live, lastBeacon := some s.now, sequence := b.sequence,
    missed := e.missedAfter b.sequence, periodCode := max 5 (min 100 b.periodCode),
    state := b.state, cause := b.cause, urgency := b.urgency, draw := b.draw, speed := b.speed,
    deadline := s.heardDeadline b.deadline, auth := b.auth, slotHeld := b.slotHeld, deaf := b.deaf,
    limitLocal := b.limitLocal, phaseReady := b.phaseReady, settledDraw := b.settledDraw,
    settledStart := b.settledStart, epoch := b.epoch, limit := b.limit,
    releaseReason := e.releaseReason }

/-- A beacon of `station` shows claim `e` of that station to be finished (R131). -/
def finishedBy (station : Nat) (b : BeaconFields) (e : ClaimEntry) : Bool :=
  !e.isOwn && decide (e.station = station)
    && (match e.kind with
      | .draw => decide (e.number = b.settledDraw)
      | .start => decide (e.number = b.settledStart) || b.slotHeld)

/-- Removes the peers' claims that satisfy `gone`. -/
def removeClaims (gone : ClaimEntry → Bool) (s : State) : State :=
  { s with pvu := { s.pvu with claims := s.pvu.claims.filter fun e => !gone e } }

/-- A START claim among those that satisfy `gone` stands in the list. -/
def State.losesStart (s : State) (gone : ClaimEntry → Bool) : Bool :=
  s.pvu.claims.any fun e => gone e && decide (e.kind = .start)

/-- SSU's holder view at a beacon (R102). -/
def beaconHolder (station : Nat) (b : BeaconFields) (s : State) : State :=
  if b.slotHeld then setHolder (some station) s
  else if s.ssu.holder = some station then setHolder none s
  else s

/-- PVU takes a beacon: the entry first, then the claims it shows to be finished (R120, R131). -/
def takeBeaconEntry (station : Nat) (b : BeaconFields) (s : State) : State :=
  removeClaims (finishedBy station b) (setPeer station (s.beaconEntry (s.peer station) b) s)

/-- DBU takes a beacon: repair, mismatch test, overcommit test, then its view change (R84, R86, R90,
R100). -/
def drawBeacon (station : Nat) (b : BeaconFields) (s : State) : State :=
  drawViewChange (evalOvercommit (mismatchTest station b (repairTundish b s)))

/-- A beacon is taken: PVU, then SSU with the re-test of a removed START claim (entry 14), then DBU. -/
def takeBeacon (station : Nat) (b : BeaconFields) (s : State) : State :=
  let s1 := beaconHolder station b (takeBeaconEntry station b s)
  drawBeacon station b (if s.losesStart (finishedBy station b) then retestStart s1 else s1)

/-- BEACON_RECEIVED (R120). -/
def execBeaconReceived (station : Nat) (fields : BeaconFields) (s : State) :
    Host.Outcome State Fault Refusal :=
  released s <|
    occur (whenever (s.hears station)
      (frameTaken fun s => takeBeacon station fields (receivePeer s))) s

/-! ### CLAIM and WITHDRAW -/

/-- The lifetime of a peer's claim in ms (R128). -/
def State.claimLifetime (s : State) (station settle : Nat) : Nat :=
  let e := s.peer station
  if e.status = .absent then Config.unknownLifetime
  else 2 * max 10 (min 250 settle) + 2 * (e.periodCode * 10)

/-- The list entry of a peer's claim (R128). -/
def State.claimEntry (s : State) (station : Nat) (c : ClaimFields) : ClaimEntry :=
  { station := station, kind := c.kind, number := c.number,
    amount := match c.kind with | .draw => c.amount | .start => 0
    origin := .peer c.urgency (s.heardDeadline c.deadline)
      (later s.now (s.claimLifetime station c.settle)) }

/-- PVU enters a claim in place of any entry of that station and kind (R128). -/
def enterClaim (e : ClaimEntry) (s : State) : State :=
  { s with pvu := { s.pvu with
    claims := s.pvu.claims.filter (fun g => !decide (g.station = e.station ∧ g.kind = e.kind)) ++ [e] } }

/-- CLAIM_RECEIVED (R128). -/
def execClaimReceived (station : Nat) (fields : ClaimFields) (s : State) :
    Host.Outcome State Fault Refusal :=
  released s <|
    occur (whenever (s.hears station) (frameTaken fun s =>
      let s1 := receivePeer s
      drawViewChange (enterClaim (s1.claimEntry station fields) s1))) s

/-- Is `e` the claim a WITHDRAW names? -/
def withdrawnBy (station : Nat) (kind : ClaimKind) (number : Nat) (e : ClaimEntry) : Bool :=
  !e.isOwn && decide (e.station = station ∧ e.kind = kind ∧ e.number = number)

/-- Peers' claims leave the list: a view change for DBU, and the re-test at SSU when a START claim
left (R123, R130, R132, R133). -/
def claimsLeave (gone : ClaimEntry → Bool) (s : State) : State :=
  let s1 := drawViewChange (removeClaims gone s)
  if s.losesStart gone then retestStart s1 else s1

/-- WITHDRAW_RECEIVED (R130). -/
def execWithdrawReceived (station : Nat) (kind : ClaimKind) (number : Nat) (s : State) :
    Host.Outcome State Fault Refusal :=
  released s <|
    occur (whenever (s.hears station)
      (frameTaken fun s => claimsLeave (withdrawnBy station kind number) (receivePeer s))) s

/-! ### RELEASE, CLEAR, EVENT -/

/-- A peer's RELEASE is taken: the reason is kept, the view cleared if it names the sender, and DBU
takes a view change (R102, R126). -/
def takeRelease (station : Nat) (reason : ReleaseReason) (s : State) : State :=
  let s1 := setPeer station { s.peer station with releaseReason := some reason } s
  drawViewChange (if s.ssu.holder = some station then setHolder none s1 else s1)

/-- RELEASE_RECEIVED (R126). -/
def execReleaseReceived (station : Nat) (reason : ReleaseReason) (s : State) :
    Host.Outcome State Fault Refusal :=
  released s <|
    occur (whenever (s.hears station)
      (frameTaken fun s => takeRelease station reason (receivePeer s))) s

/-- SSU takes a CLEAR (R116). -/
def takeClear (target : Nat) (s : State) : State :=
  if target = s.ownStation ∧ s.ssu.tenure = true then
    if s.drvReady then endTenure .cleared s
    else { s with ssu := { s.ssu with clearPending := true } }
  else s

/-- CLEAR_RECEIVED (R116). -/
def execClearReceived (station : Nat) (target : Nat) (s : State) : Host.Outcome State Fault Refusal :=
  released s <|
    occur (whenever (s.hears station) (frameTaken fun s => takeClear target (receivePeer s))) s

/-- EVENT_BEGIN_RECEIVED (R82). -/
def execEventBeginReceived (station : Nat) (epoch : Nat) (s : State) :
    Host.Outcome State Fault Refusal :=
  released s <|
    occur (whenever (s.hears station) (frameTaken fun s => takeBegin epoch (receivePeer s))) s

/-- EVENT_READY_RECEIVED (R83). -/
def execEventReadyReceived (station : Nat) (epoch : Nat) (limit : Nat) (s : State) :
    Host.Outcome State Fault Refusal :=
  released s <|
    occur (whenever (s.hears station)
      (frameTaken fun s => takeReadyEvent epoch limit (receivePeer s))) s

end Sys2Proof.Machine
end

