-- ==== Sys2Proof/Machine/Peers.lean ====
section
/-! DEFINITION. Peer aging and claim lifetimes: PEER_SUSPECT, PEER_LOST, CLAIM_LIFETIME_EXPIRY (07, R122,
R123, R132; 06, R103). -/

namespace Sys2Proof.Machine

/-- The age of a peer entry in ms (R122). -/
def State.ageOf (s : State) (e : PeerEntry) : Nat := ageAt s.now (e.lastBeacon.getD s.now)

/-- The sender's period in ms (R122). -/
def PeerEntry.period (e : PeerEntry) : Nat := e.periodCode * 10

/-- Entry `k` is LIVE and its age exceeds 1.5 periods (R122). -/
def State.turnsSuspect (s : State) (k : Nat) : Bool :=
  decide ((s.peer k).status = .live ∧ 3 * (s.peer k).period < 2 * s.ageOf (s.peer k))

/-- An entry goes SUSPECT: a view change (R90, R100, R122). -/
def goSuspect (k : Nat) (s : State) : State :=
  drawViewChange (evalOvercommit (setPeer k { s.peer k with status := .suspect } s))

/-- PEER_SUSPECT (R122). -/
def execPeerSuspect (k : Nat) (s : State) : Host.Outcome State Fault Refusal :=
  released s <|
    occur (whenever (s.turnsSuspect k) (goSuspect k)) s

/-- Entry `k` is SUSPECT and its age exceeds the loss count of periods (R123). -/
def State.turnsLost (s : State) (k : Nat) : Bool :=
  decide ((s.peer k).status = .suspect
    ∧ s.pst.strand.lossCount * (s.peer k).period < s.ageOf (s.peer k))

/-- Is `e` a claim of peer `k`? -/
def claimOf (k : Nat) (e : ClaimEntry) : Bool := !e.isOwn && decide (e.station = k)

/-- SSU at the loss of the holder in view (R103). -/
def loseHolder (k : Nat) (s : State) : State :=
  if s.ssu.holder = some k then setHolder none (capture .holderLost k s) else s

/-- An entry goes LOST: its claims leave, SSU and DBU take the change, and a removed START claim sets
off the re-test, in the order of R123. -/
def goLost (k : Nat) (s : State) : State :=
  let s1 := removeClaims (claimOf k) (setPeer k { s.peer k with status := .lost } s)
  let s2 := drawViewChange (evalOvercommit (loseHolder k s1))
  if s.losesStart (claimOf k) then retestStart s2 else s2

/-- PEER_LOST (R123). -/
def execPeerLost (k : Nat) (s : State) : Host.Outcome State Fault Refusal :=
  released s <|
    occur (whenever (s.turnsLost k) (goLost k)) s

/-- The claim of a station and kind whose lifetime has run out by now (R132). -/
def lapsed (now : Moment) (station : Nat) (kind : ClaimKind) (e : ClaimEntry) : Bool :=
  match e.origin with
  | .peer _ _ lifetime => decide (e.station = station ∧ e.kind = kind) && reached now lifetime
  | .own _ => false

/-- CLAIM_LIFETIME_EXPIRY (R132). -/
def execClaimLifetimeExpiry (station : Nat) (kind : ClaimKind) (s : State) :
    Host.Outcome State Fault Refusal :=
  released s <|
    occur (whenever (s.pvu.claims.any (lapsed s.now station kind))
      (fun s => claimsLeave (lapsed s.now station kind) s)) s

end Sys2Proof.Machine
end

