-- ==== Sys2Proof/Machine/Port.lean ====
section
/-! DEFINITION. The command port: the commands CPN, PST and DBU serve, the frames that are no accepted
command, the two resets and the strap latch (10, R168 to R180; 05, R87). A refused command changes
nothing but the reply buffer (R171). -/

namespace Sys2Proof.Machine

/-! ### Commands that only answer -/

/-- NOP (R172). -/
def execNop (s : State) : Host.Outcome State Fault Refusal :=
  released s <| .next (answer 0x01 .ok [] s)

/-- IDENTIFY (R178). -/
def execIdentify (s : State) : Host.Outcome State Fault Refusal :=
  released s <|
    .next (answer 0x02 .ok s.identityBytes s)

/-- GET_STATUS: the values are taken first, then every event notice leaves the set (R177). -/
def execGetStatus (s : State) : Host.Outcome State Fault Refusal :=
  released s <|
    .next (answer 0x30 .ok s.statusBytes
      { s with cpn := { s.cpn with events := EventNotices.empty } })

/-- GET_PEER (R134). -/
def execGetPeer (k : Byte) (s : State) : Host.Outcome State Fault Refusal :=
  released s <|
    if k.toNat ≤ 7 then .next (answer 0x31 .ok (s.peerBytes k.toNat) s)
    else .next (answer 0x31 .refusedParam [] s)

/-- GET_CLAIMS (R135). -/
def execGetClaims (s : State) : Host.Outcome State Fault Refusal :=
  released s <|
    .next (answer 0x32 .ok s.claimListBytes s)

/-- GET_REPORT (R76). -/
def execGetReport (k : Byte) (s : State) : Host.Outcome State Fault Refusal :=
  released s <|
    match s.cpn.ring[k.toNat]? with
    | some r => .next (answer 0x33 .ok r.bytes s)
    | none => .next (answer 0x33 .refusedParam [] s)

/-- GET_FAULT (R185). -/
def execGetFault (s : State) : Host.Outcome State Fault Refusal :=
  released s <|
    .next (answer 0x34 .ok s.cpn.fault.bytes s)

/-- CLEAR_FAULT (R185). -/
def execClearFault (s : State) : Host.Outcome State Fault Refusal :=
  released s <|
    .next (answer 0x35 .ok [] { s with cpn := { s.cpn with fault := FaultRecord.clear } })

/-! ### Configuration loads -/

/-- A held value judged against a stale time from this moment on (R162). A value that no record has given
has no moment and stays stale: DESIGN CHOICE, entry 41. -/
def Held.rejudged (h : Held) (now : Moment) (staleTime : Nat) : Held :=
  { h with fresh := match h.takenAt with
    | some t => decide (ageAt now t < staleTime)
    | none => false }

/-- Replaces the strand record (R43, R162). -/
def loadStrand (r : StrandRecord) (s : State) : State :=
  { s with
    pst := { s.pst with strand := r }
    spu := { s.spu with
      feedback := s.spu.feedback.rejudged s.now r.staleTime
      level := s.spu.level.rejudged s.now r.staleTime } }

/-- LOAD_STRAND (R43, R175). -/
def execLoadStrand (p : Vector Byte 25) (s : State) : Host.Outcome State Fault Refusal :=
  released s <|
    if s.rsq.state ≠ .unjoined then .next (answer 0x10 .refusedState [] s)
    else
      match readStrand p with
      | some r => .next (answer 0x10 .ok [] (loadStrand r s))
      | none => .next (answer 0x10 .refusedParam [] s)

/-- LOAD_CAUSE (R43, R174). -/
def execLoadCause (p : Vector Byte 13) (s : State) : Host.Outcome State Fault Refusal :=
  released s <|
    if s.rsq.state ≠ .unjoined then .next (answer 0x11 .refusedState [] s)
    else
      match readCauseEntry p with
      | some (c, e) =>
        .next (answer 0x11 .ok []
          { s with pst := { s.pst with causes := s.pst.causes.set c e } })
      | none => .next (answer 0x11 .refusedParam [] s)

/-- LOAD_SLICE (R43, R173). -/
def execLoadSlice (p : Vector Byte 41) (s : State) : Host.Outcome State Fault Refusal :=
  released s <|
    if s.rsq.state ≠ .unjoined then .next (answer 0x12 .refusedState [] s)
    else
      match readSlice p with
      | some (n, slice) =>
        .next (answer 0x12 .ok []
          { s with pst := { s.pst with slices := s.pst.slices.set n slice } })
      | none => .next (answer 0x12 .refusedParam [] s)

/-! ### JOIN -/

/-- The first cause that fails a check, in the order of R176. -/
def firstFailing (passes : Cause → Bool) : Option Cause := allCauses.find? fun c => !passes c

/-- Cross-check 3: the cause's ramp reaches LAST within its points (R48, R176). -/
def Pst.reachesLast (p : Pst) (c : Cause) : Bool := (p.rampEnd c).isSome

/-- Cross-check 4: the target of the first LAST point is at or above the creep threshold (R48, R176). -/
def Pst.endsAboveCreep (p : Pst) (c : Cause) : Bool :=
  match p.rampEnd c with
  | some (_, pt) => decide (p.strand.creepThreshold ≤ pt.target)
  | none => false

/-- Cross-check 5: the margin code is below a freeze code that is not 0 (R176). -/
def Pst.marginBelowFreeze (p : Pst) (c : Cause) : Bool :=
  decide ((p.causes.get c).freezeCode = 0 ∨ (p.causes.get c).marginCode < (p.causes.get c).freezeCode)

/-- The first failing cross-check of JOIN with the cause it names (R176). -/
def State.joinFailure (s : State) : Option (Nat × Option Cause) :=
  if !s.strapsValid then some (1, none)
  else if s.pst.strand.mass < 20 then some (2, none)
  else
    match firstFailing s.pst.reachesLast, firstFailing s.pst.endsAboveCreep,
      firstFailing s.pst.marginBelowFreeze with
    | some c, _, _ => some (3, some c)
    | none, some c, _ => some (4, some c)
    | none, none, some c => some (5, some c)
    | none, none, none => none

/-- The ramp lengths PST computes at JOIN (R47). -/
def Pst.joined (p : Pst) : Pst :=
  { p with rampLength :=
    { dip := p.computeLength .dip, tundish := p.computeLength .tundish,
      breakout := p.computeLength .breakout, hold := p.computeLength .hold } }

/-- The station at JOIN, before the line changes: time since JOIN from 0, PARKED, ramp lengths fixed,
DBU at its JOIN values, the line's timers started, the receiver looking for 10 bit times of quiet before
its first frame (R47, R101, R138, R150, R176). -/
def State.atJoin (s : State) : State :=
  { s with
    joinedAt := some s.now
    rsq := { s.rsq with state := .parked }
    pst := s.pst.joined
    dbu := { s.dbu with
      limit := s.pst.strand.initialLimit, epoch := 0, phase := .ready, learned := false,
      mismatch := false }
    lnc := { s.lnc with
      listenAt := some (later s.now (2 * s.beaconPeriod))
      silenceAt := some (later s.now (3 * s.beaconPeriod))
      quiet := some 0, charLeft := 0, synced := false } }

/-- The effect of an accepted JOIN (R176): then the line is LISTEN with LINE_CHANGED (R154), G becomes
D(F) of a fresh F (R78), and the overcommit condition is evaluated (R101). -/
def joinLine (s : State) : State :=
  evalOvercommit (trackFeedback (changeLine .listen s.atJoin))

/-- JOIN (R176). -/
def execJoin (s : State) : Host.Outcome State Fault Refusal :=
  released s <|
    if s.rsq.state ≠ .unjoined then .next (answer 0x13 .refusedState [] s)
    else
      match s.joinFailure with
      | some (check, c) => .next (answer 0x13 .refusedParam [byte check, causeCode c] s)
      | none => occur (fun s => answer 0x13 .ok [] (joinLine s)) s

/-! ### Tundish commands -/

/-- TUNDISH_BEGIN (R87, R172). -/
def execTundishBegin (s : State) : Host.Outcome State Fault Refusal :=
  released s <|
    if s.lnc.line = .active then
      .next (answer 0x28 .ok [] (queueFrame (.eventBegin ((s.dbu.epoch + 1) % 256)) s))
    else .next (answer 0x28 .refusedState [] s)

/-- TUNDISH_READY (R87, R172). -/
def execTundishReady (limit : BitVec 16) (s : State) : Host.Outcome State Fault Refusal :=
  released s <|
    if s.lnc.line = .active ∧ s.dbu.phase = .opened then
      .next (answer 0x29 .ok []
        (queueFrame (.eventReady s.dbu.epoch limit.toNat) s))
    else .next (answer 0x29 .refusedState [] s)

/-! ### Frames that are no accepted command -/

/-- COMMAND_RECORD_REJECTED (R170): the reply carries the first byte received as its code. -/
def execCommandRecordRejected (bytes : List Byte) (s : State) : Host.Outcome State Fault Refusal :=
  released s <|
    match bytes, recordFailure bytes with
    | code :: _, some status => .next (answer code status [] s)
    | _, _ => .next s

/-- EMPTY_FRAME (R169): no complete byte was received, and the reply buffer stands. -/
def execEmptyFrame (s : State) : Host.Outcome State Fault Refusal :=
  released s <| .next s

/-! ### Resets and straps -/

/-- RESET: every block returns to its reset values, the filtered inputs take the pin levels of this
moment (R156), the strap latch and its sampling are kept, and the reply buffer holds the RESET reply
(R180). The waiting commands are the senders' and wait on (entry 24); the SPI pins are the host's and
stay (entry 22). -/
def execSoftReset (raw : InputLevels) (s : State) : Host.Outcome State Fault Refusal :=
  released s <|
    let r := State.afterPinReset raw
    .next { r with
      cpn := { r.cpn with
        spi := s.cpn.spi
        reply := { status := .reset, code := 0x3F, data := [] }
        straps := s.cpn.straps
        strapDone := s.cpn.strapDone
        strapSampler := s.cpn.strapSampler }
      pending := s.pending }

/-- The levels of the input pins as last sampled. -/
def State.rawLevels (s : State) : InputLevels :=
  { supplyOk := s.spu.inputs.supplyOk.raw, drvReady := s.spu.inputs.drvReady.raw,
    brkIn := s.spu.inputs.brkIn.raw, dummyIn := s.spu.inputs.dummyIn.raw }

/-- The SPI side at a reset release: a frame under way is ignored (R168). -/
def Spi.atRelease (p : Spi) : Spi := { Spi.idle with csLow := p.csLow, ignoring := p.csLow }

/-- RST_N falls: every block is held at its reset values, and what the port had under way is lost (R156,
R168, R179). The pins keep their levels, and the commands that wait are the senders' (entries 24, 37). -/
def rstFall (s : State) : State :=
  { State.afterPinReset s.rawLevels with
    rstLow := true
    cpn := { Cpn.reset with
      spi := { Spi.idle with csLow := s.cpn.spi.csLow }
      strapSampler := StrapSampler.reset s.cpn.strapSampler.pins }
    pending := s.pending }

/-- RST_N rises: SPU takes its values from the pins, found at `raw`, and the port waits for the next fall
of CS_N (R156, R168, R179). -/
def rstRise (raw : InputLevels) (s : State) : State :=
  { s with rstLow := false, spu := Spu.reset raw, cpn := { s.cpn with spi := s.cpn.spi.atRelease } }

/-- PIN_RESET: RST_N has been held low and is released (R179). -/
def execPinReset (raw : InputLevels) (s : State) : Host.Outcome State Fault Refusal :=
  .next (rstRise raw (rstFall s))

/-- The levels of the strap pins change (R178). -/
def strapsShow (pins : StrapPins) (s : State) : State :=
  { s with cpn := { s.cpn with strapSampler := { s.cpn.strapSampler with pins := pins } } }

/-- A 1 ms strap sample finds `pins`: where it agrees in every pin with the sample before it the straps
are latched and STRAP_DONE is set; the next sample is compared with this one (R178). -/
def sampleStraps (pins : StrapPins) (s : State) : State :=
  let sampler : StrapSampler := { pins := pins, last := some pins, taken := true }
  if s.cpn.strapSampler.last = some pins then
    { s with cpn := { s.cpn with straps := pins, strapDone := true, strapSampler := sampler } }
  else { s with cpn := { s.cpn with strapSampler := sampler } }

/-- STRAP_LATCHED: the strap sample of a ms, which latches the straps where it agrees with the one before
it; once they are latched nothing is sampled (R178; entry 18). -/
def execStrapLatched (pins : StrapPins) (s : State) : Host.Outcome State Fault Refusal :=
  released s <|
    .next (whenever (!s.cpn.strapDone) (sampleStraps pins) s)

end Sys2Proof.Machine
end

