-- ==== Sys2Proof/Machine/Ramp.lean ====
section
/-! DEFINITION. The ramp tick and the timers of a restart: RAMP_TICK with its two named cases,
FREEZE_EXPIRY, MARGIN_TIMER_EXPIRY, HANDBACK_TIMER_EXPIRY (01, R19 to R22; 02, R33 to R37; 03, R52 to
R63). -/

namespace Sys2Proof.Machine

/-- RAMP_TICK (R52). -/
def execRampTick (s : State) : Host.Outcome State Fault Refusal :=
  released s <|
    occur (whenever s.tickDue takeTick) s

/-- A tick at target in RAMPING is due (R57). -/
def State.atTargetTick (s : State) : Bool :=
  s.tickDue && decide (s.rsq.state = .ramping ∧ s.rsq.speed = s.target)

/-- DWELL_END: the ramp tick in which the dwell remaining counts down to 0 (R57; entry 8). -/
def execDwellEnd (s : State) : Host.Outcome State Fault Refusal :=
  released s <|
    occur (whenever (s.atTargetTick && decide (s.rsq.dwell = 1)) takeTick) s

/-- The tick now due waits on the level gate and is the first to exceed the timeout (R59). -/
def State.holdTimeoutTick (s : State) : Bool :=
  s.atTargetTick && decide (s.rsq.dwell ≤ 1) && s.currentPoint.levelGate
    && !s.levelInBand (s.entryOf s.rsq.currentCause)
    && s.holdTimeoutCrossed s.rsq.levelHoldTime (s.rsq.levelHoldTime + Config.rampTick)

/-- LEVEL_HOLD_TIMEOUT: the ramp tick at which the level-hold time first exceeds its timeout (R59;
entry 8). -/
def execLevelHoldTimeout (s : State) : Host.Outcome State Fault Refusal :=
  released s <|
    occur (whenever s.holdTimeoutTick takeTick) s

/-- The freeze timer has run out (R33). -/
def State.freezeExpired (s : State) : Bool := expired s.now s.deadlineInForce

/-- Expiry of the freeze: FREEZE_EXPIRED with the deadline's cause, then ABANDONED (R19, R33). -/
def expireFreeze (s : State) : State :=
  enterAbandoned
    (capture .freezeExpired (causeCode (s.deadlineInForce.bind s.deadlineCause)).toNat s)

/-- FREEZE_EXPIRY (R33). -/
def execFreezeExpiry (s : State) : Host.Outcome State Fault Refusal :=
  released s <|
    occur (whenever s.freezeExpired expireFreeze) s

/-- The margin timer has run out: the state calls for urgency 3 and it is not 3 yet (R37; entry 21). -/
def State.marginReached (s : State) : Bool := decide (s.computeUrgency = 3 ∧ s.rsq.urgency ≠ 3)

/-- MARGIN_TIMER_EXPIRY: the urgency rises to 3, and SSU makes its test without the line (R37, R117). -/
def execMarginTimerExpiry (s : State) : Host.Outcome State Fault Refusal :=
  released s <|
    occur (whenever s.marginReached (fun s => selfTakeTest (refreshUrgency s))) s

/-- HANDBACK_TIMER_EXPIRY (R21). -/
def execHandbackTimerExpiry (s : State) : Host.Outcome State Fault Refusal :=
  released s <|
    occur (whenever (decide (s.rsq.state = .handback) && expired s.now s.rsq.handbackAt)
      (fun s => capture .handbackOverdue (causeCode s.rsq.currentCause).toNat
        { s with rsq := { s.rsq with handbackAt := none } })) s

end Sys2Proof.Machine
end

