-- ==== Sys2Proof/Machine/Strand.lean ====
section
/-! DEFINITION. The strand port: input filters and their edges, sample records, staleness, reference
records (09, R157 to R165). -/

namespace Sys2Proof.Machine

/-! ### Discrete inputs -/

/-- A 1 ms sample at a filter of time `n` finds the level `raw`: the filtered value, the stability count
and, in the third case, an edge (R157). -/
def FilterState.sample (f : FilterState) (n : Nat) (raw : Bool) : FilterState :=
  if raw = f.filtered then { f with raw := raw, count := 0 }
  else if f.count < n then { f with raw := raw, count := f.count + 1 }
  else { raw := raw, filtered := raw, count := 0 }

/-- A rise of filtered DRV_READY: RSQ tests for the drive running, SSU ends a tenure with a CLEAR
pending (R15, R116, R158). -/
def drvReadyRise (s : State) : State :=
  let s1 := driveTest s
  if s1.ssu.tenure && s1.ssu.clearPending then endTenure .cleared s1 else s1

/-- What an edge of a filtered value brings; `rises` tells its direction (R158). -/
def giveEdge (i : Input) (rises : Bool) (s : State) : State :=
  match i with
  | .supplyOk => if rises then evalPreconditions s else stopEvent .dip none s
  | .drvReady =>
    if rises then drvReadyRise s
    else if s.rsq.runReq && s.filtered .supplyOk then stopEvent .dip none s
    else s
  | .brkIn => if rises then stopEvent .breakout none s else s
  | .dummyIn => evalPreconditions s

/-- Input `i` after a sample that finds `raw` (R157). -/
def State.sampledFilter (s : State) (i : Input) (raw : Bool) : FilterState :=
  (inputGet s.spu.inputs i).sample (inputGet s.pst.strand.filterTimes i) raw

/-- One sample of input `i`: where the filtered value changes, the edge is given at this moment and is an
occurrence of its own (R157, R158, R159). -/
def sampleInput (i : Input) (raw : Bool) (s : State) : State :=
  let f := s.sampledFilter i raw
  let s1 := { s with spu := { s.spu with inputs := inputSet s.spu.inputs i f } }
  if f.filtered = s.filtered i then s1 else stampFault s (giveEdge i raw s1)

/-- INPUT_FILTER_SAMPLE: the 1 ms sample of all four inputs (R157). R159 lets the blocks take edges of one
sample in either order; they are given in the order below (DESIGN CHOICE, entry 9). -/
def execInputFilterSample (raw : InputLevels) (s : State) : Host.Outcome State Fault Refusal :=
  released s <|
    .next (sampleInput .dummyIn raw.dummyIn (sampleInput .brkIn raw.brkIn
      (sampleInput .drvReady raw.drvReady (sampleInput .supplyOk raw.supplyOk
        { s with spu := { s.spu with sampled := true } }))))

/-- The sample that finds `raw` at input `i` accepts a change (R157). -/
def State.edgeReady (s : State) (i : Input) (raw : Bool) : Bool :=
  decide ((s.sampledFilter i raw).filtered ≠ s.filtered i)

/-- INPUT_EDGE_ACCEPTED: the accepting sample of one input (R157, R158; entry 9). -/
def execInputEdgeAccepted (edge : InputSample) (s : State) : Host.Outcome State Fault Refusal :=
  released s <|
    .next (whenever (s.edgeReady edge.input edge.raw) (sampleInput edge.input edge.raw) s)

/-! ### Samples -/

/-- The held values after a valid record (R161). -/
def Spu.hold (p : Spu) (now : Moment) (f level : Nat) : Spu :=
  { p with
    feedback := { value := min f Config.maxSpeed, takenAt := some now, fresh := true }
    level := { value := min level Config.gaugeFault, takenAt := some now, fresh := true }
    staleMark := false }

/-- SSU's creep test on a fresh F: a held tenure ends with reason CREEP (R114). -/
def tenureCreepTest (s : State) : State :=
  if s.ssu.tenure && s.creep then endTenure .creep s else s

/-- SPU gives a fresh F to its users (R161). -/
def giveFeedback (s : State) : State :=
  match s.rsq.state with
  | .parked | .watch => tenureCreepTest (trackFeedback s)
  | .unjoined | .stopped | .queued | .ramping | .handback | .abandoned =>
    tenureCreepTest (creepTest s)

/-- A record of `n` bytes that ends now began before the receiver had found its 10 bit times of idle since
a reset: it is lost (R156; entry 43). -/
def State.recordLost (s : State) (n : Nat) : Bool :=
  match s.spu.search with
  | some q => !recordSearched n q
  | none => false

/-- A record ends on SRX, with the 10 bit times of idle that a receiver after a reset looks for: a
record it had not found the start of is lost (R156), a bad one is discarded (R160), a valid one held and
given (R161). -/
def recordEnd (bytes : List Byte) (framingFault : Bool) (s : State) : State :=
  let s1 := { s with spu := { s.spu with search := none } }
  if s.recordLost bytes.length then s1
  else
    match readSample bytes framingFault with
    | some (f, level) => giveFeedback { s1 with spu := s1.spu.hold s.now f level }
    | none => s1

/-- SAMPLE_RECORD (R156, R160, R161). -/
def execSampleRecord (bytes : List Byte) (framingFault : Bool) (s : State) :
    Host.Outcome State Fault Refusal :=
  released s <|
    occur (whenever (!bytes.isEmpty) (recordEnd bytes framingFault)) s

/-- A held value has reached the stale time (R162). -/
def State.reachesStale (s : State) (h : Held) : Bool := h.fresh && !s.isFresh h

/-- Both held values go stale; with AUTH asserted and the mark clear FIELD_STALE is captured (R162,
R163). -/
def goStale (s : State) : State :=
  let s1 := { s with spu := { s.spu with
    feedback := { s.spu.feedback with fresh := false }
    level := { s.spu.level with fresh := false } } }
  if s.auth && !s.spu.staleMark then
    capture .fieldStale s.spu.feedback.value { s1 with spu := { s1.spu with staleMark := true } }
  else s1

/-- SAMPLES_GO_STALE (R162, R163). -/
def execSamplesGoStale (s : State) : Host.Outcome State Fault Refusal :=
  released s <|
    occur (whenever (s.reachesStale s.spu.feedback || s.reachesStale s.spu.level) goStale) s

/-! ### Reference records -/

/-- The reference record composed now (R164). -/
def State.referenceRecord (s : State) : ReferenceRecord :=
  { sequence := s.spu.refSequence, speed := if s.auth then s.rsq.speed else 0, auth := s.auth,
    runReq := s.rsq.runReq, flowClose := s.flowClose, startedAt := s.now, startedMicros := s.micros }

/-- REFERENCE_RECORD_START: the link is idle and a record waits (R164, R165). -/
def execReferenceRecordStart (s : State) : Host.Outcome State Fault Refusal :=
  released s <|
    .next (whenever (s.spu.refWaiting && s.spu.refTx.isNone)
      (fun s => { s with spu := { s.spu with
        refTx := some s.referenceRecord, refWaiting := false } }) s)

/-- REFERENCE_RECORD_END: the sequence number advances (R164). The row ends the record in transmission at
whichever of its bits it is delivered; `recordEnds` tells when it is due on an empty queue (R165): DESIGN
CHOICE, entry 33. -/
def execReferenceRecordEnd (s : State) : Host.Outcome State Fault Refusal :=
  released s <|
    .next (whenever s.spu.refTx.isSome
      (fun s => { s with spu := { s.spu with
        refTx := none, refSequence := (s.spu.refSequence + 1) % 256 } }) s)

end Sys2Proof.Machine
end

