-- ==== Sys2Proof/Machine/Clock.lean ====
section
/-! DEFINITION. What the station does of itself when no command waits: the first of its own events that
is due, and the passing of one bit time when none is (entries 1 and 3). -/

namespace Sys2Proof.Machine

/-- One bit of the frame in the transmitter has been sent (R137). -/
def Transmission.bitSent (t : Transmission) : Transmission :=
  if t.sending then { t with sent := t.sent + 1 } else t

/-- One bit time of the line: the transmitter sends its bit, and LRX reads it, or the recessive level
where the station does not send (R137, R140; entry 10). -/
def lineBit (s : State) : Lnc :=
  { s.lnc.readBit s.ltx with tx := s.lnc.tx.map Transmission.bitSent }

/-- The timebase advances by 1 ms (R30), and with it RSQ's 100 ms phase (R52); the ramp tick, the input
sample and the strap sample of the new ms have not been taken (entries 5, 9 and 18). -/
def nextMs (s : State) : State :=
  { s with
    now := later s.now 1
    micros := 0
    rsq := { s.rsq with tickPhase := (s.rsq.tickPhase + 1) % Config.rampTick, tickTaken := false }
    spu := { s.spu with sampled := false }
    cpn := { s.cpn with strapSampler := { s.cpn.strapSampler with taken := false } } }

/-- `micros` µs of idle pass on SRX. The search of the sample receiver ends once every sample record that
was under way at the reset must have ended and been lost (R156, R160; entry 43). -/
def Spu.srxIdle (micros : Nat) (p : Spu) : Spu :=
  { p with search := p.search.bind fun q =>
      if recordSearched Config.sampleLength (q + micros) then none else some (q + micros) }

/-- One bit time of the line passes, and with the last of a ms the timebase advances (entry 1). With RST_N
low the timebase stands (R30; entry 37). -/
def advance (s : State) : State :=
  if s.rstLow then s
  else
    let s1 := { s with
      lnc := lineBit s, spu := s.spu.srxIdle s.bitTime, micros := s.micros + s.bitTime }
    if 1000 ≤ s1.micros then nextMs s1 else s1

/-- The station numbers. -/
def stations : List Nat := [0, 1, 2, 3, 4, 5, 6, 7]

/-- An own frame has ended: all its bits are sent and 10 recessive bit times have followed (R138). -/
def State.frameEnds (s : State) : Bool :=
  match s.lnc.tx, s.lnc.quiet with
  | some t, some q => !t.sending && decide (10 ≤ q)
  | _, _ => false

/-- The whole bit times of the strand link, 230.4 kbit/s, since a reference record began (R160). -/
def State.recordBits (s : State) (r : ReferenceRecord) : Nat :=
  (ageAt s.now r.startedAt * 1000 + s.micros - r.startedMicros) * 2304 / 10000

/-- The level on STX: the bit of the record in transmission, idle otherwise (R160, R164). -/
def State.stx (s : State) : Bool :=
  match s.spu.refTx with
  | some r => (frameBits r.bytes).getD (s.recordBits r) true
  | none => true

/-- A reference record and the 10 bit times of idle that close it have ended (R164, R165). -/
def State.recordEnds (s : State) : Bool :=
  match s.spu.refTx with
  | some r => decide ((frameBits r.bytes).length + 10 ≤ s.recordBits r)
  | none => false

/-- The claims in the list whose lifetime has run out, as expiry events (R132). -/
def State.lapses (s : State) : List (Bool × Instr) :=
  s.pvu.claims.map fun e => (lapsed s.now e.station e.kind e, .claimLifetimeExpiry e.station e.kind)

/-- The station's own events, each with its condition, in the order in which events that fall together
are taken when nobody orders them (DESIGN CHOICE, entry 3). -/
def State.ownEvents (s : State) : List (Bool × Instr) :=
  [(!s.spu.sampled, .inputFilterSample s.rawLevels),
    (!s.cpn.strapDone && !s.cpn.strapSampler.taken, .strapLatched s.cpn.strapSampler.pins),
    (s.freezeExpired, .freezeExpiry),
    (s.tickDue, .rampTick),
    (s.marginReached, .marginTimerExpiry),
    (decide (s.rsq.state = .handback) && expired s.now s.rsq.handbackAt, .handbackTimerExpiry),
    (decide (s.dbu.claim = .contending) && expired s.now s.dbu.settleAt, .drawSettle),
    (decide (s.ssu.claim = .contending) && expired s.now s.ssu.settleAt, .startSettleExpiry),
    (s.ssu.tenure && expired s.now s.ssu.tenureAt, .tenureTimerExpiry),
    (s.reachesStale s.spu.feedback || s.reachesStale s.spu.level, .samplesGoStale),
    (decide (s.lnc.line = .listen) && expired s.now s.lnc.listenAt, .listenTimerExpiry),
    (decide (s.lnc.line = .active) && expired s.now s.lnc.silenceAt, .silenceTimerExpiry),
    (s.lnc.line.allowsBeacon && expired s.now s.lnc.beaconAt, .beaconTimerExpiry)]
  ++ (stations.map fun k => (s.turnsSuspect k, Instr.peerSuspect k))
  ++ (stations.map fun k => (s.turnsLost k, Instr.peerLost k))
  ++ s.lapses
  ++ [(s.frameEnds, .ownFrameEnd),
    (s.recordEnds, .referenceRecordEnd),
    (s.spu.refWaiting && s.spu.refTx.isNone, .referenceRecordStart),
    (s.startable.isSome, .transmissionStart [])]

/-- The first own event that is due. -/
def State.firstDue (s : State) : Option Instr := (s.ownEvents.find? (·.1)).map (·.2)

end Sys2Proof.Machine
end

