-- ==== Sys2Proof/Machine/Sequencer.lean ====
section
/-! DEFINITION. The host commands to the sequencer: CAST, PARK, STOP, RELEASE, TAKE (01, R26 to R28). -/

namespace Sys2Proof.Machine

/-- A change between PARKED and WATCH: RSQ asks for a beacon, and AUTH is off in both (R25, R26). -/
def moveIdle (target : SeqState) (s : State) : State :=
  refreshUrgency (requestBeacon { s with rsq := { s.rsq with state := target } })

/-- CAST (R26). -/
def execCast (s : State) : Host.Outcome State Fault Refusal :=
  released s <|
    if s.rsq.state = .parked then .next (answer 0x20 .ok [] (moveIdle .watch s))
    else .next (answer 0x20 .refusedState [] s)

/-- PARK (R26). -/
def execPark (s : State) : Host.Outcome State Fault Refusal :=
  released s <|
    match s.rsq.state with
    | .watch => .next (answer 0x21 .ok [] (moveIdle .parked s))
    | .stopped =>
      occur (fun s => answer 0x21 .ok [] (giveUpAuthority .parked (clearStack .parked s))) s
    | .abandoned => occur (fun s => answer 0x21 .ok [] (giveUpAuthority .parked s)) s
    | .unjoined | .parked | .queued | .ramping | .handback =>
      .next (answer 0x21 .refusedState [] s)

/-- The states in which a host STOP is accepted (R27). -/
def stoppable : SeqState → Bool
  | .watch | .stopped | .queued | .ramping | .handback => true
  | .unjoined | .parked | .abandoned => false

/-- The cause a STOP names (R27, R187). -/
def stopCause (code : Byte) : Option Cause :=
  if code = 0x03 then some .breakout else if code = 0x04 then some .hold else none

/-- STOP (R27): the state is tested before the parameter (R172). -/
def execStop (code : Byte) (s : State) : Host.Outcome State Fault Refusal :=
  released s <|
    if stoppable s.rsq.state then
      match stopCause code with
      | some c => occur (fun s => answer 0x22 .ok [] (stopEvent c none s)) s
      | none => .next (answer 0x22 .refusedParam [] s)
    else .next (answer 0x22 .refusedState [] s)

/-- RELEASE is accepted: STOPPED or QUEUED with a HOLD or BREAKOUT record pending (R27). -/
def State.releasable (s : State) : Bool :=
  decide (s.rsq.state = .stopped ∨ s.rsq.state = .queued)
    && (s.rsq.pendingSet.hold.isSome || s.rsq.pendingSet.breakout.isSome)

/-- A pending record with its release latch set. -/
def PendingRecord.latched (r : PendingRecord) : PendingRecord := { r with latch := some true }

/-- The pending set with the latch of each HOLD and BREAKOUT record set (R27). -/
def latchAll (p : PendingSet) : PendingSet :=
  { p with breakout := p.breakout.map PendingRecord.latched, hold := p.hold.map PendingRecord.latched }

/-- RELEASE (R27). -/
def execRelease (s : State) : Host.Outcome State Fault Refusal :=
  released s <|
    if s.releasable then
      occur (fun s => answer 0x23 .ok []
        (evalPreconditions { s with rsq := { s.rsq with pendingSet := latchAll s.rsq.pendingSet } })) s
    else .next (answer 0x23 .refusedState [] s)

/-- TAKE (R28). -/
def execTake (s : State) : Host.Outcome State Fault Refusal :=
  released s <|
    match s.rsq.state with
    | .stopped | .queued | .ramping =>
      occur (fun s => answer 0x24 .ok [] (giveUpAuthority .watch (clearStack .taken s))) s
    | .handback => occur (fun s => answer 0x24 .ok [] (giveUpAuthority .watch s)) s
    | .abandoned => occur (fun s => answer 0x24 .ok [] (giveUpAuthority .parked s)) s
    | .unjoined | .parked | .watch => .next (answer 0x24 .refusedState [] s)

end Sys2Proof.Machine
end

