-- ==== Sys2Proof/Machine/Dispatch.lean ====
section
/-! DEFINITION. The effect of a command or event on everything but the queue: one arm for each row of
spec/opcode_table.json. -/

namespace Sys2Proof.Machine

def exec (i : Instr) (s : State) : Host.Outcome State Fault Refusal :=
  match i with
  | .nop => Sys2Proof.Machine.execNop s
  | .identify => Sys2Proof.Machine.execIdentify s
  | .loadStrand params => Sys2Proof.Machine.execLoadStrand params s
  | .loadCause params => Sys2Proof.Machine.execLoadCause params s
  | .loadSlice params => Sys2Proof.Machine.execLoadSlice params s
  | .join => Sys2Proof.Machine.execJoin s
  | .cast => Sys2Proof.Machine.execCast s
  | .park => Sys2Proof.Machine.execPark s
  | .stop code => Sys2Proof.Machine.execStop code s
  | .release => Sys2Proof.Machine.execRelease s
  | .take => Sys2Proof.Machine.execTake s
  | .tundishBegin => Sys2Proof.Machine.execTundishBegin s
  | .tundishReady limit => Sys2Proof.Machine.execTundishReady limit s
  | .getStatus => Sys2Proof.Machine.execGetStatus s
  | .getPeer k => Sys2Proof.Machine.execGetPeer k s
  | .getClaims => Sys2Proof.Machine.execGetClaims s
  | .getReport k => Sys2Proof.Machine.execGetReport k s
  | .getFault => Sys2Proof.Machine.execGetFault s
  | .clearFault => Sys2Proof.Machine.execClearFault s
  | .softReset raw => Sys2Proof.Machine.execSoftReset raw s
  | .commandRecordRejected bytes => Sys2Proof.Machine.execCommandRecordRejected bytes s
  | .emptyFrame => Sys2Proof.Machine.execEmptyFrame s
  | .pinReset raw => Sys2Proof.Machine.execPinReset raw s
  | .strapLatched pins => Sys2Proof.Machine.execStrapLatched pins s
  | .inputEdgeAccepted edge => Sys2Proof.Machine.execInputEdgeAccepted edge s
  | .sampleRecord bytes framingFault => Sys2Proof.Machine.execSampleRecord bytes framingFault s
  | .samplesGoStale => Sys2Proof.Machine.execSamplesGoStale s
  | .referenceRecordStart => Sys2Proof.Machine.execReferenceRecordStart s
  | .referenceRecordEnd => Sys2Proof.Machine.execReferenceRecordEnd s
  | .rampTick => Sys2Proof.Machine.execRampTick s
  | .dwellEnd => Sys2Proof.Machine.execDwellEnd s
  | .levelHoldTimeout => Sys2Proof.Machine.execLevelHoldTimeout s
  | .freezeExpiry => Sys2Proof.Machine.execFreezeExpiry s
  | .marginTimerExpiry => Sys2Proof.Machine.execMarginTimerExpiry s
  | .handbackTimerExpiry => Sys2Proof.Machine.execHandbackTimerExpiry s
  | .drawSettle => Sys2Proof.Machine.execDrawSettle s
  | .startSettleExpiry => Sys2Proof.Machine.execStartSettleExpiry s
  | .tenureTimerExpiry => Sys2Proof.Machine.execTenureTimerExpiry s
  | .beaconTimerExpiry => Sys2Proof.Machine.execBeaconTimerExpiry s
  | .listenTimerExpiry => Sys2Proof.Machine.execListenTimerExpiry s
  | .silenceTimerExpiry => Sys2Proof.Machine.execSilenceTimerExpiry s
  | .transmissionStart levels => Sys2Proof.Machine.execTransmissionStart levels s
  | .transmissionAbort => Sys2Proof.Machine.execTransmissionAbort s
  | .ownFrameEnd => Sys2Proof.Machine.execOwnFrameEnd s
  | .beaconReceived station fields => Sys2Proof.Machine.execBeaconReceived station fields s
  | .claimReceived station fields => Sys2Proof.Machine.execClaimReceived station fields s
  | .withdrawReceived station kind number => Sys2Proof.Machine.execWithdrawReceived station kind number s
  | .releaseReceived station reason => Sys2Proof.Machine.execReleaseReceived station reason s
  | .clearReceived station target => Sys2Proof.Machine.execClearReceived station target s
  | .eventBeginReceived station epoch => Sys2Proof.Machine.execEventBeginReceived station epoch s
  | .eventReadyReceived station epoch limit => Sys2Proof.Machine.execEventReadyReceived station epoch limit s
  | .badFrameReceived bytes framingFault => Sys2Proof.Machine.execBadFrameReceived bytes framingFault s
  | .duplicateStation kind => Sys2Proof.Machine.execDuplicateStation kind s
  | .peerSuspect k => Sys2Proof.Machine.execPeerSuspect k s
  | .peerLost k => Sys2Proof.Machine.execPeerLost k s
  | .claimLifetimeExpiry station kind => Sys2Proof.Machine.execClaimLifetimeExpiry station kind s
  | .inputFilterSample raw => Sys2Proof.Machine.execInputFilterSample raw s

end Sys2Proof.Machine
end

