-- ==== Sys2Proof/Machine/Spi.lean ====
section
/-! DEFINITION. The SPI side of the command port (R168): what the host's pins CS_N, SCLK and SDI do to it,
and what SDO shows. A frame that ends is a row of the opcode table, placed last in the queue; no row stands
for a single pin event, so these are operations of the host beside `step` (entry 22). -/

namespace Sys2Proof.Machine

/-- CS_N falls: a frame begins (R168). -/
def csFall (s : State) : State :=
  if s.cpn.spi.csLow then s else { s with cpn := { s.cpn with spi := { Spi.idle with csLow := true } } }

/-- SCLK rises: SDI is sampled in a frame that is not ignored; with RST_N low SCLK and SDI are ignored
(R168). -/
def sclkRise (sdi : Bool) (s : State) : State :=
  if s.cpn.spi.csLow && !s.cpn.spi.ignoring && !s.rstLow then
    { s with cpn := { s.cpn with spi := { s.cpn.spi with bits := s.cpn.spi.bits ++ [sdi] } } }
  else s

/-- SCLK falls: SDO goes on to its next bit (R168). -/
def sclkFall (s : State) : State :=
  if s.cpn.spi.csLow && !s.rstLow then
    { s with cpn := { s.cpn with spi := { s.cpn.spi with shifted := s.cpn.spi.shifted + 1 } } }
  else s

/-- The level on SDO; `none` is high impedance, with CS_N high and with RST_N low (R168). In a frame the
reply buffer is shifted out, most significant bit first, and then 00h; the level in an ignored frame is
a free value (entry 40). -/
def State.sdo (s : State) : Option Bool :=
  if s.cpn.spi.csLow && !s.rstLow then
    if s.cpn.spi.ignoring then some (Config.ignoredSdo s.cpn.spi.shifted)
    else some ((s.cpn.reply.bytes.flatMap spiBits).getD s.cpn.spi.shifted false)
  else none

/-- The complete bytes received in the latest frame; their number is the port's byte count (R168). -/
def State.received (s : State) : List Byte := completeBytes s.cpn.spi.bits

/-- CS_N rises: the frame ends and its row waits behind those already waiting; an ignored frame is none,
and so is one with RST_N low (R168, R169). `raw` is what the input pins show. -/
def csRise (raw : InputLevels) (s : State) : State :=
  let s1 := { s with cpn := { s.cpn with spi := { s.cpn.spi with csLow := false, ignoring := false } } }
  if s.cpn.spi.csLow && !s.cpn.spi.ignoring && !s.rstLow then
    { s1 with pending := s.pending ++ [commandOfFrame raw s.received] }
  else s1

/-- The host clocks bits into the port: for each, SCLK rises and falls (R168). -/
def clockIn (bits : List Bool) (s : State) : State :=
  bits.foldl (fun s bit => sclkFall (sclkRise bit s)) s

end Sys2Proof.Machine
end

