-- ==== Sys2Proof/Safety.lean ====
section
/-! DEFINITION. What a sound state of the station is: the laws the data book states of every moment, each
a decidable proposition, and their conjunction. -/

namespace Sys2Proof.Machine

/-- R51: with AUTH asserted S × M ≤ G × 1000; with AUTH deasserted S is 0; S lies within 0–8000. -/
abbrev SpeedLaw (s : State) : Prop :=
  (s.auth = true → s.rsq.speed * s.pst.strand.mass ≤ s.dbu.granted * 1000)
    ∧ (s.auth = false → s.rsq.speed = 0) ∧ s.rsq.speed ≤ Config.maxSpeed

/-- R45: the hold speed of every cause entry lies within 0–8000. -/
abbrev HoldSpeedsBounded (s : State) : Prop :=
  ∀ c ∈ allCauses, (s.pst.causes.get c).holdSpeed ≤ Config.maxSpeed

/-- R127: never two entries with the same station and kind, and every station is 0–7. -/
abbrev ClaimsDistinct (s : State) : Prop :=
  s.pvu.claims.Pairwise (fun a b => a.station ≠ b.station ∨ a.kind ≠ b.kind)
    ∧ ∀ e ∈ s.pvu.claims, e.station < 8

/-- R142: the transmit queue never holds two frames of the same slot. -/
abbrev SlotsDistinct (s : State) : Prop := s.lnc.queue.Pairwise fun f g => f.slot ≠ g.slot

/-- The states in which the context stack may hold records (R67). -/
def mayStack : SeqState → Bool
  | .stopped | .queued | .ramping => true
  | .unjoined | .parked | .watch | .handback | .abandoned => false

/-- The states in which causes are pending (R10). -/
def mayPend : SeqState → Bool
  | .stopped | .queued => true
  | .unjoined | .parked | .watch | .ramping | .handback | .abandoned => false

/-- R67: at most three contexts, and none outside STOPPED, QUEUED and RAMPING. -/
abbrev StackBounded (s : State) : Prop :=
  s.rsq.stack.length ≤ Config.stackDepth ∧ (mayStack s.rsq.state = false → s.rsq.stack = [])

/-- R10: records are pending exactly in STOPPED and QUEUED. -/
abbrev PendingPlaced (s : State) : Prop :=
  (mayPend s.rsq.state = true ↔ s.rsq.pendingSet ≠ PendingSet.empty)

/-- R150: the line is OFF exactly while the sequencer is UNJOINED. -/
abbrev LineJoined (s : State) : Prop := s.rsq.state = .unjoined ↔ s.lnc.line = .off

/-- R142: in OFF, LISTEN and BARRED nothing is queued and nothing is sent. -/
abbrev LineSilent (s : State) : Prop :=
  s.lnc.line.allowsBeacon = false →
    s.lnc.queue = [] ∧ s.lnc.beacon = .empty ∧ s.lnc.tx = none

/-- R98: no own claim of either kind is outstanding while the line is anything other than ACTIVE. -/
abbrev ClaimsOnActive (s : State) : Prop :=
  s.lnc.line ≠ .active → s.dbu.claim.outstanding = false ∧ s.ssu.claim = .none

/-- R105, R106, R114: a start request stands only in QUEUED, and not once the drive runs; an own START
claim stands only with a request and no tenure; a tenure runs only in QUEUED and RAMPING, with RUN_REQ
set. -/
abbrev SlotPlaced (s : State) : Prop :=
  (s.ssu.request = true → s.rsq.state = .queued ∧ s.driveRunning = false)
    ∧ (s.ssu.claim ≠ .none → s.ssu.request = true ∧ s.ssu.tenure = false)
    ∧ (s.ssu.tenure = true →
        (s.rsq.state = .queued ∨ s.rsq.state = .ramping) ∧ s.rsq.runReq = true)

/-- R14, R17: in QUEUED every precondition is met. R9: RUN_REQ is set in RAMPING and HANDBACK. R6, R7,
R23: while causes are pending, a DIP record stands with RUN_REQ clear, with a tenure and with a request.
R113: a tenure in RAMPING finds DRV_READY and SUPPLY_OK asserted. -/
abbrev DrivePlaced (s : State) : Prop :=
  (s.rsq.state = .queued → s.allMet = true)
    ∧ (s.rsq.state = .ramping ∨ s.rsq.state = .handback → s.rsq.runReq = true)
    ∧ (mayPend s.rsq.state = true →
        s.rsq.runReq = false ∨ s.ssu.tenure = true ∨ s.ssu.request = true →
        s.rsq.pendingSet.dip.isSome = true)
    ∧ (s.rsq.state = .ramping → s.ssu.tenure = true →
        s.drvReady = true ∧ s.filtered .supplyOk = true)

/-- R176, R178: a station that has joined has its straps latched. -/
abbrev StrapsKnown (s : State) : Prop := s.rsq.state ≠ .unjoined → s.cpn.strapDone = true

/-- The own entry the list holds for the own DRAW claim (R92, R93, R127). -/
def State.drawEntry (s : State) (status : OwnStatus) : ClaimEntry :=
  { station := s.ownStation, kind := .draw, number := s.dbu.claimNumber, amount := s.dbu.amount,
    origin := .own status }

/-- The own entry the list holds for the own START claim (R106, R107, R127). -/
def State.startEntry (s : State) (status : OwnStatus) : ClaimEntry :=
  { station := s.ownStation, kind := .start, number := s.ssu.claimNumber, amount := 0,
    origin := .own status }

/-- The own entries of a kind. -/
def State.ownEntries (s : State) (k : ClaimKind) : List ClaimEntry :=
  s.pvu.claims.filter fun e => e.isOwn && decide (e.kind = k)

/-- The peers' entries, those of the other stations, in the order they were placed. -/
def State.peerEntries (s : State) : List ClaimEntry :=
  s.pvu.claims.filter fun e => !e.isOwn && decide (e.station ≠ s.ownStation)

/-- R127: the claim list holds exactly the own entries that the own claims call for. -/
abbrev OwnEntriesMatch (s : State) : Prop :=
  (s.ownEntries .draw = match s.dbu.claim with
    | .sent => [s.drawEntry .sent]
    | .contending => [s.drawEntry .contending]
    | .none | .waiting | .holdoff => [])
  ∧ (s.ownEntries .start = match s.ssu.claim with
    | .sent => [s.startEntry .sent]
    | .contending => [s.startEntry .contending]
    | .waiting => [s.startEntry .waiting]
    | .none => [])

/-- R91, R93, R95, R107: a need is held exactly while the own DRAW claim is not NONE, and only in QUEUED
and RAMPING; each settle timer runs exactly while its claim is CONTENDING. -/
abbrev NeedPlaced (s : State) : Prop :=
  (s.dbu.need.isSome = true ↔ s.dbu.claim ≠ .none)
    ∧ (s.dbu.claim ≠ .none → s.rsq.state = .queued ∨ s.rsq.state = .ramping)
    ∧ (s.dbu.settleAt.isSome = true ↔ s.dbu.claim = .contending)
    ∧ (s.ssu.settleAt.isSome = true ↔ s.ssu.claim = .contending)

/-- R36, R37: the urgency is the one the state calls for, but for a critical moment that the margin timer
has yet to report. -/
abbrev UrgencyCurrent (s : State) : Prop := s.computeUrgency ≠ 3 → s.rsq.urgency = s.computeUrgency

/-- A sound state: all the laws above. -/
structure Sound (s : State) : Prop where
  speed : SpeedLaw s
  holdSpeeds : HoldSpeedsBounded s
  claimsDistinct : ClaimsDistinct s
  slotsDistinct : SlotsDistinct s
  stack : StackBounded s
  pending : PendingPlaced s
  joined : LineJoined s
  silent : LineSilent s
  claimsOnActive : ClaimsOnActive s
  slot : SlotPlaced s
  drive : DrivePlaced s
  straps : StrapsKnown s
  ownEntries : OwnEntriesMatch s
  need : NeedPlaced s
  urgency : UrgencyCurrent s

/-! ### Words of the statements -/

/-- The fault record after a capture in the present state: an unlocked record is filled with the values
before the change, a locked one counts a later fault (R182, R184). -/
def State.captured (s : State) (kind : FaultKind) (detail : Nat) : FaultRecord :=
  if s.cpn.fault.locked then
    { s.cpn.fault with multiple := true, later := min 255 (s.cpn.fault.later + 1) }
  else
    { locked := true, kind := some kind, state := s.rsq.state, cause := s.restartCause,
      step := s.rsq.step, time := s.sinceJoin, detail := detail, multiple := false, later := 0 }

/-- The first fault of a record that was unlocked before a capture of `kind` (R182): later faults of the
same occurrence change only MULTIPLE and the later-fault count. -/
abbrev FirstFault (s t : State) (kind : FaultKind) (detail : Nat) : Prop :=
  s.cpn.fault.locked = false →
    t.cpn.fault = { s.captured kind detail with
      multiple := t.cpn.fault.multiple, later := t.cpn.fault.later }

/-- The transmit queue `q` after the own claim of a kind and number is withdrawn (R97, R111, R142, R143):
a CLAIM of it that has not started leaves the queue, and a WITHDRAW of its number takes the claim's slot,
unless that CLAIM stood in the queue and is not being sent as well. A line that sends nothing takes no
WITHDRAW. -/
def State.withdrawnFrom (s : State) (k : ClaimKind) (number : Nat) (q : List QueuedFrame) :
    List QueuedFrame :=
  let rest := q.filter fun f => !f.isClaim k number
  if s.lnc.line.allowsBeacon = false then q
  else if q.any (QueuedFrame.isClaim k number) = true ∧ s.lnc.sendingClaim k number = false then rest
  else putFrame (.withdraw k number) rest

/-- The transmit queue `q` after the own claims have ended: the DRAW claim if it is outstanding and the
START claim if there is one are withdrawn, and a queued CLEAR is removed (R97, R111). -/
def State.claimsWithdrawn (s : State) (q : List QueuedFrame) : List QueuedFrame :=
  let draw := if s.dbu.claim.outstanding then s.withdrawnFrom .draw s.dbu.claimNumber q else q
  let start :=
    if s.ssu.claim = .none then draw else s.withdrawnFrom .start s.ssu.claimNumber draw
  start.filter fun f => decide (f.slot ≠ .clear)

/-- The transmit queue `q` after the end of a tenure, which queues a RELEASE (R114). -/
def State.releaseQueued (s : State) (reason : ReleaseReason) (q : List QueuedFrame) :
    List QueuedFrame :=
  if s.ssu.tenure = true ∧ s.lnc.line.allowsBeacon = true then putFrame (.release reason) q else q

/-- The claim list without the entries of the own claims that have ended (R97, R111, R127). -/
def State.claimsWithoutOwn (s : State) : List ClaimEntry :=
  s.pvu.claims.filter fun e =>
    !(e.isOwn && (decide (e.kind = .start) || s.dbu.claim.outstanding))

/-- The own claims, the start request and the tenure have ended (R3, R7, R97, R111, R114). A claim's need,
its settle timer and its own entry end with it; the CLAIM not yet started leaves the transmit queue, one
that the peers may hold is withdrawn, and every other frame stays but a CLEAR; nothing of the peers is
touched; a tenure leaves its RELEASE queued, and a holder view of the own station ends with it. -/
abbrev OwnClaimsGone (s t : State) : Prop :=
  t.dbu.claim = .none ∧ t.dbu.need = (if s.dbu.claim = .none then s.dbu.need else none)
    ∧ t.dbu.settleAt = (if s.dbu.claim.outstanding then none else s.dbu.settleAt)
    ∧ t.ssu = { s.ssu with
        request := false, claim := .none, settleAt := none, clearSent := false, tenure := false
        tenureAt := if s.ssu.tenure then none else s.ssu.tenureAt
        clearPending := s.ssu.clearPending && !s.ssu.tenure
        holder :=
          if s.ssu.tenure = true ∧ s.ssu.holder = some s.ownStation then none else s.ssu.holder
        attempts := t.ssu.attempts }
    ∧ t.pvu.peers = s.pvu.peers ∧ t.pvu.claims = s.claimsWithoutOwn
    ∧ t.lnc.queue = s.releaseQueued .stopped (s.claimsWithdrawn s.lnc.queue)

/-- A START claim has been formed at a standing request (R105, R106): it is SENT under the next number,
listed in the claim list `claims`, and its CLAIM is queued on the queue `q`. -/
abbrev StartFormed (s t : State) (claims : List ClaimEntry) (q : List QueuedFrame) : Prop :=
  t.ssu.request = true ∧ t.ssu.claim = .sent ∧ t.ssu.settleAt = none
    ∧ t.ssu.claimNumber = (if (s.ssu.claimNumber + 1) % 16 = s.ssu.lastSettled
        then (s.ssu.lastSettled + 1) % 16 else (s.ssu.claimNumber + 1) % 16)
    ∧ t.pvu.claims = claims.filter (fun e => !(decide (e.station = s.ownStation ∧ e.kind = .start)))
        ++ [t.startEntry .sent]
    ∧ t.lnc.queue = putFrame (.claim .start t.ssu.claimNumber 0 s.pst.strand.settleTime) q

/-- Entry to QUEUED from STOPPED with RUN_REQ clear, on an ACTIVE line without a tenure or an own claim,
forms the START claim and nothing more (R14, R15, R105, R106). -/
abbrev QueuedWithClaim (s t : State) : Prop :=
  s.rsq.runReq = false → s.lnc.line = .active → s.ssu.tenure = false → s.ssu.claim = .none →
    s.dbu.claim.outstanding = false →
    t.rsq.state = .queued ∧ t.rsq.runReq = false ∧ StartFormed s t s.pvu.claims s.lnc.queue
      ∧ t.ssu = { s.ssu with
          request := true, claim := .sent, claimNumber := t.ssu.claimNumber, settleAt := none }
      ∧ t.dbu = s.dbu ∧ t.pvu.peers = s.pvu.peers

/-- The fault record after an occurrence that captures nothing but a rise of the overcommit condition
(R100). -/
abbrev OvercommitAlone (s t : State) : Prop :=
  t.cpn.fault =
    if t.dbu.overcommit = true ∧ s.dbu.overcommit = false then
      s.captured .overcommit (min 65535 (t.dbu.granted + t.reportedSum - t.dbu.limit))
    else s.cpn.fault

/-- A line that leaves ACTIVE or LISTEN for DEAF or BARRED finds no slot to take without the line and no
drive whose first point it lets begin (R16, R105, R117). -/
abbrev LineLostQuiet (s : State) : Prop :=
  (s.ssu.request = false ∨ s.rsq.urgency ≠ 3 ∨ s.ssu.tenure = true)
    ∧ (s.rsq.state ≠ .queued ∨ s.driveRunning = false)

/-- What a line that goes DEAF or BARRED leaves of the own claims, where `LineLostQuiet` holds (R98, R99,
R111): both claims end with their entries, a withdrawn DRAW claim is counted for the restart that gave the
need, and the held need raises G as far as the solo allowance. -/
abbrev ClaimsLost (s t : State) : Prop :=
  t.rsq = { s.rsq with counters := { s.rsq.counters with
      drawWithdrawn := if s.dbu.claim.outstanding = true ∧ s.dbu.needOfRunning = true
        then min 255 (s.rsq.counters.drawWithdrawn + 1) else s.rsq.counters.drawWithdrawn } }
    ∧ t.dbu = { s.dbu with
        claim := .none, need := none
        settleAt := if s.dbu.claim.outstanding then none else s.dbu.settleAt
        granted := (s.dbu.need.map fun need =>
          max s.dbu.granted (min (need + s.dbu.granted) s.pst.strand.soloAllowance)).getD s.dbu.granted
        overcommit := if t.dbu.granted = s.dbu.granted then s.dbu.overcommit else t.overcommitted }
    ∧ t.ssu = { s.ssu with claim := .none, settleAt := none, clearSent := false }
    ∧ t.pvu = { s.pvu with claims := s.claimsWithoutOwn }

/-- The report ring after an end that clears the stack: the running restart's report, then one for each
context from the top, each pushed in front (R72, R75). -/
def State.ringAfterEnd (s : State) (outcome : ReportOutcome) : Vector Report 4 :=
  s.rsq.stack.foldl (fun ring c => pushReport ring (s.contextReport outcome c))
    (pushReport s.cpn.ring (s.runningReport outcome))

/-- The state with the release latch of each pending HOLD and BREAKOUT record set (R27). -/
def State.afterRelease (s : State) : State :=
  { s with rsq := { s.rsq with pendingSet := { s.rsq.pendingSet with
      breakout := s.rsq.pendingSet.breakout.map fun r => { r with latch := some true }
      hold := s.rsq.pendingSet.hold.map fun r => { r with latch := some true } } } }

/-- A frame whose fields lie in the ranges of its layout (R186). -/
def LineFrame.wf (f : LineFrame) : Bool :=
  match f.body with
  | .beacon b => b.wf
  | .claim c => c.wf
  | .withdraw _ number => decide (number < 16)
  | .release _ => true
  | .clear target => decide (target < 256)
  | .eventBegin epoch => decide (epoch < 256)
  | .eventReady epoch limit => decide (epoch < 256 ∧ limit < 65536)

/-- The draw unit after a ramp tick that is not blocked: a held need is dropped (R91). -/
def Dbu.unblocked (d : Dbu) : Dbu :=
  match d.claim with
  | .waiting | .holdoff => { d with claim := .none, need := none }
  | .none | .sent | .contending => d

/-- The line controller after a valid peer frame that does not end DEAF (R138, R148). -/
def State.heardLine (s : State) : Lnc :=
  if s.lnc.line = .barred then { s.lnc with quiet := some 10, charLeft := 0, synced := true }
  else { s.lnc with
    quiet := some 10, charLeft := 0, synced := true, deafCount := s.lnc.deafCount - 1
    silenceAt := some (later s.now (3 * (s.pst.strand.periodCode * 10))) }

/-- A frame of `station` is heard: it comes from a peer, and the receiver has seen 10 bit times of quiet
since JOIN (R138, R148). -/
abbrev Heard (s : State) (station : Nat) : Prop :=
  s.lnc.line ≠ .off ∧ s.lnc.synced = true ∧ station < s.strandCount ∧ station ≠ s.ownStation

/-- A frame of `station` is heard, and does not bring a DEAF line back (R148, R152). -/
abbrev Hears (s : State) (station : Nat) : Prop :=
  Heard s station ∧ (s.lnc.line = .deaf → 1 < s.lnc.deafCount)

/-- A row that delivers a valid frame of a peer, with its sender. -/
def frameSender : Instr → Option Nat
  | .beaconReceived k _ | .claimReceived k _ | .withdrawReceived k _ _ | .releaseReceived k _
  | .clearReceived k _ | .eventBeginReceived k _ | .eventReadyReceived k _ _ => some k
  | _ => none

/-- A view change has no claim of the station to act on: no own DRAW claim waits, contends or holds off,
and no own START claim waits (R90, R109). -/
abbrev ViewIdle (s : State) : Prop :=
  (s.dbu.claim = .none ∨ s.dbu.claim = .sent) ∧ s.ssu.claim ≠ .waiting

/-- A sample that finds `raw` at input `i` accepts a change (R157). -/
abbrev Accepts (s : State) (i : Input) (raw : Bool) : Prop :=
  raw ≠ s.filtered i ∧ inputGet s.pst.strand.filterTimes i ≤ (inputGet s.spu.inputs i).count

/-- The state with input `i` at an accepted level and its stability count at 0 (R157). -/
def State.withInput (s : State) (i : Input) (raw : Bool) : State :=
  let f : FilterState := { raw := raw, filtered := raw, count := 0 }
  { s with spu := { s.spu with inputs := inputSet s.spu.inputs i f } }

/-- The state after a sample of input `i` that accepts no change: the count starts again where the level
is the filtered value, and rises where it differs (R157). -/
def State.countInput (s : State) (i : Input) (raw : Bool) : State :=
  let count := if raw = s.filtered i then 0 else (inputGet s.spu.inputs i).count + 1
  let f : FilterState := { raw := raw, filtered := s.filtered i, count := count }
  { s with spu := { s.spu with inputs := inputSet s.spu.inputs i f } }

/-- One sample of input `i` leads from `v` to `w`: a change it accepts is its edge, and the count moves
otherwise (R157). -/
abbrev OneSampled (i : Input) (raw : Bool) (v w : State) : Prop :=
  if Accepts v i raw then exec (.inputEdgeAccepted ⟨i, raw⟩) v = .next w else w = v.countInput i raw

/-- A sample record that ends now began after 10 bit times of idle since the last reset: the receiver is
not searching, or 80 bit times of 230.4 kbit/s of idle lie behind it (R156, R160; entry 43). -/
abbrev Found (s : State) : Prop :=
  s.spu.search.all (fun q => decide (80 * 10000 ≤ q * 2304)) = true

/-- A record of `n` bytes that ends now began before 10 bit times of idle since the last reset (R156). -/
abbrev Searching (s : State) (n : Nat) : Prop :=
  s.spu.search.any (fun q => decide (q * 2304 < (10 * n + 20) * 10000)) = true

/-- A ramp tick falls now and has not been taken (R52; entry 5). -/
abbrev TickNow (s : State) : Prop := s.rsq.tickPhase = 0 ∧ s.rsq.tickTaken = false

/-- The timer has run out: the time left to its moment is 0 (R33). -/
abbrev RunOut (s : State) (timer : Option Moment) : Prop := ∃ m, timer = some m ∧ timeLeft s.now m = 0

end Sys2Proof.Machine
end

