-- ==== Sys2Proof/Certificates/Slice0/Obligations.lean ====
section
/-! DEFINITION. The statements about the DB4416, one proposition each, in the order of OBLIGATIONS.json. A
clause names a command, hypotheses on the state and the operands alone, and the next state. -/

open Sys2Proof Sys2Proof.Machine

/-- For every command and state, a step with that command at the front of the queue is exec of it on
the state with the rest of the queue. From 00_scope.md, Functional Blocks. -/
def Obligations.step_takes_the_front_command : Prop :=
  ∀ (c : Instr) (rest : List Instr) (s : State),
    step { s with pending := c :: rest } = exec c { s with pending := rest }

/-- With an empty queue, a step takes the first own event that is due. When none is due one bit time
of the line passes, 1 µs or 4 µs by LRATE: the transmitter sends its next bit, the receiver reads
that bit, or the recessive level where nothing is sent, and the time within the ms grows. When it
comes to 1000 µs the timebase advances by 1 ms modulo 2^32, RSQ's 100 ms phase with it, and the
ramp tick, the input sample and the strap sample of the new ms stand open. Nothing else changes.
The receiver of sample records counts the idle time of SRX as long as it searches after a reset,
up to the 80 bit times of 230.4 kbit/s after which no sample record can have been under way at the
reset (entry 43). With RST_N low a step on an empty queue changes nothing. That time passes in
these steps alone is the model's choice (entry 1), and so are the order of due events (entry 3),
the open tick and samples (entries 5, 9 and 18) and the recessive level of a line nobody drives
(entry 10). From 02_freeze_windows_and_urgency.md, The Duration Code; 08_the_restart_line.md, The
Medium; 08_the_restart_line.md, Getting the Line. -/
def Obligations.step_on_empty_queue : Prop :=
  ∀ s : State, s.pending = [] →
    (s.rstLow = true → step s = .next s)
    ∧ (∀ c, s.firstDue = some c → step s = exec c s)
    ∧ (s.rstLow = false → s.firstDue = none →
        let bitTime := if s.cpn.straps.lrate then 1 else 4
        let micros := s.micros + bitTime
        let search := s.spu.search.bind fun q =>
          if 80 * 10000 ≤ (q + bitTime) * 2304 then none else some (q + bitTime)
        let lnc := { s.lnc.readBit s.ltx with
          tx := s.lnc.tx.map fun t =>
            if t.sent < (frameBits t.frame.bytes).length then { t with sent := t.sent + 1 } else t }
        (micros < 1000 → step s = .next { s with
            micros := micros, lnc := lnc, spu := { s.spu with search := search } })
        ∧ (1000 ≤ micros → step s = .next { s with
            now := later s.now 1, micros := 0, lnc := lnc,
            rsq := { s.rsq with tickPhase := (s.rsq.tickPhase + 1) % 100, tickTaken := false },
            spu := { s.spu with search := search, sampled := false },
            cpn := { s.cpn with strapSampler := { s.cpn.strapSampler with taken := false } } }))

/-- For every command in every state, exec answers a next state. The waiting commands are unchanged:
that a command leaves the queue alone, a reset included, is the model's choice (entry 24). The
timebase is unchanged by every command other than the two resets, so that a command takes no time:
the model's choice (entry 1). The two resets start it again at 0, which the model infers for the
soft reset (entry 6). That an event row delivered off its condition still answers a next state is
the model's choice (entry 2). With RST_N low RESET changes nothing (entry 37). From
10_command_port_notices_and_faults.md, The Fault Record; 10_command_port_notices_and_faults.md,
Resets at the Port. -/
def Obligations.every_command_completes : Prop :=
  ∀ (c : Instr) (s : State), ∃ t, exec c s = .next t ∧ t.pending = s.pending
    ∧ (match c with
      | .pinReset _ => t.now = 0 ∧ t.micros = 0 ∧ t.joinedAt = none
      | .softReset _ =>
        if s.rstLow then t = s else t.now = 0 ∧ t.micros = 0 ∧ t.joinedAt = none
      | _ => t.now = s.now ∧ t.micros = s.micros)

/-- For every host command with any parameter bytes, the frame that holds its command record, followed
by any further bytes, is taken as that command: all four checks of the record pass, and the code
and parameter bytes name it. A RESET carries the levels of the input pins at that moment. With
RST_N high a frame clocked in bit by bit, most significant bit first, with CS_N falling before it
and rising after it, puts its row last in the queue; up to seven bits after the last complete byte
are discarded, and the byte count is that of the complete bytes. After n SCLK pulses SDO shows bit
n of the reply and then 0; with CS_N high it is high impedance. A frame under way at a pin reset
queues nothing. That its row waits in the queue is the model's choice (entries 22 and 24). From
10_command_port_notices_and_faults.md, Frames and the Reply Buffer;
10_command_port_notices_and_faults.md, The Command Record; 11_formats.md, Command and Reply
Records. -/
def Obligations.command_record_round_trip : Prop :=
  (∀ (raw : InputLevels) (c : Instr) (code : Byte) (params more : List Byte),
      hostCommand c = some (code, params) → (∀ r, c = .softReset r → r = raw) →
      commandOfFrame raw (commandRecord code params ++ more) = c)
  ∧ (∀ (raw : InputLevels) (bytes : List Byte) (extra : List Bool) (s : State),
      s.rstLow = false → s.cpn.spi.csLow = false → extra.length < 8 →
      let t := clockIn (bytes.flatMap spiBits ++ extra) (csFall s)
      t.received = bytes ∧ (csRise raw t).received = bytes
      ∧ (csRise raw t).pending = s.pending ++ [commandOfFrame raw bytes]
      ∧ (csRise raw t).sdo = none)
  ∧ (∀ (bits : List Bool) (s : State), s.rstLow = false → s.cpn.spi.csLow = false →
      s.sdo = none
      ∧ (clockIn bits (csFall s)).sdo
        = some ((s.cpn.reply.bytes.flatMap spiBits).getD bits.length false))
  ∧ (∀ (raw levels : InputLevels) (bits : List Bool) (s t : State),
      exec (.pinReset levels) s = .next t → (csRise raw (clockIn bits t)).pending = s.pending)

/-- For a frame whose fields lie in their ranges and whose sender is below the strand count, the bytes
composed for it pass the reception checks, CRC included, and are read as the same frame. The
length in bytes is the fixed length of its kind. It takes 10 bit times for each byte; LTXEN is
asserted for exactly these, with the bits on LTX in order, and LTX is recessive after them and
with nothing to send, which is the model's choice (entry 44). A receiver that has seen its 10 bit
times of quiet since JOIN and reads the bits of whole characters and then n recessive bits has a
quiet time of n. One that has not seen them ends its search at the 10th recessive bit in a row.
From 08_the_restart_line.md, Reception; 08_the_restart_line.md, The Medium;
08_the_restart_line.md, Getting the Line; 11_formats.md, Restart Line Frames. -/
def Obligations.line_frame_round_trip : Prop :=
  (∀ (f : LineFrame) (strands : Nat), f.wf = true → f.station < strands → strands ≤ 8 →
      validFrame strands f.bytes false = some f ∧ f.bytes.length = frameLength f.body.frameKind)
  ∧ (∀ (s : State) (t : Transmission), s.lnc.tx = some t →
      (s.ltxen = true ↔ t.sent < 10 * t.frame.bytes.length)
      ∧ (∀ h : t.sent < (frameBits t.frame.bytes).length, s.ltx = (frameBits t.frame.bytes)[t.sent])
      ∧ (10 * t.frame.bytes.length ≤ t.sent → s.ltx = true))
  ∧ (∀ s : State, s.lnc.tx = none → s.ltxen = false ∧ s.ltx = true)
  ∧ (∀ (l : Lnc) (q n : Nat) (bytes : List Byte), l.quiet = some q → l.synced = true → l.charLeft = 0 →
      bytes ≠ [] →
      (frameBits bytes ++ List.replicate n true).foldl Lnc.readBit l = { l with quiet := some n })
  ∧ (∀ (l : Lnc) (n : Nat), l.quiet = some 0 → l.synced = false → l.charLeft = 0 →
      (List.replicate n true).foldl Lnc.readBit l
        = { l with quiet := some n, synced := decide (10 ≤ n) })

/-- A received record is read as F and level exactly when it has no framing fault and its bytes are
53h, the two bytes of F, the two bytes of the level, and the check over those five. Every other
record is discarded. From 09_the_strand_port.md, Sample Records; 11_formats.md, Strand Link
Records. -/
def Obligations.sample_record_is_read_exactly : Prop :=
  ∀ (bytes : List Byte) (fault : Bool) (f level : Nat),
    readSample bytes fault = some (f, level) ↔
      f < 65536 ∧ level < 65536 ∧ fault = false
        ∧ bytes = [0x53, byte (f / 256), byte f, byte (level / 256), byte level,
            crc8 [0x53, byte (f / 256), byte f, byte (level / 256), byte level]]

/-- Code 0 gives no duration; codes 1 to 120 give code times 250 ms, 121 to 240 give 30 s plus 1 s for
each code above 120, 241 to 254 give 150 s plus 30 s for each code above 240, and 255 gives 900 s.
Of two codes from 1 to 255 the greater decodes to the longer time. From any moment of the 32-bit
count, a moment has n ms later the age n for every n below 2^32. A moment n ms ahead has remaining
time n, and one n ms past has remaining time 0, for every n below 2^31: that the nearer reading of
the difference is taken is inferred (entry 4). From 02_freeze_windows_and_urgency.md, The Duration
Code; 02_freeze_windows_and_urgency.md, Deadlines. -/
def Obligations.duration_codes_decode : Prop :=
  durationMs 0 = none
  ∧ (∀ c, 1 ≤ c → c ≤ 120 → durationMs c = some (c * 250))
  ∧ (∀ c, 121 ≤ c → c ≤ 240 → durationMs c = some (30000 + (c - 120) * 1000))
  ∧ (∀ c, 241 ≤ c → c ≤ 254 → durationMs c = some (150000 + (c - 240) * 30000))
  ∧ durationMs 255 = some 900000
  ∧ (∀ c d m n, c ≤ 255 → d ≤ 255 → durationMs c = some m → durationMs d = some n → (c < d ↔ m < n))
  ∧ (∀ (t : Moment) (n : Nat), n < 2 ^ 32 → ageAt (later t n) t = n)
  ∧ ∀ (t : Moment) (n : Nat), n < 2 ^ 31 →
      timeLeft t (later t n) = n ∧ timeLeft (later t n) t = 0 ∧ reached (later t n) t = true
      ∧ (0 < n → reached t (later t n) = false)

/-- S_max(G) is the lesser of 8000 and G × 1000 / M rounded down, S_max(0) is 0, and it never falls as
G rises. For every speed of 0 to 8000, S ≤ S_max(G), S × M ≤ G × 1000 and D(S) ≤ G say the same,
and S_max(D(S)) ≥ S. M lies in 20–2000, and D rounds S × M / 1000 up. Formalises R50. -/
def Obligations.draw_and_highest_speed_agree : Prop :=
  ∀ mass, 20 ≤ mass → mass ≤ 2000 →
    speedMax mass 0 = 0
    ∧ (∀ g, speedMax mass g = min 8000 (g * 1000 / mass))
    ∧ (∀ g h, g ≤ h → speedMax mass g ≤ speedMax mass h)
    ∧ (∀ g speed, speed ≤ 8000 →
        (speed ≤ speedMax mass g ↔ speed * mass ≤ g * 1000)
        ∧ (speed * mass ≤ g * 1000 ↔ drawOf mass speed ≤ g))
    ∧ (∀ speed, speed ≤ 8000 → speed ≤ speedMax mass (drawOf mass speed))
    ∧ ∀ speed, drawOf mass speed * 1000 < speed * mass + 1000 ∧ speed * mass ≤ drawOf mass speed * 1000

/-- For epochs of 0 to 255, e is newer than c exactly when (e − c) mod 256 lies in 1 to 127. Of two
different epochs each is newer than the other only where the difference is not 128: then exactly
one of them is newer, and at 128 neither is. From 05_draw_budget_and_draw_claims.md, Line Limit
and Tundish Epoch. -/
def Obligations.epochs_compare_modulo_256 : Prop :=
  ∀ e c, e < 256 → c < 256 →
    (newerEpoch e c = true ↔ ∃ d, 1 ≤ d ∧ d ≤ 127 ∧ e = (c + d) % 256)
    ∧ newerEpoch c c = false
    ∧ (newerEpoch e c = true → newerEpoch c e = false)
    ∧ (newerEpoch e c = false → newerEpoch c e = false → e = c ∨ e = (c + 128) % 256)

/-- For claims of different stations exactly one outranks the other; no claim outranks itself; and
rank is transitive. The list as read holds every entry of the claim list once, and no entry in it
is outranked by a later one. From 02_freeze_windows_and_urgency.md, Rank;
07_peer_view_and_claim_list.md, The Claim List. -/
def Obligations.rank_is_a_total_order_in_a_kind : Prop :=
  ∀ s : State,
    (∀ a, s.outranks a a = false)
    ∧ (∀ a b, a.station ≠ b.station → s.outranks a b = !s.outranks b a)
    ∧ (∀ a b c, s.outranks a b = true → s.outranks b c = true → s.outranks a c = true)
    ∧ s.rankedClaims.Perm s.pvu.claims
    ∧ s.rankedClaims.Pairwise fun a b => s.outranks b a = false

/-- With the speed law and the range of hold speeds holding before a step, they hold after it: with
AUTH asserted S × M ≤ G × 1000, with AUTH deasserted S is 0, S lies within 0–8000, and every hold
speed lies within 0–8000. The range of hold speeds is the invariant that the law needs at stop
entry. Formalises R51. -/
def Obligations.every_step_keeps_the_speed_law : Prop :=
  ∀ (s t : State), SpeedLaw s → HoldSpeedsBounded s → step s = .next t → SpeedLaw t ∧ HoldSpeedsBounded t

/-- If no two entries of the claim list have the same station and kind and every station is 0–7, the
same holds after any step, and the list then has at most 16 entries. From
07_peer_view_and_claim_list.md, The Claim List. -/
def Obligations.every_step_keeps_claims_distinct : Prop :=
  ∀ (s t : State), ClaimsDistinct s → step s = .next t → ClaimsDistinct t ∧ t.pvu.claims.length ≤ 16

/-- If no two frames in the transmit queue share a slot, none do after any step, and the queue then
holds at most six frames beside the BEACON slot. From 08_the_restart_line.md, The Transmit Queue. -/
def Obligations.every_step_keeps_slots_distinct : Prop :=
  ∀ (s t : State), SlotsDistinct s → step s = .next t → SlotsDistinct t ∧ t.lnc.queue.length ≤ 6

/-- The bound of three contexts, and the emptiness of the stack in every state other than STOPPED,
QUEUED and RAMPING, are kept by every step. From 04_restart_contexts_and_reports.md, The Context
Stack. -/
def Obligations.every_step_keeps_the_stack_bounded : Prop :=
  ∀ (s t : State), StackBounded s → step s = .next t → StackBounded t

/-- If the pending-cause set is non-empty exactly when the sequencer is in STOPPED or QUEUED, the same
holds after any step. From 01_restart_sequencer.md, The Pending-Cause Set. -/
def Obligations.every_step_keeps_causes_pending_in_place : Prop :=
  ∀ (s t : State), PendingPlaced s → step s = .next t → PendingPlaced t

/-- Every step keeps these together: the line is OFF exactly while the sequencer is UNJOINED; in OFF,
LISTEN and BARRED nothing is queued or sent; and outside ACTIVE no own claim of either kind is
outstanding. From 08_the_restart_line.md, Line States; 08_the_restart_line.md, The Transmit Queue;
05_draw_budget_and_draw_claims.md, The Own Draw Claim. -/
def Obligations.every_step_keeps_the_line_laws : Prop :=
  ∀ (s t : State), LineJoined s → LineSilent s → ClaimsOnActive s → step s = .next t → LineJoined t ∧ LineSilent t ∧ ClaimsOnActive t

/-- Every step keeps these together: a start request stands only in QUEUED with the drive not running;
an own START claim stands only with a request and without a tenure; a tenure runs only in QUEUED
and RAMPING with RUN_REQ set; in QUEUED every precondition is met; RUN_REQ is set in RAMPING and
HANDBACK; a DIP record is pending whenever causes are pending with RUN_REQ clear, a tenure or a
request; and a tenure in RAMPING finds DRV_READY and SUPPLY_OK asserted. The last three are
inferred from the rules (entry 29). From 06_the_start_slot.md, The Start Request;
06_the_start_slot.md, Taking the Slot and the Tenure; 01_restart_sequencer.md, STOPPED and QUEUED;
01_restart_sequencer.md, Strand Outputs. -/
def Obligations.every_step_keeps_the_start_slot_laws : Prop :=
  ∀ (s t : State), SlotPlaced s → DrivePlaced s → step s = .next t → SlotPlaced t ∧ DrivePlaced t

/-- Beside the laws stated separately, a sound state has its straps latched once joined, exactly the
own entries in the claim list that the own claims call for with their numbers, amounts and
statuses, a need exactly while the own DRAW claim is not NONE and only in QUEUED and RAMPING, each
settle timer running exactly while its claim is CONTENDING, and the urgency that the state calls
for unless it is critical. Every step keeps all of it. From 07_peer_view_and_claim_list.md, The
Claim List; 05_draw_budget_and_draw_claims.md, The Own Draw Claim;
02_freeze_windows_and_urgency.md, Urgency. -/
def Obligations.every_step_keeps_the_state_sound : Prop :=
  ∀ (s t : State), Sound s → step s = .next t → Sound t

/-- The state after a pin reset satisfies every law that the steps keep. From 01_restart_sequencer.md,
Sequencer States; 10_command_port_notices_and_faults.md, Resets at the Port. -/
def Obligations.reset_is_sound : Prop :=
  Sound State.reset ∧ ∀ raw, Sound (State.afterPinReset raw)

/-- In every state other than UNJOINED, every command other than the two resets leaves the slices, the
cause table, the strand record and the ramp lengths as they are. In UNJOINED only the three LOADs,
JOIN and the resets can change them. From 03_ramps_and_the_profile_store.md, The Profile Store. -/
def Obligations.tables_change_only_before_join : Prop :=
  ∀ (c : Instr) (s t : State), exec c s = .next t →
    (s.rsq.state ≠ .unjoined →
      match c with | .softReset _ | .pinReset _ => True | _ => t.pst = s.pst)
    ∧ (match c with
      | .softReset _ | .pinReset _ | .loadStrand _ | .loadCause _ | .loadSlice _ | .join => True
      | _ => t.pst = s.pst)

/-- While the fault record is locked, every command other than CLEAR_FAULT and the resets leaves it
locked with its kind, state, cause, step, time and detail. MULTIPLE is never cleared, and the
later-fault count never falls and never passes 255. From 10_command_port_notices_and_faults.md,
The Fault Record. -/
def Obligations.first_fault_is_kept : Prop :=
  ∀ (c : Instr) (s t : State), exec c s = .next t →
    s.cpn.fault.locked = true → s.cpn.fault.later ≤ 255 →
    match c with
    | .clearFault | .softReset _ | .pinReset _ => True
    | _ => t.cpn.fault = { s.cpn.fault with
            multiple := t.cpn.fault.multiple, later := t.cpn.fault.later }
          ∧ (s.cpn.fault.multiple = true → t.cpn.fault.multiple = true)
          ∧ s.cpn.fault.later ≤ t.cpn.fault.later ∧ t.cpn.fault.later ≤ 255
          ∧ (t.cpn.fault ≠ s.cpn.fault → t.cpn.fault.multiple = true)

/-- Every command other than the resets that changes the line state raises LINE_CHANGED, every one
other than JOIN that changes L raises LIMIT_CHANGED, and every one that changes the report ring
raises REPORT_READY. Every one that enters RAMPING raises RAMP_STARTED, and every one that enters
STOPPED from WATCH, RAMPING or HANDBACK raises STOP_TAKEN. Every command other than GET_STATUS and
the resets keeps every event notice that is present. From 10_command_port_notices_and_faults.md,
Notices. -/
def Obligations.changes_raise_notices_that_stay_until_read : Prop :=
  ∀ (c : Instr) (s t : State), exec c s = .next t →
    (match c with
    | .softReset _ | .pinReset _ => True
    | _ => (t.lnc.line ≠ s.lnc.line → t.cpn.events.lineChanged = true)
          ∧ (c ≠ .join → t.dbu.limit ≠ s.dbu.limit → t.cpn.events.limitChanged = true)
          ∧ (t.cpn.ring ≠ s.cpn.ring → t.cpn.events.reportReady = true)
          ∧ (s.rsq.state ≠ .ramping → t.rsq.state = .ramping → t.cpn.events.rampStarted = true)
          ∧ (mayPend s.rsq.state = false → t.rsq.state = .stopped → t.cpn.events.stopTaken = true))
    ∧ (match c with
    | .getStatus | .softReset _ | .pinReset _ => True
    | _ => (s.cpn.events.stopTaken = true → t.cpn.events.stopTaken = true)
          ∧ (s.cpn.events.rampStarted = true → t.cpn.events.rampStarted = true)
          ∧ (s.cpn.events.reportReady = true → t.cpn.events.reportReady = true)
          ∧ (s.cpn.events.limitChanged = true → t.cpn.events.limitChanged = true)
          ∧ (s.cpn.events.lineChanged = true → t.cpn.events.lineChanged = true))

/-- In a state where requests, claims and tenures stand in their places, which every step keeps: when
a command other than INPUT_FILTER_SAMPLE sets RUN_REQ, then afterwards the holder view names the
own station, or authority has just been taken from WATCH with DRV_READY asserted.
INPUT_FILTER_SAMPLE is the samples of the four inputs one after another; when the sample of one
input sets RUN_REQ, the same holds. In WATCH it sets RUN_REQ only if DRV_READY is asserted after
it: that rests on the order SUPPLY_OK, DRV_READY, BRK_IN in which the sample takes its inputs,
which is the model's choice (entry 9), since R159 allows any order. Authority is taken only from
WATCH, by every command. From 01_restart_sequencer.md, Strand Outputs; 09_the_strand_port.md,
Discrete Inputs. -/
def Obligations.run_request_rises_only_with_the_slot : Prop :=
  ∀ (c : Instr) (s t : State), exec c s = .next t →
    SlotPlaced s → (match c with
      | .inputFilterSample _ =>
        s.rsq.state = .watch → s.rsq.runReq = false → t.rsq.runReq = true → t.drvReady = true
      | _ => s.rsq.runReq = false → t.rsq.runReq = true →
        t.ssu.holder = some t.ownStation ∨ (s.rsq.state = .watch ∧ s.drvReady = true))
    ∧ (s.auth = false → t.auth = true → s.rsq.state = .watch)

/-- With RST_N high a host command other than RESET is answered with its own code and status OK,
REFUSED_STATE or REFUSED_PARAM. With a refusal nothing changes but the reply. A row that is no
host command, other than a rejected record and a pin reset, leaves the reply buffer as it stands.
The SPI side of the port is left alone by every row other than a pin reset: that a row placed in
the queue directly and the soft reset leave it alone is the model's choice (entry 22). From
10_command_port_notices_and_faults.md, The Command Record; 10_command_port_notices_and_faults.md,
The Commands. -/
def Obligations.replies_echo_and_refusals_change_nothing : Prop :=
  ∀ (c : Instr) (s t : State), exec c s = .next t →
    (∀ code params, s.rstLow = false → (∀ raw, c ≠ .softReset raw) →
      hostCommand c = some (code, params) →
      t.cpn.reply.code = code
      ∧ (t.cpn.reply.status = .ok ∨ t.cpn.reply.status = .refusedState
          ∨ t.cpn.reply.status = .refusedParam)
      ∧ (t.cpn.reply.status ≠ .ok → t = { s with
          cpn := { s.cpn with
            reply := t.cpn.reply } }))
    ∧ (hostCommand c = none →
      match c with
      | .commandRecordRejected _ | .pinReset _ => True
      | _ => t.cpn.reply = s.cpn.reply)
    ∧ (match c with
      | .pinReset _ => True
      | _ => t.cpn.spi = s.cpn.spi)

/-- Other than by a reset: the filters change only at an input sample or edge; the held values only at
a sample record, a stale expiry or LOAD_STRAND; the peer entries only at a BEACON, a RELEASE and
the two aging events, and then only the entry of that station; and the latched straps and their
samples only at STRAP_LATCHED, which changes nothing once they are latched. From
09_the_strand_port.md, Discrete Inputs; 09_the_strand_port.md, Sample Records;
07_peer_view_and_claim_list.md, The Peer View Table; 10_command_port_notices_and_faults.md,
Straps. -/
def Obligations.inputs_and_samples_change_only_at_the_port : Prop :=
  ∀ (c : Instr) (s t : State), exec c s = .next t →
    match c with
    | .softReset _ | .pinReset _ => True
    | _ => (match c with
          | .inputFilterSample _ | .inputEdgeAccepted _ => True
          | _ => t.spu.inputs = s.spu.inputs)
        ∧ (match c with
          | .sampleRecord _ _ | .samplesGoStale | .loadStrand _ => True
          | _ => t.spu.feedback = s.spu.feedback ∧ t.spu.level = s.spu.level)
        ∧ (match c with
          | .beaconReceived k _ | .releaseReceived k _ | .peerSuspect k | .peerLost k =>
            ∀ j : Fin 8, j.val ≠ k → t.pvu.peers[j] = s.pvu.peers[j]
          | _ => t.pvu.peers = s.pvu.peers)
        ∧ (match c with
          | .strapLatched _ => s.cpn.strapDone = true → t = s
          | _ => t.cpn.straps = s.cpn.straps ∧ t.cpn.strapDone = s.cpn.strapDone
            ∧ t.cpn.strapSampler = s.cpn.strapSampler)

/-- Accepted in every state. NOP returns nothing. IDENTIFY returns the identity 44h 42h 44h 16h, the
straps and STRAP_DONE. GET_CLAIMS returns the count and 11 bytes for each entry, in the list's
order: station, kind, number, urgency, deadline, amount, lifetime and status, an own entry with
the live urgency and deadline and lifetime 65535. GET_FAULT returns the 13 bytes of the fault
record in its layout, with the codes of kind, state and cause; that the bytes of a set locked flag
and of MULTIPLE are 01h, and 00h when clear, is the model's choice (entry 42). CLEAR_FAULT returns
the record to its clear values. Nothing else changes. RST_N is high throughout. From
10_command_port_notices_and_faults.md, The Commands; 10_command_port_notices_and_faults.md,
Straps; 10_command_port_notices_and_faults.md, The Fault Record; 07_peer_view_and_claim_list.md,
Snapshots. -/
def Obligations.queries_only_answer : Prop :=
  (∀ (s : State),
        s.rstLow = false →
        exec .nop s = .next { s with
          cpn := { s.cpn with
            reply := { status := .ok, code := 0x01, data := [] } } })
  ∧ (∀ (s : State),
        s.rstLow = false →
        exec .identify s = .next { s with
          cpn := { s.cpn with
            reply := {
              status := .ok, code := 0x02, data := [0x44, 0x42, 0x44, 0x16,
                s.cpn.straps.station.setWidth 8, s.cpn.straps.count.setWidth 8,
                if s.cpn.straps.lrate then 1 else 0, if s.cpn.strapDone then 1 else 0] } } })
  ∧ (∀ (s : State),
        s.rstLow = false →
        exec .getClaims s = .next { s with
          cpn := { s.cpn with
            reply := {
              status := .ok, code := 0x32, data :=
                byte s.pvu.claims.length :: s.rankedClaims.flatMap s.claimBytes } } })
  ∧ (∀ (s : State) (e : ClaimEntry),
        let urgency := match e.origin with
          | .peer urgency _ _ => urgency
          | .own _ => s.rsq.urgency
        let deadline := match e.origin with
          | .peer _ deadline _ => s.remainingField deadline
          | .own _ => s.deadlineField
        let lifetime := match e.origin with
          | .peer _ _ lifetime => min 65534 (timeLeft s.now lifetime)
          | .own _ => 65535
        let status : Byte := match e.origin with
          | .peer _ _ _ => 0x00
          | .own .sent => 0x01
          | .own .contending => 0x02
          | .own .waiting => 0x03
        (s.claimBytes e).length = 11
        ∧ s.claimBytes e = [byte e.station, claimKindCode e.kind, byte e.number, byte urgency,
            byte (deadline / 256), byte deadline, byte (e.amount / 256), byte e.amount,
            byte (lifetime / 256), byte lifetime, status]
        ∧ claimKindCode .draw = 0x01 ∧ claimKindCode .start = 0x02)
  ∧ (∀ (s : State),
        s.rstLow = false →
        exec .getFault s = .next { s with
          cpn := { s.cpn with
            reply := { status := .ok, code := 0x34, data := s.cpn.fault.bytes } } })
  ∧ (∀ f : FaultRecord, f.bytes.length = 13
        ∧ f.bytes = [if f.locked then 0x01 else 0x00, faultKindCode f.kind, seqStateCode f.state,
            causeCode f.cause, byte f.step, byte (f.time / 65536 / 256), byte (f.time / 65536),
            byte (f.time / 256), byte f.time, byte (f.detail / 256), byte f.detail,
            if f.multiple then 0x01 else 0x00, byte f.later])
  ∧ ([.freezeExpired, .startTimeout, .stackDrop, .levelHoldTimeout, .handbackOverdue, .lineDeaf,
          .duplicateStation, .holderLost, .overcommit, .limitMismatch, .fieldStale].map
            (fun k => faultKindCode (some k))
          = [0x01, 0x02, 0x03, 0x04, 0x05, 0x06, 0x07, 0x08, 0x09, 0x0A, 0x0B]
        ∧ faultKindCode none = 0x00
        ∧ [.unjoined, .parked, .watch, .stopped, .queued, .ramping, .handback, .abandoned].map
            seqStateCode = [0x00, 0x01, 0x02, 0x03, 0x04, 0x05, 0x06, 0x07]
        ∧ [none, some .dip, some .tundish, some .breakout, some .hold].map causeCode
          = [0x00, 0x01, 0x02, 0x03, 0x04])
  ∧ (∀ (s : State),
        s.rstLow = false →
        exec .clearFault s = .next { s with
          cpn := { s.cpn with
            reply := { status := .ok, code := 0x35, data := [] },
            fault := { locked := false, kind := none, state := .unjoined, cause := none, step := 0,
                       time := 0, detail := 0, multiple := false, later := 0 } } })

/-- The reply holds the values taken before the command: sequencer, strand, draw, line and port groups
at their offsets, the notice set as it stood. Then every event notice leaves the set. Nothing else
changes. RST_N is high throughout. From 10_command_port_notices_and_faults.md, Status;
11_formats.md, Command and Reply Records. -/
def Obligations.get_status_returns_status_and_clears_events : Prop :=
  (∀ (s : State),
        s.rstLow = false →
        exec .getStatus s = .next { s with
          cpn := { s.cpn with
            events := { stopTaken := false, rampStarted := false, reportReady := false,
                        limitChanged := false, lineChanged := false },
            reply := {
              status := .ok, code := 0x30, data := [
                seqStateCode s.rsq.state, causeCode s.restartCause, pendingByte s.rsq.pendingSet,
                byte s.rsq.step, byte s.rsq.stack.length, byte s.rsq.urgency,
                byte (s.deadlineField / 256), byte s.deadlineField,
                byte (s.rsq.speed / 256), byte s.rsq.speed, s.outputByte,
                byte (s.spu.feedback.value / 256), byte s.spu.feedback.value,
                byte (s.spu.level.value / 256), byte s.spu.level.value, s.inputByte,
                byte (s.dbu.granted / 256), byte s.dbu.granted,
                byte (s.sendHeadroom / 256), byte s.sendHeadroom,
                byte (s.dbu.limit / 256), byte s.dbu.limit,
                byte s.dbu.epoch, phaseCode s.dbu.phase, lineStateCode s.lnc.line,
                holderByte s.ssu.holder, byte (s.noticeBits / 256), byte s.noticeBits,
                if s.cpn.fault.locked then 1 else 0] } } })

/-- With k in range the reply is OK with the entry. The 22 bytes of a present peer entry are its
fields in the snapshot layout, the flags and settled numbers as in the BEACON and the age
saturating at 65534; the 15 bytes of a report are its fields in the report layout, a last step of
NONE as FFh and an absent time to creep as FFFFh; the status, reason and outcome codes are those
of the layouts. An ABSENT peer entry shows status 00h, age 65535, deadline 65535, its RELEASE
reason and 0 elsewhere. With k above the range the reply is REFUSED_PARAM with no data. Nothing
else changes. RST_N is high throughout. From 07_peer_view_and_claim_list.md, Snapshots;
04_restart_contexts_and_reports.md, The Report Ring; 10_command_port_notices_and_faults.md, The
Commands. -/
def Obligations.get_peer_and_get_report_take_an_index : Prop :=
  (∀ (k : Byte) (s : State),
        s.rstLow = false →
        k.toNat ≤ 7 →
        exec (.getPeer k) s = .next { s with
          cpn := { s.cpn with
            reply := { status := .ok, code := 0x31, data := s.peerBytes k.toNat } } })
  ∧ (∀ (s : State) (k : Nat), (s.peerBytes k).length = 22
        ∧ ((s.peer k).status ≠ .absent →
          let e := s.peer k
          let age := match e.lastBeacon with
            | some m => min 65534 (ageAt s.now m)
            | none => 65535
          let deadline := s.remainingField e.deadline
          let flag (b : Bool) (weight : Nat) := if b then weight else 0
          s.peerBytes k =
            [byte k, peerStatusCode e.status, byte (age / 256), byte age, byte e.missed,
              byte e.sequence, byte e.periodCode, seqStateCode e.state, causeCode e.cause,
              byte e.urgency, byte (e.draw / 256), byte e.draw, byte (e.speed / 256), byte e.speed,
              byte (deadline / 256), byte deadline,
              byte (flag e.auth 1 + flag e.slotHeld 2 + flag e.deaf 4 + flag e.limitLocal 8
                + flag e.phaseReady 16),
              byte (e.settledDraw * 16 + e.settledStart), byte e.epoch, byte (e.limit / 256),
              byte e.limit, reasonByte e.releaseReason]))
  ∧ ([.absent, .live, .suspect, .lost].map peerStatusCode = [0x00, 0x01, 0x02, 0x03]
        ∧ [none, some .creep, some .cleared, some .timeout, some .stopped].map reasonByte
          = [0x00, 0x01, 0x02, 0x03, 0x04]
        ∧ [.empty, .completed, .resumed, .abandoned, .taken, .parked, .dropped].map outcomeCode
          = [0x00, 0x01, 0x02, 0x03, 0x04, 0x05, 0x06])
  ∧ (∀ (s : State) (k : Nat), (s.peer k).status = .absent → (s.peer k).lastBeacon = none →
        s.peerBytes k = [byte k, 0, 0xFF, 0xFF] ++ List.replicate 10 0 ++ [0xFF, 0xFF]
          ++ List.replicate 5 0 ++ [reasonByte (s.peer k).releaseReason])
  ∧ (∀ (k : Byte) (s : State),
        s.rstLow = false →
        7 < k.toNat →
        exec (.getPeer k) s = .next { s with
          cpn := { s.cpn with
            reply := { status := .refusedParam, code := 0x31, data := [] } } })
  ∧ (∀ (k : Fin 4) (s : State),
        s.rstLow = false →
        exec (.getReport (byte k)) s = .next { s with
          cpn := { s.cpn with
            reply := { status := .ok, code := 0x33, data := s.cpn.ring[k].bytes } } })
  ∧ (∀ r : Report,
        let creep := r.timeToCreep.getD 65535
        r.bytes.length = 15
        ∧ r.bytes = [causeCode r.cause, outcomeCode r.outcome, byte r.pointsCompleted,
            match r.lastStep with | some n => byte n | none => 0xFF,
            byte r.pointsLeft, byte (r.finalSpeed / 256), byte r.finalSpeed, byte (creep / 256),
            byte creep, byte r.drawSettled, byte r.drawWithdrawn, byte r.startAttempts,
            byte (r.levelHoldTotal / 256), byte r.levelHoldTotal, byte r.timesInterrupted])
  ∧ (∀ (k : Byte) (s : State),
        s.rstLow = false →
        3 < k.toNat →
        exec (.getReport k) s = .next { s with
          cpn := { s.cpn with
            reply := { status := .refusedParam, code := 0x33, data := [] } } })

/-- In UNJOINED, parameters whose every field lies in the accepted range replace the whole strand
record with the fields at their offsets, and the freshness of the held samples is judged against
the new stale time. That a sample value which no record has given has no moment, and stays stale
under every stale time, is the model's choice (entry 41). With any field out of range the reply is
REFUSED_PARAM and nothing else changes. RST_N is high throughout. From
10_command_port_notices_and_faults.md, Configuration Loads. -/
def Obligations.load_strand_is_taken_in_range : Prop :=
  ∀ (p : Vector Byte 25) (s : State), s.rstLow = false → s.rsq.state = .unjoined →
    let mass := value16 p[0] p[1]
    let chunk := value16 p[13] p[14]
    let minClaim := value16 p[15] p[16]
    let stale := value16 p[19] p[20]
    let accepted :=
      (20 ≤ mass ∧ mass ≤ 2000) ∧ p[4].toNat ≤ 1 ∧ (5 ≤ p[5].toNat ∧ p[5].toNat ≤ 100)
      ∧ (10 ≤ p[6].toNat ∧ p[6].toNat ≤ 250) ∧ (2 ≤ p[7].toNat ∧ p[7].toNat ≤ 15)
      ∧ (8 ≤ p[8].toNat ∧ p[8].toNat ≤ 96) ∧ value16 p[9] p[10] ≤ 16000
      ∧ (1 ≤ value16 p[11] p[12] ∧ value16 p[11] p[12] ≤ 500) ∧ (10 ≤ chunk ∧ chunk ≤ 16000)
      ∧ (1 ≤ minClaim ∧ minClaim ≤ 1000 ∧ minClaim ≤ chunk) ∧ (50 ≤ stale ∧ stale ≤ 2000)
      ∧ p[21].toNat ≤ 15 ∧ p[22].toNat ≤ 15 ∧ p[23].toNat ≤ 15 ∧ p[24].toNat ≤ 15
    let judged (h : Held) : Held := { h with
      fresh :=
        match h.takenAt with
        | some t => decide (ageAt s.now t < stale)
        | none => false }
    (accepted → exec (.loadStrand p) s = .next { s with
      pst := { s.pst with
        strand :=
          { mass := mass, initialLimit := value16 p[2] p[3],
            limitSource := if p[4] = 0 then .line else .localSource,
            periodCode := p[5].toNat, settleTime := p[6].toNat, lossCount := p[7].toNat,
            deafThreshold := p[8].toNat, soloAllowance := value16 p[9] p[10],
            creepThreshold := value16 p[11] p[12], chunk := chunk, minClaim := minClaim,
            startCode := p[17].toNat, handbackCode := p[18].toNat, staleTime := stale,
            filterTimes := { supplyOk := p[21].toNat, drvReady := p[22].toNat,
                             brkIn := p[23].toNat, dummyIn := p[24].toNat } } },
      spu := { s.spu with feedback := judged s.spu.feedback, level := judged s.spu.level },
      cpn := { s.cpn with
        reply := { status := .ok, code := 0x10, data := [] } } })
    ∧ (¬ accepted → exec (.loadStrand p) s = .next { s with
        cpn := { s.cpn with
          reply := { status := .refusedParam, code := 0x10, data := [] } } })

/-- In UNJOINED, parameters that name a cause and whose fields lie in their ranges replace that
cause's whole entry and leave the other entries. With any refusal of R174 the reply is
REFUSED_PARAM and nothing else changes. RST_N is high throughout. Formalises R174. -/
def Obligations.load_cause_is_taken_in_range : Prop :=
  ∀ (p : Vector Byte 13) (s : State), s.rstLow = false → s.rsq.state = .unjoined →
    let hold := value16 p[3] p[4]
    let accepted :=
      (1 ≤ p[0].toNat ∧ p[0].toNat ≤ 4) ∧ p[1].toNat ≤ 23 ∧ (p[2].toNat ≤ 23 ∨ p[2] = 0xFF)
      ∧ hold ≤ 8000 ∧ (p[0] = 1 ∨ p[0] = 3 → hold = 0) ∧ (p[0] = 3 → p[5] = 0)
      ∧ p[7].toNat ≤ 2 ∧ value16 p[8] p[9] ≤ 4094 ∧ value16 p[10] p[11] ≤ 4094
    (accepted → ∃ (cause : Cause) (p0 : Fin 24) (p1 : Option (Fin 24)) (causes : PerCause CauseEntry),
      causeCode (some cause) = p[0] ∧ p0.val = p[1].toNat
      ∧ (p[2] = 0xFF → p1 = none) ∧ (p[2] ≠ 0xFF → p1.map (·.val) = some p[2].toNat)
      ∧ causes.get cause =
          { p0 := p0, p1 := p1, holdSpeed := hold, freezeCode := p[5].toNat,
            marginCode := p[6].toNat, baseUrgency := p[7].toNat, levelTarget := value16 p[8] p[9],
            bandHalf := value16 p[10] p[11], levelHoldCode := p[12].toNat }
      ∧ (∀ c, c ≠ cause → causes.get c = s.pst.causes.get c)
      ∧ exec (.loadCause p) s = .next { s with
          pst := { s.pst with causes := causes },
          cpn := { s.cpn with
            reply := { status := .ok, code := 0x11, data := [] } } })
    ∧ (¬ accepted → exec (.loadCause p) s = .next { s with
        cpn := { s.cpn with
          reply := { status := .refusedParam, code := 0x11, data := [] } } })

/-- In UNJOINED, parameters with a slice number of at most 23 and eight points, each with a target of
at most 8000, a slew other than 0 and a flag byte of LEVEL_GATE and LAST alone, replace the eight
points of that slice and leave the other slices. Otherwise the reply is REFUSED_PARAM and nothing
else changes. RST_N is high throughout. Formalises R173. -/
def Obligations.load_slice_is_taken_in_range : Prop :=
  ∀ (p : Vector Byte 41) (s : State), s.rstLow = false → s.rsq.state = .unjoined →
    let at' (i : Fin 8) (k : Nat) : Byte := p.toList.getD (1 + 5 * i.val + k) 0
    let accepted := p[0].toNat ≤ 23 ∧ ∀ i : Fin 8,
      value16 (at' i 0) (at' i 1) ≤ 8000 ∧ at' i 2 ≠ 0 ∧ (at' i 4).toNat ≤ 3
    (accepted → ∃ (n : Fin 24) (slices : Vector Slice 24),
      n.val = p[0].toNat
      ∧ (∀ i : Fin 8, slices[n][i] =
          { target := value16 (at' i 0) (at' i 1), slew := (at' i 2).toNat,
            dwell := (at' i 3).toNat, levelGate := (at' i 4).getLsbD 0,
            last := (at' i 4).getLsbD 1 })
      ∧ (∀ m : Fin 24, m ≠ n → slices[m] = s.pst.slices[m])
      ∧ exec (.loadSlice p) s = .next { s with
          pst := { s.pst with slices := slices },
          cpn := { s.cpn with
            reply := { status := .ok, code := 0x12, data := [] } } })
    ∧ (¬ accepted → exec (.loadSlice p) s = .next { s with
        cpn := { s.cpn with
          reply := { status := .refusedParam, code := 0x12, data := [] } } })

/-- In UNJOINED with valid straps, M loaded, each cause's ramp reaching its first LAST at the given
index with a target at or above creep, and each margin code below a freeze code that is not 0:
JOIN replies OK. Time since JOIN starts, the sequencer is PARKED, each ramp length is its index
plus 1, the line is LISTEN with its timers started, its receiver looking for 10 bit times of quiet
and LINE_CHANGED raised, L is L0 with epoch 0 and phase READY, and G is D(F) of a fresh F. Nothing
else changes but the overcommit condition and its capture. That the measured quiet time starts at
0 bit times with no character under way is the model's choice (entry 36). RST_N is high
throughout. From 10_command_port_notices_and_faults.md, Joining the Line;
03_ramps_and_the_profile_store.md, Ramp Assembly; 05_draw_budget_and_draw_claims.md, Reset and
Join; 08_the_restart_line.md, Line States. -/
def Obligations.join_moves_the_station_onto_the_line : Prop :=
  ∀ (s : State) (last : Cause → Nat) (points : Cause → Point),
    s.rstLow = false → s.rsq.state = .unjoined → s.cpn.strapDone = true →
    s.cpn.straps.count ≠ 0 → s.ownStation < s.strandCount → 20 ≤ s.pst.strand.mass →
    (∀ c, s.pst.point (s.pst.causes.get c) (last c) = some (points c)
      ∧ (points c).last = true ∧ s.pst.strand.creepThreshold ≤ (points c).target ∧ last c ≤ 15
      ∧ ∀ j q, j < last c → s.pst.point (s.pst.causes.get c) j = some q → q.last = false) →
    (∀ c, (s.pst.causes.get c).freezeCode ≠ 0 →
      (s.pst.causes.get c).marginCode < (s.pst.causes.get c).freezeCode) →
    ∃ t, exec .join s = .next t
      ∧ t = { s with
              joinedAt := some s.now, rsq := t.rsq, pst := t.pst, dbu := t.dbu,
              lnc := t.lnc, cpn := t.cpn }
      ∧ t.rsq = { s.rsq with state := .parked }
      ∧ t.pst = { s.pst with rampLength := t.pst.rampLength }
      ∧ (∀ c, t.pst.rampLength.get c = last c + 1)
      ∧ t.dbu = { s.dbu with
          granted := if s.isFresh s.spu.feedback then s.drawOf s.spu.feedback.value else s.dbu.granted,
          limit := s.pst.strand.initialLimit, epoch := 0, phase := .ready, learned := false,
          mismatch := false, overcommit := t.overcommitted }
      ∧ t.lnc = { s.lnc with
          line := .listen, listenAt := some (later s.now (2 * (s.pst.strand.periodCode * 10))),
          silenceAt := some (later s.now (3 * (s.pst.strand.periodCode * 10))),
          quiet := some 0, charLeft := 0, synced := false }
      ∧ t.cpn = { s.cpn with
          reply := { status := .ok, code := 0x13, data := [] },
          events := { s.cpn.events with lineChanged := true }, fault := t.cpn.fault }
      ∧ (t.dbu.overcommit = false → t.cpn.fault = s.cpn.fault)

/-- In UNJOINED: invalid straps give check 1; with valid straps, M below 20 gives check 2; then the
first cause in the order DIP, TUNDISH, BREAKOUT, HOLD whose ramp reaches no LAST gives check 3;
with all ramps reaching LAST, the first whose LAST target is below creep gives check 4; then the
first whose margin code is not below its freeze code gives check 5. A station at its reset values,
straps apart, fails check 2; with M alone loaded it fails check 4 for DIP. In every other state
JOIN is refused with REFUSED_STATE. Nothing else changes. RST_N is high throughout. From
10_command_port_notices_and_faults.md, Joining the Line. -/
def Obligations.join_names_the_first_failing_check : Prop :=
  (∀ s : State, s.rstLow = false → s.rsq.state ≠ .unjoined →
    exec .join s = .next { s with
      cpn := { s.cpn with
        reply := { status := .refusedState, code := 0x13, data := [] } } })
  ∧ (∀ s : State, s.rstLow = false → s.rsq.state = .unjoined →
    let refused (check : Byte) (cause : Option Cause) := exec .join s = .next { s with
      cpn := { s.cpn with
        reply := { status := .refusedParam, code := 0x13, data := [check, causeCode cause] } } }
    let straps := s.cpn.strapDone = true ∧ s.cpn.straps.count ≠ 0 ∧ s.ownStation < s.strandCount
    let mass := 20 ≤ s.pst.strand.mass
    let reaches (c : Cause) := ∃ i q, i ≤ 15 ∧ s.pst.point (s.pst.causes.get c) i = some q ∧ q.last = true
    let creeps (c : Cause) := ∃ i q, i ≤ 15 ∧ s.pst.point (s.pst.causes.get c) i = some q ∧ q.last = true
      ∧ (∀ j r, j < i → s.pst.point (s.pst.causes.get c) j = some r → r.last = false)
      ∧ s.pst.strand.creepThreshold ≤ q.target
    let margin (c : Cause) := (s.pst.causes.get c).freezeCode ≠ 0 →
      (s.pst.causes.get c).marginCode < (s.pst.causes.get c).freezeCode
    (¬ straps → refused 1 none)
    ∧ (straps → ¬ mass → refused 2 none)
    ∧ (straps → mass → ∀ before c after, allCauses = before ++ c :: after →
        ((∀ b ∈ before, reaches b) → ¬ reaches c → refused 3 (some c))
        ∧ ((∀ b, reaches b) → (∀ b ∈ before, creeps b) → ¬ creeps c → refused 4 (some c))
        ∧ ((∀ b, creeps b) → (∀ b ∈ before, margin b) → ¬ margin c → refused 5 (some c)))
    ∧ (straps → s.pst = Pst.reset → refused 2 none)
    ∧ (straps → mass → s.pst = { Pst.reset with
          strand := { StrandRecord.reset with
            mass := s.pst.strand.mass } } → refused 4 (some .dip)))

/-- CAST in PARKED: the sequencer is in WATCH, a beacon is asked for, the reply is OK. PARK in WATCH:
the sequencer is in PARKED, in the same way. The urgency is 0 in both. In every state other than
UNJOINED the three LOADs are refused with REFUSED_STATE, and so are CAST in every state other than
PARKED and PARK in every state other than WATCH, STOPPED and ABANDONED; then nothing else changes.
RST_N is high throughout. From 03_ramps_and_the_profile_store.md, The Profile Store;
01_restart_sequencer.md, Host Commands to the Sequencer. -/
def Obligations.loads_and_cast_need_their_state : Prop :=
  (∀ (s : State),
        s.rstLow = false →
        s.rsq.state = .parked →
        exec .cast s = .next { s with
          rsq := { s.rsq with state := .watch, urgency := 0 }, lnc := s.lnc.requestBeacon,
          cpn := { s.cpn with
            reply := { status := .ok, code := 0x20, data := [] } } })
  ∧ (∀ (s : State),
        s.rstLow = false →
        s.rsq.state ≠ .parked →
        exec .cast s = .next { s with
          cpn := { s.cpn with
            reply := { status := .refusedState, code := 0x20, data := [] } } })
  ∧ (∀ (s : State),
        s.rstLow = false →
        s.rsq.state = .watch →
        exec .park s = .next { s with
          rsq := { s.rsq with state := .parked, urgency := 0 }, lnc := s.lnc.requestBeacon,
          cpn := { s.cpn with
            reply := { status := .ok, code := 0x21, data := [] } } })
  ∧ (∀ (p : Vector Byte 25) (s : State),
        s.rstLow = false →
        s.rsq.state ≠ .unjoined →
        exec (.loadStrand p) s = .next { s with
          cpn := { s.cpn with
            reply := { status := .refusedState, code := 0x10, data := [] } } })
  ∧ (∀ (p : Vector Byte 13) (s : State),
        s.rstLow = false →
        s.rsq.state ≠ .unjoined →
        exec (.loadCause p) s = .next { s with
          cpn := { s.cpn with
            reply := { status := .refusedState, code := 0x11, data := [] } } })
  ∧ (∀ (p : Vector Byte 41) (s : State),
        s.rstLow = false →
        s.rsq.state ≠ .unjoined →
        exec (.loadSlice p) s = .next { s with
          cpn := { s.cpn with
            reply := { status := .refusedState, code := 0x12, data := [] } } })
  ∧ (∀ (s : State),
        s.rstLow = false →
        s.rsq.state ≠ .watch →
        s.rsq.state ≠ .stopped →
        s.rsq.state ≠ .abandoned →
        exec .park s = .next { s with
          cpn := { s.cpn with
            reply := { status := .refusedState, code := 0x21, data := [] } } })

/-- STOP HOLD or STOP BREAKOUT in WATCH: the sequencer is in STOPPED; RUN_REQ is set exactly if
DRV_READY is asserted; the pending set holds the cause's record with its stop time, deadline and
clear latch, and a DIP record beside it if DRV_READY is deasserted; the counters start afresh; S
is the profile cause's hold speed and G is D of it; the urgency is the one the state calls for;
own claims and tenure end, with their needs, timers and entries: a CLAIM not yet started leaves
the transmit queue, one that has been sent or is being sent gets a WITHDRAW of its number, a
tenure its RELEASE, and every other frame but a CLEAR stays; a reference record, a beacon and
STOP_TAKEN follow. The overcommit condition is evaluated and its rise captured with the excess.
Everything else is unchanged. RST_N is high throughout. From 01_restart_sequencer.md, Stop Events;
01_restart_sequencer.md, The Pending-Cause Set; 01_restart_sequencer.md, Host Commands to the
Sequencer. -/
def Obligations.stop_in_watch_takes_authority : Prop :=
  (∀ (c : Cause) (code : Byte) (s : State),
        s.rstLow = false →
        s.rsq.state = .watch →
        (c = .breakout ∧ code = 0x03) ∨ (c = .hold ∧ code = 0x04) →
        ∃ t, exec (.stop code) s = .next t ∧
      (t = { s with
            rsq := t.rsq, dbu := t.dbu, ssu := t.ssu, pvu := t.pvu, lnc := t.lnc,
            spu := { s.spu with refWaiting := true }, cpn := t.cpn }
      ∧ t.rsq = { s.rsq with
          state := .stopped, runReq := s.drvReady,
          pendingSet := (if s.drvReady then PendingSet.empty else
            { PendingSet.empty with
              dip := some
                { stopTime := s.now,
                  deadline := (durationMs s.pst.causes.dip.freezeCode).map (later s.now),
                  epoch := none, latch := none } }).set c (some
              { stopTime := s.now,
                deadline := (durationMs (s.pst.causes.get c).freezeCode).map (later s.now),
                epoch := none, latch := some false }),
          counters := Counters.start,
          speed := (s.pst.causes.get (if s.drvReady then c else .dip)).holdSpeed,
          urgency := t.computeUrgency }
      ∧ t.dbu = { s.dbu with
          granted := s.drawOf t.rsq.speed, claim := .none, need := t.dbu.need,
          settleAt := t.dbu.settleAt, overcommit := t.overcommitted }
      ∧ OwnClaimsGone s t ∧ t.ssu.attempts = 0
      ∧ t.lnc = { s.lnc.requestBeacon with queue := t.lnc.queue }
      ∧ t.cpn = { s.cpn with
          reply := { status := .ok, code := 0x22, data := [] },
          events := { s.cpn.events with stopTaken := true }, fault := t.cpn.fault }
      ∧ OvercommitAlone s t))

/-- The pushed context holds the cause, step, S, dwell, level-hold time, carried deadline, base
urgency and counters. A full stack drops its bottom context first, with a DROPPED report and
STACK_DROP. Then the cause NONE, step 0, dwell 0 and fresh counters stand, the new cause is alone
in the pending set, S is its hold speed and G is D of it, RUN_REQ is unchanged, own claims and
tenure end, their CLAIMs leaving the transmit queue or being withdrawn, a reference record and a
beacon are asked for, and STOP_TAKEN is raised. With room on the stack nothing else changes but
the overcommit condition and its capture. RST_N is high throughout. From 01_restart_sequencer.md,
Stop Events; 04_restart_contexts_and_reports.md, The Context Stack. -/
def Obligations.stop_in_ramping_pushes_the_restart : Prop :=
  (∀ (c : Cause) (code : Byte) (s : State),
        s.rstLow = false →
        s.rsq.state = .ramping →
        s.rsq.pendingSet = PendingSet.empty →
        s.rsq.stack.length ≤ 3 →
        (c = .breakout ∧ code = 0x03) ∨ (c = .hold ∧ code = 0x04) →
        ∃ t, exec (.stop code) s = .next t ∧
      (t = { s with
            rsq := t.rsq, dbu := t.dbu, ssu := t.ssu, pvu := t.pvu, lnc := t.lnc,
            spu := { s.spu with refWaiting := true }, cpn := t.cpn }
      ∧ t.rsq = { s.rsq with
          state := .stopped,
          stack :=
            { cause := s.rsq.currentCause, step := s.rsq.step, resumeSpeed := s.rsq.speed,
              dwell := s.rsq.dwell, levelHoldTime := s.rsq.levelHoldTime,
              unmetDeadline := s.rsq.carried, baseUrgency := s.rsq.baseUrgency,
              counters := s.rsq.counters } :: s.rsq.stack.take 2,
          currentCause := none, step := 0, dwell := 0, levelHoldTime := 0, levelHold := false,
          carried := none, counters := Counters.start,
          pendingSet := PendingSet.empty.set c (some
            { stopTime := s.now,
              deadline := (durationMs (s.pst.causes.get c).freezeCode).map (later s.now),
              epoch := none, latch := some false }),
          speed := (s.pst.causes.get c).holdSpeed,
          urgency := t.computeUrgency }
      ∧ t.dbu.granted = s.drawOf t.rsq.speed
      ∧ t.dbu = { s.dbu with
          granted := t.dbu.granted, claim := .none, need := t.dbu.need,
          settleAt := t.dbu.settleAt, overcommit := t.overcommitted }
      ∧ OwnClaimsGone s t ∧ t.ssu.attempts = 0
      ∧ t.lnc = { s.lnc.requestBeacon with queue := t.lnc.queue }
      ∧ t.cpn.events.stopTaken = true
      ∧ (∀ bottom, s.rsq.stack.getLast? = some bottom → s.rsq.stack.length = 3 →
          t.cpn.ring[0] = { s.contextReport .dropped bottom with
            outcome := .dropped, finalSpeed := bottom.resumeSpeed }
          ∧ (s.cpn.fault.locked = false → t.cpn.fault.locked = true
            ∧ t.cpn.fault.kind = some .stackDrop ∧ t.cpn.fault.state = .ramping
            ∧ t.cpn.fault.detail = (causeCode bottom.cause).toNat))
      ∧ (s.rsq.stack.length < 3 → OvercommitAlone s t ∧ t.cpn = { s.cpn with
          reply := { status := .ok, code := 0x22, data := [] },
          events := { s.cpn.events with stopTaken := true }, fault := t.cpn.fault })))

/-- In STOPPED and QUEUED a cause without a record gets one, and a cause with a record has its latch
cleared and keeps its stop time and deadline; S and G go to the profile cause's hold speed. In
HANDBACK the handback timer stops, the cause NONE, step 0 and fresh counters stand, and the cause
is alone in the pending set. RUN_REQ is unchanged in both and the sequencer is in STOPPED. Own
claims and tenure end, their CLAIMs leaving the transmit queue or being withdrawn, and nothing
else changes but STOP_TAKEN, a reference record, a beacon, and the overcommit condition with its
capture. In UNJOINED, PARKED and ABANDONED the reply is REFUSED_STATE, and with another cause code
in an accepting state REFUSED_PARAM; then nothing else changes. RST_N is high throughout. From
01_restart_sequencer.md, Stop Events; 01_restart_sequencer.md, The Pending-Cause Set;
01_restart_sequencer.md, Host Commands to the Sequencer. -/
def Obligations.stop_merges_and_needs_its_state : Prop :=
  (∀ (c : Cause) (code : Byte) (s : State),
        s.rstLow = false →
        s.rsq.state = .stopped ∨ s.rsq.state = .queued →
        (c = .breakout ∧ code = 0x03) ∨ (c = .hold ∧ code = 0x04) →
        ∃ t, exec (.stop code) s = .next t ∧
      (t = { s with
            rsq := t.rsq, dbu := t.dbu, ssu := t.ssu, pvu := t.pvu, lnc := t.lnc,
            spu := { s.spu with refWaiting := true }, cpn := t.cpn }
      ∧ t.rsq = { s.rsq with
          state := .stopped,
          pendingSet := s.rsq.pendingSet.set c (some (match s.rsq.pendingSet.get c with
            | some r => { r with latch := some false }
            | none =>
              { stopTime := s.now,
                deadline := (durationMs (s.pst.causes.get c).freezeCode).map (later s.now),
                epoch := none, latch := some false })),
          speed := (s.entryOf t.rsq.pendingSet.profile).holdSpeed,
          urgency := t.computeUrgency }
      ∧ t.dbu = { s.dbu with
          granted := s.drawOf t.rsq.speed, claim := .none, need := t.dbu.need,
          settleAt := t.dbu.settleAt, overcommit := t.overcommitted }
      ∧ OwnClaimsGone s t ∧ t.ssu.attempts = 0
      ∧ t.lnc = { s.lnc with queue := t.lnc.queue, beacon := t.lnc.beacon }
      ∧ OvercommitAlone s t ∧ t.cpn = { s.cpn with
          reply := { status := .ok, code := 0x22, data := [] },
          events := { s.cpn.events with stopTaken := true }, fault := t.cpn.fault }))
  ∧ (∀ (c : Cause) (code : Byte) (s : State),
        s.rstLow = false →
        s.rsq.state = .handback →
        (c = .breakout ∧ code = 0x03) ∨ (c = .hold ∧ code = 0x04) →
        ∃ t, exec (.stop code) s = .next t ∧
      (t = { s with
            rsq := t.rsq, dbu := t.dbu, ssu := t.ssu, pvu := t.pvu, lnc := t.lnc,
            spu := { s.spu with refWaiting := true }, cpn := t.cpn }
      ∧ t.rsq = { s.rsq with
          state := .stopped, handbackAt := none, currentCause := none, step := 0, dwell := 0,
          levelHoldTime := 0, counters := Counters.start,
          pendingSet := PendingSet.empty.set c (some
            { stopTime := s.now,
              deadline := (durationMs (s.pst.causes.get c).freezeCode).map (later s.now),
              epoch := none, latch := some false }),
          speed := (s.pst.causes.get c).holdSpeed,
          urgency := t.computeUrgency }
      ∧ t.dbu = { s.dbu with
          granted := s.drawOf t.rsq.speed, claim := .none, need := t.dbu.need,
          settleAt := t.dbu.settleAt, overcommit := t.overcommitted }
      ∧ OwnClaimsGone s t ∧ t.ssu.attempts = 0
      ∧ t.lnc = { s.lnc.requestBeacon with queue := t.lnc.queue }
      ∧ OvercommitAlone s t ∧ t.cpn = { s.cpn with
          reply := { status := .ok, code := 0x22, data := [] },
          events := { s.cpn.events with stopTaken := true }, fault := t.cpn.fault }))
  ∧ (∀ (code : Byte) (s : State),
        s.rstLow = false →
        s.rsq.state = .unjoined ∨ s.rsq.state = .parked ∨ s.rsq.state = .abandoned →
        exec (.stop code) s = .next { s with
          cpn := { s.cpn with
            reply := { status := .refusedState, code := 0x22, data := [] } } })
  ∧ (∀ (code : Byte) (s : State),
        s.rstLow = false →
        s.rsq.state ≠ .unjoined →
        s.rsq.state ≠ .parked →
        s.rsq.state ≠ .abandoned →
        code ≠ 0x03 →
        code ≠ 0x04 →
        exec (.stop code) s = .next { s with
          cpn := { s.cpn with
            reply := { status := .refusedParam, code := 0x22, data := [] } } })

/-- In STOPPED or QUEUED with a HOLD or BREAKOUT record pending, RELEASE replies OK and sets each such
latch. If a precondition is still not met in STOPPED, or all are met in QUEUED, nothing else
changes. If all are met in STOPPED, the sequencer leaves for QUEUED, with a start request standing
or the slot taken where RUN_REQ was clear, or goes straight on to RAMPING; on an ACTIVE line, with
no tenure and no own claim, the request at once forms the START claim under the next number,
listed SENT with its CLAIM queued; S, the stack and the peers' entries are unchanged. A
precondition not met in QUEUED, which no run reaches, returns the sequencer to STOPPED with no
STOP_TAKEN, its own claims and tenure ended and their CLAIMs out of the transmit queue or
withdrawn. In every other case RELEASE is refused with REFUSED_STATE and nothing else changes.
RST_N is high throughout. From 01_restart_sequencer.md, Host Commands to the Sequencer;
01_restart_sequencer.md, STOPPED and QUEUED. -/
def Obligations.release_sets_the_latches : Prop :=
  (∀ (s : State),
        s.rstLow = false →
        s.rsq.state = .stopped →
        s.rsq.pendingSet.hold.isSome = true ∨ s.rsq.pendingSet.breakout.isSome = true →
        s.afterRelease.allMet = false →
        exec .release s = .next { s.afterRelease with
          cpn := { s.cpn with
            reply := { status := .ok, code := 0x23, data := [] } } })
  ∧ (∀ (s : State),
        s.rstLow = false →
        s.rsq.state = .stopped →
        s.rsq.pendingSet.hold.isSome = true ∨ s.rsq.pendingSet.breakout.isSome = true →
        s.afterRelease.allMet = true →
        ∃ t, exec .release s = .next t ∧
      (t = { s with rsq := t.rsq, dbu := t.dbu, ssu := t.ssu, pvu := t.pvu, lnc := t.lnc, cpn := t.cpn }
      ∧ (t.rsq.state = .queued ∧ t.rsq.pendingSet = s.afterRelease.rsq.pendingSet
          ∧ (s.rsq.runReq = false → t.rsq.runReq = false → t.ssu.request = true)
        ∨ t.rsq.state = .ramping ∧ t.rsq.pendingSet = PendingSet.empty ∧ t.rsq.step = 0
          ∧ t.rsq.currentCause = s.rsq.pendingSet.profile ∧ t.driveRunning = true
          ∧ t.cpn.events.rampStarted = true)
      ∧ t.rsq.speed = s.rsq.speed ∧ t.rsq.stack = s.rsq.stack ∧ t.pvu.peers = s.pvu.peers
      ∧ t.cpn.ring = s.cpn.ring ∧ t.cpn.reply = { status := .ok, code := 0x23, data := [] }
      ∧ (s.lnc.line.allowsBeacon = true → t.lnc.beacon ≠ .empty) ∧ QueuedWithClaim s t))
  ∧ (∀ (s : State),
        s.rstLow = false →
        s.rsq.state = .queued →
        s.rsq.pendingSet.hold.isSome = true ∨ s.rsq.pendingSet.breakout.isSome = true →
        s.afterRelease.allMet = true →
        exec .release s = .next { s.afterRelease with
          cpn := { s.cpn with
            reply := { status := .ok, code := 0x23, data := [] } } })
  ∧ (∀ (s : State),
        s.rstLow = false →
        s.rsq.state = .queued →
        s.rsq.pendingSet.hold.isSome = true ∨ s.rsq.pendingSet.breakout.isSome = true →
        s.afterRelease.allMet = false →
        ∃ t, exec .release s = .next t ∧
      (t = { s with rsq := t.rsq, dbu := t.dbu, ssu := t.ssu, pvu := t.pvu, lnc := t.lnc, cpn := t.cpn }
      ∧ t.rsq = { s.afterRelease.rsq with state := .stopped, urgency := t.computeUrgency }
      ∧ t.dbu = { s.dbu with claim := .none, need := t.dbu.need, settleAt := t.dbu.settleAt }
      ∧ OwnClaimsGone s t ∧ t.ssu.attempts = s.ssu.attempts
      ∧ t.lnc = { s.lnc.requestBeacon with queue := t.lnc.queue }
      ∧ t.cpn = { s.cpn with reply := { status := .ok, code := 0x23, data := [] } }))
  ∧ (∀ (s : State),
        s.rstLow = false →
        ¬ ((s.rsq.state = .stopped ∨ s.rsq.state = .queued) ∧ (s.rsq.pendingSet.hold.isSome = true ∨ s.rsq.pendingSet.breakout.isSome = true)) →
        exec .release s = .next { s with
          cpn := { s.cpn with
            reply := { status := .refusedState, code := 0x23, data := [] } } })

/-- TAKE in STOPPED, QUEUED or RAMPING writes a TAKEN report for the restart and then for each context
and leads to WATCH; in HANDBACK it leads to WATCH and in ABANDONED to PARKED, without a report.
PARK in STOPPED writes PARKED reports and leads to PARKED; in ABANDONED it leads there without
one. In each case S is 0, RUN_REQ clear, the pending set and stack empty, the cause NONE, the
deadlines and the handback timer gone, the urgency 0, G is D(F) of a fresh F, the overcommit
condition then evaluated and its rise captured, and a reference record and a beacon are asked for.
A CLAIM of an own claim that has not started leaves the transmit queue, one sent or being sent
gets a WITHDRAW of its number, a tenure its RELEASE, and every other frame but a CLEAR stays.
Nothing else changes. Elsewhere TAKE is refused with REFUSED_STATE. RST_N is high throughout. From
01_restart_sequencer.md, Sequencer States; 01_restart_sequencer.md, Host Commands to the
Sequencer; 04_restart_contexts_and_reports.md, Clearing the Stack. -/
def Obligations.take_and_park_give_up_authority : Prop :=
  (∀ (s : State),
        s.rstLow = false →
        s.rsq.state = .stopped ∨ s.rsq.state = .queued ∨ s.rsq.state = .ramping →
        ∃ t, exec .take s = .next t ∧
      (t = { s with
            rsq := t.rsq, dbu := t.dbu, ssu := t.ssu, pvu := t.pvu, lnc := t.lnc,
            spu := { s.spu with refWaiting := true }, cpn := t.cpn }
      ∧ t.rsq = { s.rsq with
          state := .watch, pendingSet := PendingSet.empty, currentCause := none, step := 0,
          dwell := 0, levelHoldTime := 0, levelHold := false, speed := 0, stack := [],
          carried := none, counters := Counters.start, handbackAt := none, runReq := false,
          urgency := 0 }
      ∧ t.dbu = { s.dbu with
          granted := if s.isFresh s.spu.feedback then s.drawOf s.spu.feedback.value else s.dbu.granted,
          claim := .none, need := t.dbu.need, settleAt := t.dbu.settleAt,
          overcommit := t.dbu.overcommit }
      ∧ t.dbu.overcommit =
          (if s.isFresh s.spu.feedback then t.overcommitted else s.dbu.overcommit)
      ∧ OwnClaimsGone s t ∧ t.ssu.attempts = 0
      ∧ t.lnc = { s.lnc.requestBeacon with queue := t.lnc.queue }
      ∧ t.cpn = { s.cpn with
          reply := { status := .ok, code := 0x24, data := [] },
          ring := s.ringAfterEnd .taken, events := { s.cpn.events with reportReady := true }, fault := t.cpn.fault }
      ∧ OvercommitAlone s t))
  ∧ (∀ (s : State),
        s.rstLow = false →
        s.rsq.state = .handback →
        ∃ t, exec .take s = .next t ∧
      (t = { s with
            rsq := t.rsq, dbu := t.dbu, ssu := t.ssu, pvu := t.pvu, lnc := t.lnc,
            spu := { s.spu with refWaiting := true }, cpn := t.cpn }
      ∧ t.rsq = { s.rsq with
          state := .watch, pendingSet := PendingSet.empty, currentCause := none, step := 0,
          dwell := 0, levelHoldTime := 0, levelHold := false, speed := 0, stack := [],
          carried := none, counters := Counters.start, handbackAt := none, runReq := false,
          urgency := 0 }
      ∧ t.dbu = { s.dbu with
          granted := if s.isFresh s.spu.feedback then s.drawOf s.spu.feedback.value else s.dbu.granted,
          claim := .none, need := t.dbu.need, settleAt := t.dbu.settleAt,
          overcommit := t.dbu.overcommit }
      ∧ t.dbu.overcommit =
          (if s.isFresh s.spu.feedback then t.overcommitted else s.dbu.overcommit)
      ∧ OwnClaimsGone s t ∧ t.ssu.attempts = 0
      ∧ t.lnc = { s.lnc.requestBeacon with queue := t.lnc.queue }
      ∧ t.cpn = { s.cpn with
          reply := { status := .ok, code := 0x24, data := [] },
          ring := s.cpn.ring, events := s.cpn.events, fault := t.cpn.fault }
      ∧ OvercommitAlone s t))
  ∧ (∀ (s : State),
        s.rstLow = false →
        s.rsq.state = .abandoned →
        ∃ t, exec .take s = .next t ∧
      (t = { s with
            rsq := t.rsq, dbu := t.dbu, ssu := t.ssu, pvu := t.pvu, lnc := t.lnc,
            spu := { s.spu with refWaiting := true }, cpn := t.cpn }
      ∧ t.rsq = { s.rsq with
          state := .parked, pendingSet := PendingSet.empty, currentCause := none, step := 0,
          dwell := 0, levelHoldTime := 0, levelHold := false, speed := 0, stack := [],
          carried := none, counters := Counters.start, handbackAt := none, runReq := false,
          urgency := 0 }
      ∧ t.dbu = { s.dbu with
          granted := if s.isFresh s.spu.feedback then s.drawOf s.spu.feedback.value else s.dbu.granted,
          claim := .none, need := t.dbu.need, settleAt := t.dbu.settleAt,
          overcommit := t.dbu.overcommit }
      ∧ t.dbu.overcommit =
          (if s.isFresh s.spu.feedback then t.overcommitted else s.dbu.overcommit)
      ∧ OwnClaimsGone s t ∧ t.ssu.attempts = 0
      ∧ t.lnc = { s.lnc.requestBeacon with queue := t.lnc.queue }
      ∧ t.cpn = { s.cpn with
          reply := { status := .ok, code := 0x24, data := [] },
          ring := s.cpn.ring, events := s.cpn.events, fault := t.cpn.fault }
      ∧ OvercommitAlone s t))
  ∧ (∀ (s : State),
        s.rstLow = false →
        s.rsq.state = .stopped →
        ∃ t, exec .park s = .next t ∧
      (t = { s with
            rsq := t.rsq, dbu := t.dbu, ssu := t.ssu, pvu := t.pvu, lnc := t.lnc,
            spu := { s.spu with refWaiting := true }, cpn := t.cpn }
      ∧ t.rsq = { s.rsq with
          state := .parked, pendingSet := PendingSet.empty, currentCause := none, step := 0,
          dwell := 0, levelHoldTime := 0, levelHold := false, speed := 0, stack := [],
          carried := none, counters := Counters.start, handbackAt := none, runReq := false,
          urgency := 0 }
      ∧ t.dbu = { s.dbu with
          granted := if s.isFresh s.spu.feedback then s.drawOf s.spu.feedback.value else s.dbu.granted,
          claim := .none, need := t.dbu.need, settleAt := t.dbu.settleAt,
          overcommit := t.dbu.overcommit }
      ∧ t.dbu.overcommit =
          (if s.isFresh s.spu.feedback then t.overcommitted else s.dbu.overcommit)
      ∧ OwnClaimsGone s t ∧ t.ssu.attempts = 0
      ∧ t.lnc = { s.lnc.requestBeacon with queue := t.lnc.queue }
      ∧ t.cpn = { s.cpn with
          reply := { status := .ok, code := 0x21, data := [] },
          ring := s.ringAfterEnd .parked, events := { s.cpn.events with reportReady := true }, fault := t.cpn.fault }
      ∧ OvercommitAlone s t))
  ∧ (∀ (s : State),
        s.rstLow = false →
        s.rsq.state = .abandoned →
        ∃ t, exec .park s = .next t ∧
      (t = { s with
            rsq := t.rsq, dbu := t.dbu, ssu := t.ssu, pvu := t.pvu, lnc := t.lnc,
            spu := { s.spu with refWaiting := true }, cpn := t.cpn }
      ∧ t.rsq = { s.rsq with
          state := .parked, pendingSet := PendingSet.empty, currentCause := none, step := 0,
          dwell := 0, levelHoldTime := 0, levelHold := false, speed := 0, stack := [],
          carried := none, counters := Counters.start, handbackAt := none, runReq := false,
          urgency := 0 }
      ∧ t.dbu = { s.dbu with
          granted := if s.isFresh s.spu.feedback then s.drawOf s.spu.feedback.value else s.dbu.granted,
          claim := .none, need := t.dbu.need, settleAt := t.dbu.settleAt,
          overcommit := t.dbu.overcommit }
      ∧ t.dbu.overcommit =
          (if s.isFresh s.spu.feedback then t.overcommitted else s.dbu.overcommit)
      ∧ OwnClaimsGone s t ∧ t.ssu.attempts = 0
      ∧ t.lnc = { s.lnc.requestBeacon with queue := t.lnc.queue }
      ∧ t.cpn = { s.cpn with
          reply := { status := .ok, code := 0x21, data := [] },
          ring := s.cpn.ring, events := s.cpn.events, fault := t.cpn.fault }
      ∧ OvercommitAlone s t))
  ∧ (∀ (s : State),
        s.rstLow = false →
        s.rsq.state = .unjoined ∨ s.rsq.state = .parked ∨ s.rsq.state = .watch →
        exec .take s = .next { s with
          cpn := { s.cpn with
            reply := { status := .refusedState, code := 0x24, data := [] } } })

/-- With the line ACTIVE, TUNDISH_BEGIN queues an EVENT BEGIN of the epoch plus 1 modulo 256, and with
the phase OPEN as well TUNDISH_READY queues an EVENT READY of the present epoch and the limit
given. The epoch, phase and L do not change. Otherwise the reply is REFUSED_STATE. Nothing else
changes. RST_N is high throughout. From 05_draw_budget_and_draw_claims.md, Line Limit and Tundish
Epoch; 10_command_port_notices_and_faults.md, The Commands. -/
def Obligations.tundish_commands_queue_their_event : Prop :=
  (∀ (s : State),
        s.rstLow = false →
        s.lnc.line = .active →
        exec .tundishBegin s = .next { s with
          lnc := { s.lnc with queue := putFrame (.eventBegin ((s.dbu.epoch + 1) % 256)) s.lnc.queue },
          cpn := { s.cpn with
            reply := { status := .ok, code := 0x28, data := [] } } })
  ∧ (∀ (s : State),
        s.rstLow = false →
        s.lnc.line ≠ .active →
        exec .tundishBegin s = .next { s with
          cpn := { s.cpn with
            reply := { status := .refusedState, code := 0x28, data := [] } } })
  ∧ (∀ (limit : BitVec 16) (s : State),
        s.rstLow = false →
        s.lnc.line = .active →
        s.dbu.phase = .opened →
        exec (.tundishReady limit) s = .next { s with
          lnc := { s.lnc with queue := putFrame (.eventReady s.dbu.epoch limit.toNat) s.lnc.queue },
          cpn := { s.cpn with
            reply := { status := .ok, code := 0x29, data := [] } } })
  ∧ (∀ (limit : BitVec 16) (s : State),
        s.rstLow = false →
        s.lnc.line ≠ .active ∨ s.dbu.phase = .ready →
        exec (.tundishReady limit) s = .next { s with
          cpn := { s.cpn with
            reply := { status := .refusedState, code := 0x29, data := [] } } })

/-- With RST_N low every block holds its reset values: no row other than PIN_RESET changes anything,
SCLK and SDI are ignored, no SPI frame is queued, SDO is high impedance, AUTH is low, ATTN_N high,
STX idle and LTXEN low. PIN_RESET is the release: the state is the reset state with each filtered
value at the level its pin shows, the reply buffer holds POWER_UP, and an SPI frame under way is
ignored. After RESET, taken with RST_N high, it is the same, with the straps, STRAP_DONE, the
strap sampling and the SPI side kept, and the reply RESET. A strap sample that agrees in every pin
with the one before it latches the straps and sets STRAP_DONE; any other is kept for the next, and
once they are latched nothing is sampled. These are the model's choices: waiting commands wait on
(entry 24); the pin levels and the SPI pins come with the row and from the state (entries 7 and
22); PIN_RESET acts whether RST_N was low before it or not (entry 37); how a sample row stands for
a strap sample is entry 18; the soft reset starts the timebase again, which is inferred (entry 6);
the held samples have no moment (entry 41) and the next samples of the inputs fall at the next ms
(entry 9). From 10_command_port_notices_and_faults.md, Resets at the Port;
10_command_port_notices_and_faults.md, Straps; 10_command_port_notices_and_faults.md, Frames and
the Reply Buffer; 09_the_strand_port.md, The Port Through a Reset. -/
def Obligations.resets_return_every_block : Prop :=
  (∀ (s : State) (raw : InputLevels), exec (.pinReset raw) s = .next { State.reset with
        spu := { State.reset.spu with
          inputs :=
            { supplyOk := { raw := raw.supplyOk, filtered := raw.supplyOk, count := 0 },
              drvReady := { raw := raw.drvReady, filtered := raw.drvReady, count := 0 },
              brkIn := { raw := raw.brkIn, filtered := raw.brkIn, count := 0 },
              dummyIn := { raw := raw.dummyIn, filtered := raw.dummyIn, count := 0 } } },
        cpn := { State.reset.cpn with
          spi :=
            { csLow := s.cpn.spi.csLow, ignoring := s.cpn.spi.csLow, bits := [], shifted := 0 },
          strapSampler := { pins := s.cpn.strapSampler.pins, last := none, taken := true } },
        pending := s.pending })
  ∧ (∀ (s : State) (raw : InputLevels), s.rstLow = false →
      exec (.softReset raw) s = .next { State.reset with
        spu := { State.reset.spu with
          inputs :=
            { supplyOk := { raw := raw.supplyOk, filtered := raw.supplyOk, count := 0 },
              drvReady := { raw := raw.drvReady, filtered := raw.drvReady, count := 0 },
              brkIn := { raw := raw.brkIn, filtered := raw.brkIn, count := 0 },
              dummyIn := { raw := raw.dummyIn, filtered := raw.dummyIn, count := 0 } } },
        cpn := { State.reset.cpn with
          spi := s.cpn.spi,
          reply := { status := .reset, code := 0x3F, data := [] },
          straps := s.cpn.straps, strapDone := s.cpn.strapDone, strapSampler := s.cpn.strapSampler },
        pending := s.pending })
  ∧ (∀ (c : Instr) (s : State), s.rstLow = true → (∀ raw, c ≠ .pinReset raw) → exec c s = .next s)
  ∧ (∀ s : State,
      rstFall s = { State.reset with
        rstLow := true,
        spu := { State.reset.spu with
          inputs :=
            { supplyOk := { raw := s.rawLevels.supplyOk, filtered := s.rawLevels.supplyOk, count := 0 },
              drvReady := { raw := s.rawLevels.drvReady, filtered := s.rawLevels.drvReady, count := 0 },
              brkIn := { raw := s.rawLevels.brkIn, filtered := s.rawLevels.brkIn, count := 0 },
              dummyIn := { raw := s.rawLevels.dummyIn, filtered := s.rawLevels.dummyIn, count := 0 } } },
        cpn := { State.reset.cpn with
          spi := { csLow := s.cpn.spi.csLow, ignoring := false, bits := [], shifted := 0 },
          strapSampler := { pins := s.cpn.strapSampler.pins, last := none, taken := true } },
        pending := s.pending }
      ∧ (rstFall s).auth = false ∧ (rstFall s).attnN = true ∧ (rstFall s).stx = true
      ∧ (rstFall s).ltxen = false)
  ∧ (∀ (s : State) (raw : InputLevels) (bits : List Bool), s.rstLow = true →
      s.sdo = none ∧ clockIn bits s = s ∧ (csFall s).pending = s.pending
      ∧ (csRise raw s).pending = s.pending)
  ∧ (State.reset.cpn.reply.bytes = [0x06, 0x00, 0x00, 0xFA]
      ∧ ({ status := .reset, code := 0x3F, data := [] } : Reply).bytes = [0x07, 0x3F, 0x00, 0xBA])
  ∧ (∀ (pins : StrapPins) (s : State),
        s.rstLow = false →
        exec (.strapLatched pins) s = .next (if s.cpn.strapDone then s
        else if s.cpn.strapSampler.last = some pins then { s with
          cpn := { s.cpn with
            straps := pins, strapDone := true,
            strapSampler := { pins := pins, last := some pins, taken := true } } }
        else { s with
          cpn := { s.cpn with
            strapSampler := { pins := pins, last := some pins, taken := true } } }))

/-- For a frame of one or more bytes: fewer than 3, or fewer than 3 + n with n its second byte, give
BAD_LENGTH; then a sum of the first 3 + n bytes other than 0 gives BAD_CHECK; then a code that is
none of the twenty gives UNKNOWN; then a length other than the command's gives BAD_LENGTH. The
reply carries the first byte and no data, and nothing else changes. A frame without a complete
byte changes nothing. RST_N is high throughout. From 10_command_port_notices_and_faults.md, The
Command Record; 10_command_port_notices_and_faults.md, Frames and the Reply Buffer. -/
def Obligations.rejected_records_name_their_check : Prop :=
  (∀ (s : State) (code : Byte) (rest : List Byte), s.rstLow = false →
        let n := (rest.headD 0).toNat
        let short := rest.length < 2 ∨ rest.length < n + 2
        let badSum := byteSum ((code :: rest).take (3 + n)) ≠ 0
        let known := code ∈ ([0x01, 0x02, 0x10, 0x11, 0x12, 0x13, 0x20, 0x21, 0x22, 0x23, 0x24, 0x28, 0x29,
          0x30, 0x31, 0x32, 0x33, 0x34, 0x35, 0x3F] : List Byte)
        let wrongLength := paramLength code ≠ some n
        let rejected (status : Status) :=
          exec (.commandRecordRejected (code :: rest)) s = .next { s with
            cpn := { s.cpn with
              reply := { status := status, code := code, data := [] } } }
          ∧ ∀ raw, commandOfFrame raw (code :: rest) = .commandRecordRejected (code :: rest)
        (short → rejected .badLength)
        ∧ (¬ short → badSum → rejected .badCheck)
        ∧ (¬ short → ¬ badSum → ¬ known → rejected .unknown)
        ∧ (¬ short → ¬ badSum → known → wrongLength → rejected .badLength))
  ∧ (∀ (s : State),
        s.rstLow = false →
        exec .emptyFrame s = .next s)

/-- An input sample acts on the four inputs one after another: each either accepts its change as an
edge, or sets its raw level and its count, which is 0 where the level agrees and otherwise 1
higher. That SUPPLY_OK, DRV_READY, BRK_IN and DUMMY_IN are taken in this order, and that the ms is
marked as sampled, are the model's choices (entry 9). Samples at the stale time go stale together;
under AUTH with the mark clear FIELD_STALE is captured with the held F as its detail and the mark
is set, and otherwise nothing is captured. A waiting reference record starts on an idle link with
the fields as they stand, S as 0 without AUTH; at its end the sequence number advances modulo 256.
That the row of its end acts at whichever of the record's bits it is delivered is the model's
choice (entry 33). Nothing else changes. RST_N is high throughout. From 09_the_strand_port.md,
Discrete Inputs; 09_the_strand_port.md, Sample Records; 09_the_strand_port.md, Reference Records. -/
def Obligations.strand_port_samples_and_records : Prop :=
  (∀ (raw : InputLevels) (s : State),
        s.rstLow = false →
        (∀ i, ¬ Accepts s i (inputGet raw i)) →
        ∃ t, exec (.inputFilterSample raw) s = .next t ∧
      (t = { s with spu := { s.spu with sampled := true, inputs := t.spu.inputs } }
      ∧ ∀ i, inputGet t.spu.inputs i =
          { raw := inputGet raw i, filtered := s.filtered i,
            count := if inputGet raw i = s.filtered i then 0
              else (inputGet s.spu.inputs i).count + 1 }))
  ∧ (∀ (raw : InputLevels) (s : State), s.rstLow = false → ∃ u v w t : State,
        OneSampled .supplyOk raw.supplyOk { s with spu := { s.spu with sampled := true } } u
        ∧ OneSampled .drvReady raw.drvReady u v ∧ OneSampled .brkIn raw.brkIn v w
        ∧ OneSampled .dummyIn raw.dummyIn w t
        ∧ exec (.inputFilterSample raw) s = .next t)
  ∧ (∀ (a : Moment) (s : State),
        s.rstLow = false →
        s.spu.feedback.fresh = true →
        s.spu.feedback.takenAt = some a →
        s.pst.strand.staleTime ≤ ageAt s.now a →
        s.auth = true →
        s.spu.staleMark = false →
        exec .samplesGoStale s = .next { s with
          spu := { s.spu with
            feedback := { s.spu.feedback with fresh := false },
            level := { s.spu.level with fresh := false }, staleMark := true },
          cpn := { s.cpn with fault := s.captured .fieldStale s.spu.feedback.value } })
  ∧ (∀ (a : Moment) (s : State),
        s.rstLow = false →
        s.spu.feedback.fresh = true →
        s.spu.feedback.takenAt = some a →
        s.pst.strand.staleTime ≤ ageAt s.now a →
        s.auth = false ∨ s.spu.staleMark = true →
        exec .samplesGoStale s = .next { s with
          spu := { s.spu with
            feedback := { s.spu.feedback with fresh := false },
            level := { s.spu.level with fresh := false } } })
  ∧ (∀ (s : State),
        s.rstLow = false →
        s.spu.refWaiting = true →
        s.spu.refTx = none →
        exec .referenceRecordStart s = .next { s with
          spu := { s.spu with
            refWaiting := false,
            refTx := some { sequence := s.spu.refSequence, speed := if s.auth then s.rsq.speed else 0,
                            auth := s.auth, runReq := s.rsq.runReq, flowClose := s.flowClose,
                            startedAt := s.now, startedMicros := s.micros } } })
  ∧ (∀ (r : ReferenceRecord) (s : State),
        s.rstLow = false →
        s.spu.refTx = some r →
        exec .referenceRecordEnd s = .next { s with
          spu := { s.spu with
            refTx := none, refSequence := (s.spu.refSequence + 1) % 256 } })

/-- A row whose sample accepts the change sets raw and filtered value and clears the count; one that
does not changes nothing. That the row is the accepting sample of one input alone is the model's
choice (entry 9). A SUPPLY_OK fall is a DIP stop and a BRK_IN rise a BREAKOUT stop: authority from
WATCH, with RUN_REQ from DRV_READY for BREAKOUT and clear for DIP; the cause merged in STOPPED and
QUEUED; the restart pushed in RAMPING; a new restart in HANDBACK. Each ends the own claims and the
tenure: a CLAIM not yet started leaves the transmit queue, one sent or being sent gets a WITHDRAW
of its number, a tenure its RELEASE, and every other frame but a CLEAR stays. A DRV_READY fall
with RUN_REQ set and SUPPLY_OK asserted leaves DIP pending, and QUEUED with a start request if all
preconditions are met, which on an ACTIVE line forms the START claim at once; on a DEAF or BARRED
line at urgency 3 the slot is then taken. A DRV_READY rise in QUEUED with RUN_REQ set ends the
start request and the START claim. A SUPPLY_OK rise and both DUMMY_IN edges evaluate the
preconditions: STOPPED leaves for QUEUED or RAMPING when all are met, and with RUN_REQ clear on an
ACTIVE line without a tenure or an own claim the START claim is formed under the next number,
listed SENT with its CLAIM queued; QUEUED returns to STOPPED without STOP_TAKEN when one is not.
Every other edge changes nothing more. RST_N is high throughout. From 09_the_strand_port.md,
Discrete Inputs; 01_restart_sequencer.md, Stop Events; 01_restart_sequencer.md, STOPPED and
QUEUED; 01_restart_sequencer.md, The Pending-Cause Set; 01_restart_sequencer.md, Strand Outputs;
04_restart_contexts_and_reports.md, The Context Stack; 06_the_start_slot.md, CLEAR. -/
def Obligations.input_edges_reach_their_blocks : Prop :=
  (∀ (i : Input) (raw : Bool) (s : State),
        s.rstLow = false →
        Accepts s i raw →
        ∃ t, exec (.inputEdgeAccepted ⟨i, raw⟩) s = .next t ∧
      (t = { s with
            rsq := t.rsq, dbu := t.dbu, ssu := t.ssu, pvu := t.pvu, lnc := t.lnc, cpn := t.cpn,
            spu := { s.spu with
                     refWaiting := t.spu.refWaiting,
                     inputs := inputSet s.spu.inputs i { raw := raw, filtered := raw, count := 0 } } }
      ∧ t.pvu.peers = s.pvu.peers ∧ t.peerEntries = s.peerEntries
      ∧ t.cpn.reply = s.cpn.reply ∧ t.cpn.spi = s.cpn.spi ∧ t.cpn.straps = s.cpn.straps))
  ∧ (∀ (i : Input) (raw : Bool) (s : State),
        s.rstLow = false →
        ¬ Accepts s i raw →
        exec (.inputEdgeAccepted ⟨i, raw⟩) s = .next s)
  ∧ (∀ (i : Input) (raw : Bool) (c : Cause) (s : State),
        s.rstLow = false →
        s.rsq.state = .watch →
        Accepts s i raw →
        ((i = .supplyOk ∧ raw = false ∧ c = .dip) ∨ (i = .brkIn ∧ raw = true ∧ c = .breakout)) →
        ∃ t, exec (.inputEdgeAccepted ⟨i, raw⟩) s = .next t ∧
      (t.rsq.state = .stopped ∧ t.rsq.runReq = (s.drvReady && decide (c ≠ .dip))
      ∧ t.rsq.pendingSet = (if s.drvReady then PendingSet.empty else
          { PendingSet.empty with
            dip := some
              { stopTime := s.now,
                deadline := (durationMs s.pst.causes.dip.freezeCode).map (later s.now),
                epoch := none, latch := none } }).set c (some
            { stopTime := s.now,
              deadline := (durationMs (s.pst.causes.get c).freezeCode).map (later s.now),
              epoch := none, latch := if c = .dip then none else some false })
      ∧ t.rsq.speed = (s.entryOf t.rsq.pendingSet.profile).holdSpeed
      ∧ t.rsq.counters = Counters.start ∧ t.rsq.stack = s.rsq.stack
      ∧ t.dbu = { s.dbu with
          granted := s.drawOf t.rsq.speed, claim := .none, need := t.dbu.need,
          settleAt := t.dbu.settleAt, overcommit := t.overcommitted }
      ∧ OwnClaimsGone s t ∧ t.ssu.attempts = 0
      ∧ t.lnc = { s.lnc.requestBeacon with queue := t.lnc.queue } ∧ OvercommitAlone s t
      ∧ t.cpn = { s.cpn with
          events := { s.cpn.events with stopTaken := true }, fault := t.cpn.fault }))
  ∧ (∀ (i : Input) (raw : Bool) (c : Cause) (s : State),
        s.rstLow = false →
        s.rsq.state = .stopped ∨ s.rsq.state = .queued →
        Accepts s i raw →
        ((i = .supplyOk ∧ raw = false ∧ c = .dip) ∨ (i = .brkIn ∧ raw = true ∧ c = .breakout)) →
        ∃ t, exec (.inputEdgeAccepted ⟨i, raw⟩) s = .next t ∧
      (t = { s.withInput i raw with
        rsq := t.rsq, dbu := t.dbu, ssu := t.ssu, pvu := t.pvu, lnc := t.lnc, cpn := t.cpn,
        spu := { (s.withInput i raw).spu with refWaiting := true } }
      ∧ t.rsq = { s.rsq with
          state := .stopped, runReq := s.rsq.runReq && decide (c ≠ .dip),
          pendingSet := s.rsq.pendingSet.set c (some (match s.rsq.pendingSet.get c with
            | some r => { r with latch := if c = .dip then r.latch else some false }
            | none =>
              {
                stopTime := s.now,
                deadline := (durationMs (s.pst.causes.get c).freezeCode).map (later s.now),
                epoch := none, latch := if c = .dip then none else some false })),
          speed := (s.entryOf t.rsq.pendingSet.profile).holdSpeed,
          urgency := t.computeUrgency }
      ∧ t.dbu = { s.dbu with
          granted := s.drawOf t.rsq.speed, claim := .none, need := t.dbu.need,
          settleAt := t.dbu.settleAt, overcommit := t.overcommitted }
      ∧ OwnClaimsGone s t ∧ t.ssu.attempts = 0 ∧ OvercommitAlone s t
      ∧ t.lnc = { s.lnc with queue := t.lnc.queue, beacon := t.lnc.beacon }
      ∧ t.cpn = { s.cpn with
          events := { s.cpn.events with stopTaken := true }, fault := t.cpn.fault }))
  ∧ (∀ (i : Input) (raw : Bool) (c : Cause) (s : State),
        s.rstLow = false →
        s.rsq.state = .ramping →
        s.rsq.pendingSet = PendingSet.empty →
        s.rsq.stack.length ≤ 3 →
        Accepts s i raw →
        ((i = .supplyOk ∧ raw = false ∧ c = .dip) ∨ (i = .brkIn ∧ raw = true ∧ c = .breakout)) →
        ∃ t, exec (.inputEdgeAccepted ⟨i, raw⟩) s = .next t ∧
      (t = { s.withInput i raw with
        rsq := t.rsq, dbu := t.dbu, ssu := t.ssu, pvu := t.pvu, lnc := t.lnc, cpn := t.cpn,
        spu := { (s.withInput i raw).spu with refWaiting := true } }
      ∧ t.rsq = { s.rsq with
          state := .stopped, runReq := s.rsq.runReq && decide (c ≠ .dip),
          stack :=
            { cause := s.rsq.currentCause, step := s.rsq.step, resumeSpeed := s.rsq.speed,
              dwell := s.rsq.dwell, levelHoldTime := s.rsq.levelHoldTime,
              unmetDeadline := s.rsq.carried, baseUrgency := s.rsq.baseUrgency,
              counters := s.rsq.counters } :: s.rsq.stack.take 2,
          currentCause := none, step := 0, dwell := 0, levelHoldTime := 0, levelHold := false,
          carried := none, counters := Counters.start,
          pendingSet := PendingSet.empty.set c (some
            { stopTime := s.now,
              deadline := (durationMs (s.pst.causes.get c).freezeCode).map (later s.now),
              epoch := none, latch := if c = .dip then none else some false }),
          speed := (s.pst.causes.get c).holdSpeed,
          urgency := t.computeUrgency }
      ∧ t.dbu = { s.dbu with
          granted := s.drawOf t.rsq.speed, claim := .none, need := t.dbu.need,
          settleAt := t.dbu.settleAt, overcommit := t.overcommitted }
      ∧ OwnClaimsGone s t ∧ t.ssu.attempts = 0
      ∧ t.lnc = { s.lnc.requestBeacon with queue := t.lnc.queue } ∧ t.cpn.events.stopTaken = true
      ∧ (s.rsq.stack.length < 3 → OvercommitAlone s t ∧ t.cpn = { s.cpn with
          events := { s.cpn.events with stopTaken := true }, fault := t.cpn.fault })))
  ∧ (∀ (i : Input) (raw : Bool) (c : Cause) (s : State),
        s.rstLow = false →
        s.rsq.state = .handback →
        Accepts s i raw →
        ((i = .supplyOk ∧ raw = false ∧ c = .dip) ∨ (i = .brkIn ∧ raw = true ∧ c = .breakout)) →
        ∃ t, exec (.inputEdgeAccepted ⟨i, raw⟩) s = .next t ∧
      (t = { s.withInput i raw with
        rsq := t.rsq, dbu := t.dbu, ssu := t.ssu, pvu := t.pvu, lnc := t.lnc, cpn := t.cpn,
        spu := { (s.withInput i raw).spu with refWaiting := true } }
      ∧ t.rsq = { s.rsq with
          state := .stopped, runReq := s.rsq.runReq && decide (c ≠ .dip), handbackAt := none,
          currentCause := none, step := 0, dwell := 0, levelHoldTime := 0, counters := Counters.start,
          pendingSet := PendingSet.empty.set c (some
            { stopTime := s.now,
              deadline := (durationMs (s.pst.causes.get c).freezeCode).map (later s.now),
              epoch := none, latch := if c = .dip then none else some false }),
          speed := (s.pst.causes.get c).holdSpeed,
          urgency := t.computeUrgency }
      ∧ t.dbu = { s.dbu with
          granted := s.drawOf t.rsq.speed, claim := .none, need := t.dbu.need,
          settleAt := t.dbu.settleAt, overcommit := t.overcommitted }
      ∧ OwnClaimsGone s t ∧ t.ssu.attempts = 0 ∧ OvercommitAlone s t
      ∧ t.lnc = { s.lnc with queue := t.lnc.queue, beacon := t.lnc.beacon }
      ∧ t.cpn = { s.cpn with
          events := { s.cpn.events with stopTaken := true }, fault := t.cpn.fault }))
  ∧ (∀ (s : State),
        s.rstLow = false →
        s.rsq.state = .stopped ∨ s.rsq.state = .queued ∨ s.rsq.state = .ramping ∨ s.rsq.state = .handback →
        Accepts s .drvReady false →
        s.rsq.runReq = true →
        s.filtered .supplyOk = true →
        s.rsq.stack.length ≤ 3 →
        ∃ t, exec (.inputEdgeAccepted ⟨.drvReady, false⟩) s = .next t ∧
      (let new : PendingRecord :=
        { stopTime := s.now,
          deadline := (durationMs s.pst.causes.dip.freezeCode).map (later s.now),
          epoch := none, latch := none }
      let takes := t.rsq.state = .queued ∧ (s.lnc.line = .deaf ∨ s.lnc.line = .barred)
        ∧ t.rsq.urgency = 3
      t.rsq.pendingSet = (if s.rsq.state = .handback then PendingSet.empty.set .dip (some new)
        else { s.rsq.pendingSet with dip := some (s.rsq.pendingSet.dip.getD new) })
      ∧ t.rsq.state = (if t.allMet then .queued else .stopped)
      ∧ t.ssu.request = t.allMet ∧ t.rsq.runReq = decide takes ∧ t.ssu.tenure = decide takes
      ∧ (takes → t.ssu.holder = some s.ownStation ∧ t.ssu.attempts = 1)
      ∧ (if t.rsq.state = .queued ∧ s.lnc.line = .active then StartFormed s t s.claimsWithoutOwn
            (s.releaseQueued .stopped (s.claimsWithdrawn s.lnc.queue))
        else t.ssu.claim = .none ∧ t.pvu.claims = s.claimsWithoutOwn
          ∧ t.lnc.queue = s.releaseQueued .stopped (s.claimsWithdrawn s.lnc.queue))
      ∧ t.rsq.urgency = t.computeUrgency ∧ t.dbu.claim = .none
      ∧ t.rsq.speed = (s.entryOf t.rsq.pendingSet.profile).holdSpeed
      ∧ t.dbu.granted = s.drawOf t.rsq.speed ∧ t.cpn.events.stopTaken = true
      ∧ t.rsq.stack = (if s.rsq.state = .ramping then
          { cause := s.rsq.currentCause, step := s.rsq.step, resumeSpeed := s.rsq.speed,
            dwell := s.rsq.dwell, levelHoldTime := s.rsq.levelHoldTime,
            unmetDeadline := s.rsq.carried, baseUrgency := s.rsq.baseUrgency,
            counters := s.rsq.counters } :: s.rsq.stack.take 2 else s.rsq.stack)))
  ∧ (∀ (s : State),
        s.rstLow = false →
        s.rsq.state = .queued →
        Accepts s .drvReady true →
        s.rsq.runReq = true →
        ∃ t, exec (.inputEdgeAccepted ⟨.drvReady, true⟩) s = .next t ∧
      (t.drvReady = true ∧ t.rsq.runReq = true ∧ t.ssu.request = false ∧ t.ssu.claim = .none
      ∧ (s.ssu.tenure = true → s.ssu.clearPending = true → t.ssu.tenure = false)
      ∧ (s.ssu.claim ≠ .none →
          t.lnc.queue.filter (fun f => decide (f.slot = .startClaim))
            = (s.withdrawnFrom .start s.ssu.claimNumber s.lnc.queue).filter
                fun f => decide (f.slot = .startClaim))
      ∧ (t.rsq.state = .queued ∧ t.rsq.pendingSet = s.rsq.pendingSet
        ∨ t.rsq.state = .ramping ∧ t.rsq.currentCause = s.rsq.pendingSet.profile
          ∧ t.cpn.events.rampStarted = true)))
  ∧ (∀ (raw : Bool) (s : State),
        s.rstLow = false →
        Accepts s .drvReady raw →
        ((raw = false ∧ (s.rsq.runReq = false ∨ s.filtered .supplyOk = false))
        ∨ (raw = true ∧ (s.rsq.state ≠ .queued ∨ s.rsq.runReq = false)
          ∧ (s.ssu.tenure = false ∨ s.ssu.clearPending = false))) →
        exec (.inputEdgeAccepted ⟨.drvReady, raw⟩) s = .next (s.withInput .drvReady raw))
  ∧ (∀ (i : Input) (raw : Bool) (s : State),
        s.rstLow = false →
        Accepts s i raw →
        ((i = .supplyOk ∧ raw = true) ∨ i = .dummyIn) →
        ((s.rsq.state ≠ .stopped ∧ s.rsq.state ≠ .queued)
        ∨ (s.rsq.state = .stopped ∧ (s.withInput i raw).allMet = false)
        ∨ (s.rsq.state = .queued ∧ (s.withInput i raw).allMet = true)) →
        exec (.inputEdgeAccepted ⟨i, raw⟩) s = .next (s.withInput i raw))
  ∧ (∀ (i : Input) (raw : Bool) (s : State),
        s.rstLow = false →
        Accepts s i raw →
        ((i = .supplyOk ∧ raw = true) ∨ i = .dummyIn) →
        s.rsq.state = .stopped →
        (s.withInput i raw).allMet = true →
        ∃ t, exec (.inputEdgeAccepted ⟨i, raw⟩) s = .next t ∧
      (t = { s.withInput i raw with
        rsq := t.rsq, dbu := t.dbu, ssu := t.ssu, pvu := t.pvu, lnc := t.lnc, cpn := t.cpn }
      ∧ (t.rsq.state = .queued ∧ t.rsq.pendingSet = s.rsq.pendingSet
          ∧ (s.rsq.runReq = false → t.rsq.runReq = false → t.ssu.request = true)
        ∨ t.rsq.state = .ramping ∧ t.rsq.pendingSet = PendingSet.empty ∧ t.rsq.step = 0
          ∧ t.rsq.currentCause = s.rsq.pendingSet.profile ∧ t.driveRunning = true
          ∧ t.cpn.events.rampStarted = true)
      ∧ t.rsq.speed = s.rsq.speed ∧ t.rsq.stack = s.rsq.stack ∧ t.pvu.peers = s.pvu.peers
      ∧ t.cpn.ring = s.cpn.ring ∧ t.cpn.events.stopTaken = s.cpn.events.stopTaken
      ∧ (s.lnc.line.allowsBeacon = true → t.lnc.beacon ≠ .empty) ∧ QueuedWithClaim s t))
  ∧ (∀ (i : Input) (raw : Bool) (s : State),
        s.rstLow = false →
        Accepts s i raw →
        ((i = .supplyOk ∧ raw = true) ∨ i = .dummyIn) →
        s.rsq.state = .queued →
        (s.withInput i raw).allMet = false →
        ∃ t, exec (.inputEdgeAccepted ⟨i, raw⟩) s = .next t ∧
      (t = { s.withInput i raw with
        rsq := t.rsq, dbu := t.dbu, ssu := t.ssu, pvu := t.pvu, lnc := t.lnc }
      ∧ t.rsq = { s.rsq with state := .stopped, urgency := t.computeUrgency }
      ∧ t.dbu = { s.dbu with claim := .none, need := t.dbu.need, settleAt := t.dbu.settleAt }
      ∧ OwnClaimsGone s t ∧ t.ssu.attempts = s.ssu.attempts
      ∧ t.lnc = { s.lnc.requestBeacon with queue := t.lnc.queue }))
  ∧ (∀ (i : Input) (raw : Bool) (s : State),
        s.rstLow = false →
        Accepts s i raw →
        ((i = .brkIn ∧ raw = false)
        ∨ ((s.rsq.state = .unjoined ∨ s.rsq.state = .parked ∨ s.rsq.state = .abandoned)
          ∧ (i ≠ .drvReady ∨ raw = false))) →
        exec (.inputEdgeAccepted ⟨i, raw⟩) s = .next (s.withInput i raw))

/-- A valid record whose start lies after the 10 bit times of idle that the receiver looks for after a
reset replaces the held F, clamped at 8000, and the level, kept at most 4095, fresh from now, and
clears the stale-capture mark. In PARKED and WATCH G becomes D(F). In RAMPING an F at or above the
creep threshold meets the freeze the first time: the carried deadline is gone, the creep moment
recorded, the urgency evaluated. A tenure ends with reason CREEP, in QUEUED as well and once the
freeze has been met, when nothing more changes. Below the creep threshold, and without a tenure
once the freeze has been met or outside RAMPING, nothing else changes. A record that is not read,
and one that began before the receiver had seen those 10 bit times, is lost: its end ends the
search, and nothing else changes. How the idle time since the reset is measured is inferred (entry
43). RST_N is high throughout. From 09_the_strand_port.md, Sample Records;
02_freeze_windows_and_urgency.md, The Freeze Condition; 05_draw_budget_and_draw_claims.md, Granted
and Reported Draw; 06_the_start_slot.md, Taking the Slot and the Tenure. -/
def Obligations.a_sample_record_is_held_and_given : Prop :=
  (∀ (bytes : List Byte) (fault : Bool) (f level : Nat) (s : State),
        s.rstLow = false →
        readSample bytes fault = some (f, level) →
        Found s →
        0 < s.pst.strand.staleTime →
        s.rsq.state = .parked ∨ s.rsq.state = .watch →
        s.ssu.tenure = false →
        ∃ t, exec (.sampleRecord bytes fault) s = .next t ∧
      (t = { s with
        spu := { s.spu with
          feedback := { value := min f 8000, takenAt := some s.now, fresh := true },
          level := { value := min level 4095, takenAt := some s.now, fresh := true },
          staleMark := false, search := none },
        dbu := { s.dbu with granted := s.drawOf (min f 8000), overcommit := t.overcommitted },
        cpn := { s.cpn with fault := t.cpn.fault } }
      ∧ (t.dbu.overcommit = false ∨ s.dbu.overcommit = true → t.cpn.fault = s.cpn.fault)))
  ∧ (∀ (bytes : List Byte) (fault : Bool) (f level : Nat) (s : State),
        s.rstLow = false →
        readSample bytes fault = some (f, level) →
        Found s →
        0 < s.pst.strand.staleTime →
        s.rsq.state = .ramping →
        s.pst.strand.creepThreshold ≤ min f 8000 →
        s.rsq.counters.creepMoment = none ∨ s.rsq.carried.isSome = true →
        ∃ t, exec (.sampleRecord bytes fault) s = .next t ∧
      (t = { s with
          rsq := t.rsq, dbu := t.dbu, ssu := t.ssu, pvu := t.pvu, lnc := t.lnc,
              spu := { s.spu with
                feedback := { value := min f 8000, takenAt := some s.now, fresh := true },
                level := { value := min level 4095, takenAt := some s.now, fresh := true },
                staleMark := false, search := none } }
      ∧ t.rsq = { s.rsq with
          carried := none, urgency := t.computeUrgency,
          counters := { s.rsq.counters with
            creepMoment := some (s.rsq.counters.creepMoment.getD s.now) } }
      ∧ t.dbu.granted = s.dbu.granted ∧ t.dbu.need = s.dbu.need ∧ t.pvu.peers = s.pvu.peers
      ∧ t.ssu.tenure = false
      ∧ (s.ssu.tenure = true → s.lnc.line.allowsBeacon = true →
          .release .creep ∈ t.lnc.queue ∧ t.lnc.beacon ≠ .empty)))
  ∧ (∀ (bytes : List Byte) (fault : Bool) (f level : Nat) (s : State),
        s.rstLow = false →
        readSample bytes fault = some (f, level) →
        Found s →
        s.rsq.state ≠ .parked →
        s.rsq.state ≠ .watch →
        (min f 8000 < s.pst.strand.creepThreshold
        ∨ (s.ssu.tenure = false ∧ (s.rsq.state ≠ .ramping
          ∨ (s.rsq.counters.creepMoment ≠ none ∧ s.rsq.carried = none)))) →
        exec (.sampleRecord bytes fault) s = .next { s with
          spu := { s.spu with
            feedback := { value := min f 8000, takenAt := some s.now, fresh := true },
            level := { value := min level 4095, takenAt := some s.now, fresh := true },
            staleMark := false, search := none } })
  ∧ (∀ (bytes : List Byte) (fault : Bool) (f level : Nat) (s : State),
        s.rstLow = false →
        readSample bytes fault = some (f, level) →
        Found s →
        0 < s.pst.strand.staleTime →
        s.rsq.state ≠ .parked →
        s.rsq.state ≠ .watch →
        s.pst.strand.creepThreshold ≤ min f 8000 →
        s.ssu.tenure = true →
        s.ssu.claim = .none →
        (s.rsq.state ≠ .ramping
          ∨ (s.rsq.counters.creepMoment ≠ none ∧ s.rsq.carried = none)) →
        exec (.sampleRecord bytes fault) s = .next { s with
          spu := { s.spu with
            feedback := { value := min f 8000, takenAt := some s.now, fresh := true },
            level := { value := min level 4095, takenAt := some s.now, fresh := true },
            staleMark := false, search := none },
          ssu := { s.ssu with
            tenure := false, tenureAt := none, clearPending := false,
            holder := if s.ssu.holder = some s.ownStation then none else s.ssu.holder,
            clearSent := if s.ssu.holder = some s.ownStation then false else s.ssu.clearSent },
          lnc := (let l := s.lnc.queueFrame (.release .creep)
            Lnc.requestBeacon (if s.ssu.holder = some s.ownStation then l.dropClear else l)) })
  ∧ (∀ (bytes : List Byte) (fault : Bool) (s : State),
        s.rstLow = false →
        bytes ≠ [] →
        readSample bytes fault = none ∨ Searching s bytes.length →
        exec (.sampleRecord bytes fault) s = .next { s with spu := { s.spu with search := none } })

/-- In RAMPING with S below the capped target T, the new S is the lowest of S plus the slew, T and
S_max(G). With S above T it is the higher of S minus the slew and T. When the tick does not end
blocked by draw, a held need is dropped, G is unchanged, and a reference record is requested;
nothing else changes. T is the target of the current point, capped by the resume speed of the top
context. In the other joined states the tick requests the reference record alone. RST_N is high
throughout. From 03_ramps_and_the_profile_store.md, The Ramp Tick;
05_draw_budget_and_draw_claims.md, The Own Draw Claim; 09_the_strand_port.md, Reference Records. -/
def Obligations.ramp_tick_moves_the_speed : Prop :=
  (∀ (s : State),
        s.rstLow = false →
        s.rsq.state ≠ .unjoined →
        s.rsq.state ≠ .ramping →
        TickNow s →
        exec .rampTick s = .next { s with
          rsq := { s.rsq with tickTaken := true }, spu := { s.spu with refWaiting := true } })
  ∧ (∀ (s : State),
        s.rstLow = false →
        s.rsq.state = .ramping →
        TickNow s →
        s.rsq.speed < s.target →
        (let new := min (s.rsq.speed + s.currentPoint.slew) (min s.target s.speedMax)
        new < s.speedMax ∨ new = s.target) →
        exec .rampTick s = .next { s with
          rsq := { s.rsq with
            speed := min (s.rsq.speed + s.currentPoint.slew) (min s.target s.speedMax),
            tickTaken := true },
          dbu := s.dbu.unblocked, spu := { s.spu with refWaiting := true } })
  ∧ (∀ (s : State),
        s.rstLow = false →
        s.rsq.state = .ramping →
        TickNow s →
        s.target < s.rsq.speed →
        exec .rampTick s = .next { s with
          rsq := { s.rsq with
            speed := max (s.rsq.speed - s.currentPoint.slew) s.target, tickTaken := true },
          dbu := s.dbu.unblocked, spu := { s.spu with refWaiting := true } })
  ∧ (∀ s : State,
        (s.rsq.stack = [] → s.target = s.currentPoint.target)
        ∧ ∀ c rest, s.rsq.stack = c :: rest → s.target = min s.currentPoint.target c.resumeSpeed)

/-- With S below T and the granted draw the limit, S becomes S_max(G). While an own DRAW claim is
outstanding nothing else changes but the reference record. Otherwise the need is D(T) − G: in
ACTIVE from NONE or WAITING a claim of min(need, H_send, chunk) is formed with a new number,
listed SENT and queued, or, if that is below the lower of the minimum claim and the need, the
claim is WAITING; in HOLDOFF and LISTEN the need is held; in DEAF and BARRED G is raised to
min(D(T), solo allowance) where that exceeds it and the claim is NONE. RST_N is high throughout.
From 03_ramps_and_the_profile_store.md, The Ramp Tick; 05_draw_budget_and_draw_claims.md, The Own
Draw Claim; 05_draw_budget_and_draw_claims.md, Working Without the Line;
05_draw_budget_and_draw_claims.md, Headroom. -/
def Obligations.a_blocked_tick_gives_a_draw_need : Prop :=
  (∀ (s : State),
        s.rstLow = false →
        s.rsq.state = .ramping →
        TickNow s →
        s.rsq.speed < s.target →
        s.speedMax < s.target →
        s.speedMax ≤ s.rsq.speed + s.currentPoint.slew →
        s.dbu.claim.outstanding = true →
        exec .rampTick s = .next { s with
          rsq := { s.rsq with speed := s.speedMax, tickTaken := true },
          spu := { s.spu with refWaiting := true } })
  ∧ (∀ (s : State),
        s.rstLow = false →
        s.rsq.state = .ramping →
        TickNow s →
        s.rsq.speed < s.target →
        s.speedMax < s.target →
        s.speedMax ≤ s.rsq.speed + s.currentPoint.slew →
        s.lnc.line = .active →
        s.dbu.claim = .none ∨ s.dbu.claim = .waiting →
        ∃ t, exec .rampTick s = .next t ∧
      (let need := s.drawOf s.target - s.dbu.granted
      let amount := min need (min s.sendHeadroom s.pst.strand.chunk)
      let number := if (s.dbu.claimNumber + 1) % 16 = s.dbu.lastSettled
        then (s.dbu.lastSettled + 1) % 16 else (s.dbu.claimNumber + 1) % 16
      let u : State := { s with
        rsq := { s.rsq with speed := s.speedMax, tickTaken := true },
        spu := { s.spu with refWaiting := true } }
      t = if amount < min s.pst.strand.minClaim need then
        { u with dbu := { s.dbu with need := some need, needOfRunning := true, claim := .waiting } }
      else
        { u with
          dbu := { s.dbu with
            need := some need, needOfRunning := true, claim := .sent, claimNumber := number,
            amount := amount, settleAt := none },
          pvu := { s.pvu with
            claims := s.pvu.claims.filter
                (fun e => !(decide (e.station = s.ownStation ∧ e.kind = .draw)))
              ++ [{ station := s.ownStation, kind := .draw, number := number, amount := amount,
                    origin := .own .sent }] },
          lnc := { s.lnc with
            queue :=
              putFrame (.claim .draw number amount s.pst.strand.settleTime) s.lnc.queue } }))
  ∧ (∀ (s : State),
        s.rstLow = false →
        s.rsq.state = .ramping →
        TickNow s →
        s.rsq.speed < s.target →
        s.speedMax < s.target →
        s.speedMax ≤ s.rsq.speed + s.currentPoint.slew →
        (s.lnc.line = .active ∧ s.dbu.claim = .holdoff) ∨ (s.lnc.line = .listen ∧ s.dbu.claim.outstanding = false) →
        exec .rampTick s = .next { s with
          rsq := { s.rsq with speed := s.speedMax, tickTaken := true },
          spu := { s.spu with refWaiting := true },
          dbu := { s.dbu with
            need := some (s.drawOf s.target - s.dbu.granted), needOfRunning := true,
            claim := if s.lnc.line = .listen then .waiting else .holdoff } })
  ∧ (∀ (s : State),
        s.rstLow = false →
        s.rsq.state = .ramping →
        TickNow s →
        s.rsq.speed < s.target →
        s.speedMax < s.target →
        s.speedMax ≤ s.rsq.speed + s.currentPoint.slew →
        s.lnc.line = .deaf ∨ s.lnc.line = .barred →
        s.dbu.claim.outstanding = false →
        ∃ t, exec .rampTick s = .next t ∧
      (let goal := min (s.drawOf s.target - s.dbu.granted + s.dbu.granted) s.pst.strand.soloAllowance
      t = { s with
        rsq := { s.rsq with speed := s.speedMax, tickTaken := true },
        spu := { s.spu with refWaiting := true },
        dbu := { s.dbu with
          granted := max s.dbu.granted goal, need := none, claim := .none,
          overcommit := t.dbu.overcommit },
        lnc := if s.dbu.granted < goal then s.lnc.requestBeacon else s.lnc,
        cpn := { s.cpn with fault := t.cpn.fault } }
      ∧ (s.dbu.granted < goal → t.dbu.overcommit = t.overcommitted)
      ∧ (t.dbu.overcommit = false ∨ s.dbu.overcommit = true → t.cpn.fault = s.cpn.fault)))

/-- With S equal to T and the dwell above 1, the tick takes 1 from the dwell and drops a held need.
With the dwell at 1 or 0 at a point with LEVEL_GATE and the level out of band, the dwell is 0, 100
ms are added to the level-hold time and 0.1 s to the level-hold total, and LEVEL_HOLD stands. The
tick at which the level-hold time first exceeds the timeout captures LEVEL_HOLD_TIMEOUT with the
level; LEVEL_HOLD_TIMEOUT is that tick. DWELL_END is the tick at which the dwell of 1 ends, with
the effect of RAMP_TICK (entry 8). Nothing else changes. RST_N is high throughout. From
03_ramps_and_the_profile_store.md, The Ramp Tick. -/
def Obligations.at_target_ticks_count_dwell_and_level_hold : Prop :=
  (∀ (s : State),
        s.rstLow = false →
        s.rsq.state = .ramping →
        TickNow s →
        s.rsq.speed = s.target →
        1 < s.rsq.dwell →
        exec .rampTick s = .next { s with
          rsq := { s.rsq with dwell := s.rsq.dwell - 1, tickTaken := true },
          dbu := s.dbu.unblocked, spu := { s.spu with refWaiting := true } })
  ∧ (∀ (s : State),
        s.rstLow = false →
        s.rsq.state = .ramping →
        TickNow s →
        s.rsq.speed = s.target →
        s.rsq.dwell ≤ 1 →
        s.currentPoint.levelGate = true →
        s.levelInBand (s.entryOf s.rsq.currentCause) = false →
        (∀ m, durationMs (s.entryOf s.rsq.currentCause).levelHoldCode = some m →
        m < s.rsq.levelHoldTime ∨ s.rsq.levelHoldTime + 100 ≤ m) →
        exec .rampTick s = .next { s with
          rsq := { s.rsq with
            dwell := s.rsq.dwell - 1, levelHoldTime := s.rsq.levelHoldTime + 100, levelHold := true,
            tickTaken := true,
            counters := { s.rsq.counters with
              levelHoldTotal := min 65535 (s.rsq.counters.levelHoldTotal + 1) } },
          dbu := s.dbu.unblocked, spu := { s.spu with refWaiting := true } })
  ∧ (∀ (s : State),
        s.rstLow = false →
        s.rsq.state = .ramping →
        TickNow s →
        s.rsq.speed = s.target →
        s.rsq.dwell ≤ 1 →
        s.currentPoint.levelGate = true →
        s.levelInBand (s.entryOf s.rsq.currentCause) = false →
        (∃ m, durationMs (s.entryOf s.rsq.currentCause).levelHoldCode = some m
        ∧ s.rsq.levelHoldTime ≤ m ∧ m < s.rsq.levelHoldTime + 100) →
        exec .levelHoldTimeout s = .next { s with
          rsq := { s.rsq with
            dwell := s.rsq.dwell - 1, levelHoldTime := s.rsq.levelHoldTime + 100, levelHold := true,
            tickTaken := true,
            counters := { s.rsq.counters with
              levelHoldTotal := min 65535 (s.rsq.counters.levelHoldTotal + 1) } },
          dbu := s.dbu.unblocked, spu := { s.spu with refWaiting := true },
          cpn := { s.cpn with fault := s.captured .levelHoldTimeout s.spu.level.value } })
  ∧ (∀ s : State, s.rsq.state = .ramping → TickNow s → s.rsq.speed = s.target → s.rsq.dwell ≤ 1 →
        s.currentPoint.levelGate = true → s.levelInBand (s.entryOf s.rsq.currentCause) = false →
        (∃ m, durationMs (s.entryOf s.rsq.currentCause).levelHoldCode = some m
        ∧ s.rsq.levelHoldTime ≤ m ∧ m < s.rsq.levelHoldTime + 100) →
        exec .levelHoldTimeout s = exec .rampTick s)
  ∧ (∀ s : State, s.rsq.state = .ramping → TickNow s → s.rsq.speed = s.target → s.rsq.dwell = 1 →
        exec .dwellEnd s = exec .rampTick s
        ∧ (s.rstLow = false → s.currentPoint.levelGate = true → s.levelInBand (s.entryOf s.rsq.currentCause) = false →
          (∀ m, durationMs (s.entryOf s.rsq.currentCause).levelHoldCode = some m →
        m < s.rsq.levelHoldTime ∨ s.rsq.levelHoldTime + 100 ≤ m) → exec .dwellEnd s = .next { s with
          rsq := { s.rsq with
            dwell := s.rsq.dwell - 1, levelHoldTime := s.rsq.levelHoldTime + 100, levelHold := true,
            tickTaken := true,
            counters := { s.rsq.counters with
              levelHoldTotal := min 65535 (s.rsq.counters.levelHoldTotal + 1) } },
          dbu := s.dbu.unblocked, spu := { s.spu with refWaiting := true } }))

/-- With S at T, the dwell at 1 or 0 and the gate passed, the point completes. It pops when a context
stands and S is its resume speed or the point carries LAST: the restart is reported RESUMED, the
context's cause, step, dwell, level-hold time, base urgency and counters with one more
interruption are restored, and its deadline unless creep meets it. With the stack empty and LAST
it enters HANDBACK: a COMPLETED report, the handback timer, no deadline, no own claims, whose
CLAIMs leave the transmit queue or are withdrawn, the urgency at the base it stands on. Otherwise
the step advances with the next point's dwell. S and G are unchanged. After a pop the urgency
stands on the base configured for the restored cause, beside the restored base urgency that a
later push saves: that R36 and R67 name two bases is the model's choice (entry 12). That the
urgency is evaluated once the creep test is made is entry 17. RST_N is high throughout. From
03_ramps_and_the_profile_store.md, The Ramp Tick; 04_restart_contexts_and_reports.md, The Context
Stack; 01_restart_sequencer.md, RAMPING and HANDBACK; 02_freeze_windows_and_urgency.md, Urgency. -/
def Obligations.a_completed_point_advances_pops_or_hands_back : Prop :=
  (∀ (s : State),
        s.rstLow = false →
        s.rsq.state = .ramping →
        TickNow s →
        s.rsq.speed = s.target →
        s.rsq.dwell ≤ 1 →
        (s.currentPoint.levelGate = false ∨ s.levelInBand (s.entryOf s.rsq.currentCause) = true) →
        ((s.rsq.stack = [] ∧ s.currentPoint.last = false)
        ∨ ∃ c rest, s.rsq.stack = c :: rest ∧ s.rsq.speed ≠ c.resumeSpeed ∧ s.currentPoint.last = false) →
        exec .rampTick s = .next { s with
          rsq := { s.rsq with
            step := s.rsq.step + 1, dwell := (s.pointAt s.rsq.currentCause (s.rsq.step + 1)).dwell,
            levelHoldTime := 0, levelHold := false, tickTaken := true,
            counters := { s.rsq.counters with
              pointsCompleted := s.rsq.counters.pointsCompleted + 1 } },
          dbu := s.dbu.unblocked, spu := { s.spu with refWaiting := true } })
  ∧ (∀ (s : State),
        s.rstLow = false →
        s.rsq.state = .ramping →
        TickNow s →
        s.rsq.speed = s.target →
        s.rsq.dwell ≤ 1 →
        (s.currentPoint.levelGate = false ∨ s.levelInBand (s.entryOf s.rsq.currentCause) = true) →
        s.rsq.stack = [] →
        s.currentPoint.last = true →
        ∃ t, exec .rampTick s = .next t ∧
      (t = { s with
              rsq := t.rsq, dbu := t.dbu, ssu := t.ssu, pvu := t.pvu, lnc := t.lnc,
              spu := { s.spu with refWaiting := true }, cpn := t.cpn }
      ∧ t.rsq = { s.rsq with
          state := .handback, dwell := 0, levelHold := false, carried := none,
          handbackAt := (durationMs s.pst.strand.handbackCode).map (later s.now),
          urgency := s.rsq.urgencyBase, tickTaken := true,
          counters := { s.rsq.counters with
            pointsCompleted := s.rsq.counters.pointsCompleted + 1 } }
      ∧ OwnClaimsGone s t ∧ t.ssu.attempts = s.ssu.attempts
      ∧ t.dbu = { s.dbu with claim := .none, need := t.dbu.need, settleAt := t.dbu.settleAt }
      ∧ t.lnc = { s.lnc.requestBeacon with queue := t.lnc.queue }
      ∧ t.cpn = { s.cpn with
          ring := pushReport s.cpn.ring
            { cause := s.rsq.currentCause, outcome := .completed,
              pointsCompleted := s.rsq.counters.pointsCompleted + 1, lastStep := some s.rsq.step,
              pointsLeft := s.rampLengthOf s.rsq.currentCause - (s.rsq.counters.pointsCompleted + 1),
              finalSpeed := s.rsq.speed, timeToCreep := s.rsq.counters.timeToCreep,
              drawSettled := s.rsq.counters.drawSettled,
              drawWithdrawn := s.rsq.counters.drawWithdrawn,
              startAttempts := s.rsq.counters.startAttempts,
              levelHoldTotal := s.rsq.counters.levelHoldTotal,
              timesInterrupted := s.rsq.counters.timesInterrupted },
          events := { s.cpn.events with reportReady := true } }))
  ∧ (∀ (c : Context) (rest : List Context) (s : State),
        s.rstLow = false →
        s.rsq.state = .ramping →
        TickNow s →
        s.rsq.speed = s.target →
        s.rsq.dwell ≤ 1 →
        (s.currentPoint.levelGate = false ∨ s.levelInBand (s.entryOf s.rsq.currentCause) = true) →
        s.rsq.stack = c :: rest →
        s.rsq.speed = c.resumeSpeed ∨ s.currentPoint.last = true →
        ∃ t, exec .rampTick s = .next t ∧
      (let met := s.creep = true ∧ (c.counters.creepMoment = none ∨ c.unmetDeadline.isSome = true)
      t = { s with
              rsq := t.rsq, dbu := t.dbu, ssu := t.ssu, pvu := t.pvu, lnc := t.lnc,
              spu := { s.spu with refWaiting := true }, cpn := t.cpn }
      ∧ t.rsq = { s.rsq with
          stack := rest, currentCause := c.cause, step := c.step, dwell := c.dwell,
          levelHoldTime := c.levelHoldTime, levelHold := false,
          baseUrgency := c.baseUrgency, urgencyBase := (s.entryOf c.cause).baseUrgency,
          carried := if met then none else c.unmetDeadline,
          counters := { c.counters with
            timesInterrupted := min 255 (c.counters.timesInterrupted + 1),
            creepMoment := if met then some (c.counters.creepMoment.getD s.now)
              else c.counters.creepMoment },
          urgency := t.computeUrgency, tickTaken := true }
      ∧ t.dbu.granted = s.dbu.granted ∧ t.dbu.needOfRunning = false
      ∧ t.ssu.tenure = s.ssu.tenure ∧ t.ssu.holder = s.ssu.holder ∧ t.pvu.peers = s.pvu.peers
      ∧ t.cpn.ring = pushReport s.cpn.ring
          (fillReport s.rsq.currentCause .resumed (some s.rsq.step)
            (s.rampLengthOf s.rsq.currentCause) s.rsq.speed
            { s.rsq.counters with pointsCompleted := s.rsq.counters.pointsCompleted + 1 })
      ∧ t.cpn.events = { s.cpn.events with reportReady := true } ∧ t.cpn.fault = s.cpn.fault))

/-- When the deadline in force has come, FREEZE_EXPIRED is captured with the deadline's cause, every
restart is reported ABANDONED, and the sequencer is in ABANDONED with S and G 0, RUN_REQ clear,
and no claim, request or tenure: a CLAIM of the own claims that has not started leaves the
transmit queue, one sent or being sent gets a WITHDRAW of its number, a tenure its RELEASE, and
every other frame but a CLEAR stays. When the remaining time falls below the margin, the urgency
is 3, a beacon is asked for, and an outstanding own claim is sent again with its number; with the
line DEAF or BARRED a standing request takes the slot, and with the drive so running in QUEUED the
request ends and RAMPING may begin. The take adds 1 to the attempts whatever the count: that it
may so pass 2 is the model's choice (entry 45). In HANDBACK the expired handback timer captures
HANDBACK_OVERDUE with the cause and stops. RST_N is high throughout. From 01_restart_sequencer.md,
ABANDONED; 01_restart_sequencer.md, RAMPING and HANDBACK; 02_freeze_windows_and_urgency.md,
Deadlines; 02_freeze_windows_and_urgency.md, Urgency; 04_restart_contexts_and_reports.md, Clearing
the Stack; 06_the_start_slot.md, Without the Line. -/
def Obligations.deadline_timers_abandon_and_raise_urgency : Prop :=
  (∀ (d : Moment) (c : Cause) (s : State),
        s.rstLow = false →
        s.deadlineInForce = some d →
        timeLeft s.now d = 0 →
        s.deadlineCause d = some c →
        ∃ t, exec .freezeExpiry s = .next t ∧
      (t = { s with
              rsq := t.rsq, dbu := t.dbu, ssu := t.ssu, pvu := t.pvu, lnc := t.lnc,
              spu := { s.spu with refWaiting := true }, cpn := t.cpn }
      ∧ t.rsq = { s.rsq with
          state := .abandoned, currentCause := s.restartCause, pendingSet := PendingSet.empty,
          stack := [], carried := none, levelHold := false, speed := 0, runReq := false, urgency := 0 }
      ∧ t.dbu = { s.dbu with
          granted := 0, claim := .none, need := t.dbu.need, settleAt := t.dbu.settleAt,
          overcommit := t.overcommitted }
      ∧ t.cpn = { s.cpn with
          ring := s.ringAfterEnd .abandoned, events := { s.cpn.events with reportReady := true },
          fault := t.cpn.fault }
      ∧ t.lnc = { s.lnc.requestBeacon with queue := t.lnc.queue }
      ∧ OwnClaimsGone s t ∧ t.ssu.attempts = 0
      ∧ FirstFault s t .freezeExpired (causeCode (some c)).toNat))
  ∧ (∀ (s : State),
        s.rstLow = false →
        s.computeUrgency = 3 →
        s.rsq.urgency ≠ 3 →
        ((s.lnc.line ≠ .deaf ∧ s.lnc.line ≠ .barred) ∨ s.ssu.request = false ∨ s.ssu.tenure = true
          ∨ s.ssu.claim ≠ .none) →
        ∃ t, exec .marginTimerExpiry s = .next t ∧
      (t = { s with rsq := { s.rsq with urgency := 3 }, dbu := t.dbu, ssu := t.ssu, pvu := t.pvu, lnc := t.lnc }
      ∧ t.dbu = (if s.dbu.claim = .contending then { s.dbu with claim := .sent, settleAt := none }
          else s.dbu)
      ∧ t.ssu = (if (s.ssu.claim = .contending ∨ s.ssu.claim = .waiting) ∨ (s.ssu.claim = .sent
            ∧ s.lnc.queue.any (QueuedFrame.isClaim .start s.ssu.claimNumber) = false)
          then { s.ssu with claim := .sent, settleAt := none } else s.ssu)
      ∧ (s.lnc.line.allowsBeacon = true → t.lnc.beacon ≠ .empty)
      ∧ (s.lnc.line = .active → s.dbu.claim.outstanding = true →
          (t.lnc.queue.any (QueuedFrame.isClaim .draw s.dbu.claimNumber)) = true)
      ∧ (s.lnc.line = .active → s.ssu.claim ≠ .none →
          (t.lnc.queue.any (QueuedFrame.isClaim .start s.ssu.claimNumber)) = true)))
  ∧ (∀ (s : State),
        s.rstLow = false →
        s.computeUrgency = 3 →
        s.rsq.urgency ≠ 3 →
        s.lnc.line = .deaf ∨ s.lnc.line = .barred →
        s.ssu.request = true →
        s.ssu.tenure = false →
        s.ssu.claim = .none →
        s.dbu.claim.outstanding = false →
        s.drvReady = false ∨ s.rsq.state ≠ .queued →
        exec .marginTimerExpiry s = .next { s with
          rsq := { s.rsq with
            urgency := 3, runReq := true,
            counters := { s.rsq.counters with
              startAttempts := min 255 (s.rsq.counters.startAttempts + 1) } },
          ssu := { s.ssu with
            holder := some s.ownStation, tenure := true, settleAt := none, clearSent := false,
            tenureAt := (durationMs s.pst.strand.startCode).map (later s.now),
            attempts := s.ssu.attempts + 1 },
          pvu := s.pvu.removeOwn .start,
          lnc := { s.lnc.requestBeacon with
            queue := s.lnc.queue.filter fun f => decide (f.slot ≠ .clear) } })
  ∧ (∀ (s : State),
        s.rstLow = false →
        s.computeUrgency = 3 →
        s.rsq.urgency ≠ 3 →
        s.lnc.line = .deaf ∨ s.lnc.line = .barred →
        s.ssu.request = true →
        s.ssu.tenure = false →
        s.ssu.claim = .none →
        s.dbu.claim.outstanding = false →
        s.drvReady = true →
        s.rsq.state = .queued →
        ∃ t, exec .marginTimerExpiry s = .next t ∧
      (t = { s with rsq := t.rsq, dbu := t.dbu, ssu := t.ssu, pvu := t.pvu, lnc := t.lnc, cpn := t.cpn }
      ∧ t.ssu = { s.ssu with
          request := false, holder := some s.ownStation, tenure := true, settleAt := none,
          tenureAt := (durationMs s.pst.strand.startCode).map (later s.now),
          attempts := s.ssu.attempts + 1, clearSent := false }
      ∧ t.rsq.runReq = true ∧ t.rsq.urgency = t.computeUrgency
      ∧ t.rsq.counters.startAttempts = min 255 (s.rsq.counters.startAttempts + 1)
      ∧ t.rsq.speed = s.rsq.speed ∧ t.rsq.stack = s.rsq.stack ∧ t.pvu.peers = s.pvu.peers
      ∧ (t.rsq.state = .queued ∧ t.rsq.pendingSet = s.rsq.pendingSet
        ∨ t.rsq.state = .ramping ∧ t.rsq.currentCause = s.rsq.pendingSet.profile
          ∧ t.rsq.pendingSet = PendingSet.empty ∧ t.cpn.events.rampStarted = true)
      ∧ (s.lnc.line.allowsBeacon = true → t.lnc.beacon ≠ .empty)))
  ∧ (∀ (s : State),
        s.rstLow = false →
        s.rsq.state = .handback →
        RunOut s s.rsq.handbackAt →
        exec .handbackTimerExpiry s = .next { s with
          rsq := { s.rsq with handbackAt := none },
          cpn := { s.cpn with
            fault := s.captured .handbackOverdue (causeCode s.rsq.currentCause).toNat } })

/-- When the settle timer of a CONTENDING claim has run out, the amount joins G, the claim and its
need end, its entry leaves the list, its number is the last settled one, the restart that gave the
need counts it, a beacon is asked for, and the overcommit condition is evaluated. Unless the
sequencer is in QUEUED with the drive running, nothing else changes. There, with the capped target
of point 0 at or below S or S below the new S_max, RAMPING is entered with the profile cause, step
0 and an empty pending set, and RAMP_STARTED is raised. With S still held at the new S_max on an
ACTIVE line, the test gives a new need of D of that target less the new G: a claim of the next
number is formed at once, or waits where it would be below the lower of the minimum claim and the
need. RST_N is high throughout. From 05_draw_budget_and_draw_claims.md, The Own Draw Claim;
05_draw_budget_and_draw_claims.md, Overcommit; 01_restart_sequencer.md, STOPPED and QUEUED;
01_restart_sequencer.md, RAMPING and HANDBACK. -/
def Obligations.a_settled_draw_claim_raises_the_grant : Prop :=
  (∀ (s : State),
        s.rstLow = false →
        s.dbu.claim = .contending →
        RunOut s s.dbu.settleAt →
        s.rsq.state ≠ .queued ∨ s.driveRunning = false →
        ∃ t, exec .drawSettle s = .next t ∧
      (t = { s with
        rsq := { s.rsq with
          counters := { s.rsq.counters with
            drawSettled := if s.dbu.needOfRunning then min 255 (s.rsq.counters.drawSettled + 1)
              else s.rsq.counters.drawSettled } },
        dbu := { s.dbu with
          granted := s.dbu.granted + s.dbu.amount, claim := .none, need := none, settleAt := none,
          lastSettled := s.dbu.claimNumber, overcommit := t.overcommitted },
        pvu := s.pvu.removeOwn .draw, lnc := s.lnc.requestBeacon,
        cpn := { s.cpn with fault := t.cpn.fault } }
      ∧ (t.dbu.overcommit = false ∨ s.dbu.overcommit = true → t.cpn.fault = s.cpn.fault)
      ∧ (t.dbu.overcommit = true → s.dbu.overcommit = false → t.cpn.fault = s.captured .overcommit
          (min 65535 (s.dbu.granted + s.dbu.amount + s.reportedSum - s.dbu.limit)))))
  ∧ (∀ (s : State),
        s.rstLow = false →
        s.dbu.claim = .contending →
        RunOut s s.dbu.settleAt →
        s.rsq.state = .queued →
        s.driveRunning = true →
        s.firstTarget ≤ s.rsq.speed ∨ s.rsq.speed < speedMax s.pst.strand.mass (s.dbu.granted + s.dbu.amount) →
        ∃ t, exec .drawSettle s = .next t ∧
      (t = { s with rsq := t.rsq, dbu := t.dbu, ssu := t.ssu, pvu := t.pvu, lnc := t.lnc, cpn := t.cpn }
      ∧ t.rsq.state = .ramping ∧ t.rsq.currentCause = s.rsq.pendingSet.profile
      ∧ t.rsq.pendingSet = PendingSet.empty ∧ t.rsq.step = 0 ∧ t.rsq.levelHoldTime = 0
      ∧ t.rsq.dwell = (s.pointAt s.rsq.pendingSet.profile 0).dwell
      ∧ t.rsq.speed = s.rsq.speed ∧ t.rsq.stack = s.rsq.stack ∧ t.rsq.runReq = true
      ∧ t.rsq.baseUrgency = s.pendingBase ∧ t.rsq.urgencyBase = s.pendingBase
      ∧ (s.creep = false → t.rsq.carried = earliestDeadline s.now
          ((pendingDeadlines s.rsq.pendingSet).map (·.2)))
      ∧ (s.creep = true → s.rsq.counters.creepMoment = none → t.rsq.carried = none)
      ∧ t.rsq.counters = {
          { s.rsq.counters with
            drawSettled := if s.dbu.needOfRunning then min 255 (s.rsq.counters.drawSettled + 1)
              else s.rsq.counters.drawSettled } with
          earliestStop := t.rsq.counters.earliestStop, creepMoment := t.rsq.counters.creepMoment }
      ∧ t.dbu = { s.dbu with
          granted := s.dbu.granted + s.dbu.amount, claim := .none, need := none, settleAt := none,
          lastSettled := s.dbu.claimNumber, overcommit := t.overcommitted }
      ∧ t.ownEntries .draw = [] ∧ t.peerEntries = s.peerEntries
      ∧ (t.dbu.overcommit = false ∨ s.dbu.overcommit = true → t.cpn.fault = s.cpn.fault)
      ∧ t.pvu.peers = s.pvu.peers ∧ t.ssu.tenure = s.ssu.tenure ∧ t.ssu.holder = s.ssu.holder
      ∧ t.cpn.events = { s.cpn.events with rampStarted := true }
      ∧ (s.lnc.line.allowsBeacon = true → t.lnc.beacon ≠ .empty)))
  ∧ (∀ (s : State),
        s.rstLow = false →
        s.dbu.claim = .contending →
        RunOut s s.dbu.settleAt →
        s.rsq.state = .queued →
        s.driveRunning = true →
        s.lnc.line = .active →
        s.rsq.speed < s.firstTarget →
        speedMax s.pst.strand.mass (s.dbu.granted + s.dbu.amount) ≤ s.rsq.speed →
        ∃ t, exec .drawSettle s = .next t ∧
      (let grant := s.dbu.granted + s.dbu.amount
      let u : State := { s with dbu := { s.dbu with granted := grant } }
      let need := s.drawOf s.firstTarget - grant
      let amount := min need (min u.sendHeadroom s.pst.strand.chunk)
      t = { s with
        rsq := { s.rsq with
          counters := { s.rsq.counters with
            drawSettled := if s.dbu.needOfRunning then min 255 (s.rsq.counters.drawSettled + 1)
              else s.rsq.counters.drawSettled } },
        dbu := t.dbu, pvu := t.pvu, lnc := t.lnc, cpn := { s.cpn with fault := t.cpn.fault } }
      ∧ t.dbu.granted = grant ∧ t.dbu.lastSettled = s.dbu.claimNumber ∧ t.dbu.settleAt = none
      ∧ t.dbu.need = some need ∧ t.dbu.needOfRunning = true
      ∧ t.peerEntries = s.peerEntries ∧ t.pvu.peers = s.pvu.peers ∧ t.lnc.beacon ≠ .empty
      ∧ (if amount < min s.pst.strand.minClaim need then
          t.dbu.claim = .waiting ∧ t.lnc.queue = s.lnc.queue
        else
          t.dbu.claim = .sent ∧ t.dbu.claimNumber = (s.dbu.claimNumber + 1) % 16
          ∧ t.dbu.amount = amount ∧ t.drawEntry .sent ∈ t.pvu.claims
          ∧ t.lnc.queue = putFrame (.claim .draw t.dbu.claimNumber amount s.pst.strand.settleTime)
              s.lnc.queue)))

/-- With the holder view none and no peer's START claim outranking the own one, the view names the own
station, the tenure and its timer run, RUN_REQ is set, attempts and start attempts rise by 1 (that
the attempts may so pass 2 is the model's choice, entry 45), the claim and its entry are gone with
its number settled, a queued CLEAR is removed and a beacon asked for; with DRV_READY deasserted or
outside QUEUED nothing else changes, and with the drive so running in QUEUED the request ends and
RAMPING may begin. Otherwise the claim and its entry are WAITING, and at urgency 3 behind a peer
that has been sent none a CLEAR to that peer is queued. RST_N is high throughout. From
06_the_start_slot.md, The Own Start Claim; 06_the_start_slot.md, Taking the Slot and the Tenure;
06_the_start_slot.md, CLEAR; 06_the_start_slot.md, The Start Request. -/
def Obligations.start_settle_takes_the_slot_or_waits : Prop :=
  (∀ (s : State),
        s.rstLow = false →
        s.ssu.claim = .contending →
        RunOut s s.ssu.settleAt →
        s.ssu.holder = none →
        s.startTopRanked = true →
        s.drvReady = false ∨ s.rsq.state ≠ .queued →
        exec .startSettleExpiry s = .next { s with
          rsq := { s.rsq with
            runReq := true,
            counters := { s.rsq.counters with
              startAttempts := min 255 (s.rsq.counters.startAttempts + 1) } },
          ssu := { s.ssu with
            holder := some s.ownStation, tenure := true,
            tenureAt := (durationMs s.pst.strand.startCode).map (later s.now),
            attempts := s.ssu.attempts + 1, lastSettled := s.ssu.claimNumber,
            claim := .none, settleAt := none, clearSent := false },
          pvu := s.pvu.removeOwn .start,
          lnc := { s.lnc.requestBeacon with
            queue := s.lnc.queue.filter fun f => decide (f.slot ≠ .clear) } })
  ∧ (∀ (s : State),
        s.rstLow = false →
        s.ssu.claim = .contending →
        RunOut s s.ssu.settleAt →
        s.ssu.holder = none →
        s.startTopRanked = true →
        s.drvReady = true →
        s.rsq.state = .queued →
        ∃ t, exec .startSettleExpiry s = .next t ∧
      (t = { s with rsq := t.rsq, dbu := t.dbu, ssu := t.ssu, pvu := t.pvu, lnc := t.lnc, cpn := t.cpn }
      ∧ t.ssu = { s.ssu with
          request := false, holder := some s.ownStation, tenure := true,
          tenureAt := (durationMs s.pst.strand.startCode).map (later s.now),
          attempts := s.ssu.attempts + 1, lastSettled := s.ssu.claimNumber,
          claim := .none, settleAt := none, clearSent := false }
      ∧ t.rsq.counters.startAttempts = min 255 (s.rsq.counters.startAttempts + 1)
      ∧ t.ownEntries .start = [] ∧ t.peerEntries = s.peerEntries
      ∧ (∀ f ∈ t.lnc.queue, f.slot ≠ .clear)
      ∧ (s.lnc.line.allowsBeacon = true → t.lnc.beacon ≠ .empty)
      ∧ t.rsq.runReq = true ∧ t.rsq.speed = s.rsq.speed ∧ t.rsq.stack = s.rsq.stack
      ∧ (t.rsq.state = .queued ∧ t.rsq.pendingSet = s.rsq.pendingSet
        ∨ t.rsq.state = .ramping ∧ t.rsq.currentCause = s.rsq.pendingSet.profile)
      ∧ t.pvu.peers = s.pvu.peers))
  ∧ (∀ (s : State),
        s.rstLow = false →
        s.ssu.claim = .contending →
        RunOut s s.ssu.settleAt →
        s.ssu.holder ≠ none ∨ s.startTopRanked = false →
        ∃ t, exec .startSettleExpiry s = .next t ∧
      (let sends := s.rsq.urgency = 3 ∧ s.ssu.holder ≠ none ∧ s.ssu.holder ≠ some s.ownStation
        ∧ s.ssu.clearSent = false
      t = { s with
        ssu := { s.ssu with
          claim := .waiting, settleAt := none, clearSent := decide sends || s.ssu.clearSent },
        pvu := s.pvu.setOwnStatus .start .waiting,
        lnc := if sends then s.lnc.queueFrame (.clear (s.ssu.holder.getD 0)) else s.lnc }))

/-- When the timer runs out with DRV_READY asserted, the tenure ends: a RELEASE TIMEOUT is queued, a
view of the own station is none, a beacon is asked for, and RUN_REQ stays. With DRV_READY
deasserted at attempt 1, START_TIMEOUT with detail 1 is captured, RUN_REQ is clear, the tenure
ends in the same way, and a standing request forms a new START claim on an ACTIVE line, and takes
the slot again at once on a DEAF or BARRED one at urgency 3. With no request, and where a request
must wait, nothing else changes. At attempt 2 the detail is 2 and the sequencer goes to ABANDONED
with its reports, the RELEASE queued and an own DRAW claim out of the queue or withdrawn. The
attempts are those counted since the last stop entry; every take adds 1, and that a count past 2
acts as 2 and a count of 0 as 1 are the model's choices, of which nothing is stated here (entries
28 and 45). RST_N is high throughout. From 06_the_start_slot.md, Taking the Slot and the Tenure;
01_restart_sequencer.md, ABANDONED. -/
def Obligations.tenure_timer_releases_or_counts_a_timeout : Prop :=
  (∀ (s : State),
        s.rstLow = false →
        s.ssu.tenure = true →
        RunOut s s.ssu.tenureAt →
        s.drvReady = true →
        s.ssu.claim = .none →
        exec .tenureTimerExpiry s = .next { s with
          ssu := { s.ssu with
            tenure := false, tenureAt := none, clearPending := false,
            holder := if s.ssu.holder = some s.ownStation then none else s.ssu.holder,
            clearSent := if s.ssu.holder = some s.ownStation then false else s.ssu.clearSent },
          lnc := (let l := s.lnc.queueFrame (.release .timeout)
            Lnc.requestBeacon (if s.ssu.holder = some s.ownStation then l.dropClear else l)) })
  ∧ (∀ (s : State),
        s.rstLow = false →
        s.ssu.tenure = true →
        RunOut s s.ssu.tenureAt →
        s.drvReady = false →
        s.ssu.attempts = 1 →
        s.ssu.claim = .none →
        (s.ssu.request = false ∨ (s.lnc.line ≠ .active
          ∧ ((s.lnc.line ≠ .deaf ∧ s.lnc.line ≠ .barred) ∨ s.rsq.urgency ≠ 3))) →
        exec .tenureTimerExpiry s = .next { s with
          rsq := { s.rsq with runReq := false },
          ssu := { s.ssu with
            tenure := false, tenureAt := none, clearPending := false,
            holder := if s.ssu.holder = some s.ownStation then none else s.ssu.holder,
            clearSent := if s.ssu.holder = some s.ownStation then false else s.ssu.clearSent },
          lnc := (let l := s.lnc.queueFrame (.release .timeout)
            Lnc.requestBeacon (if s.ssu.holder = some s.ownStation then l.dropClear else l)),
          cpn := { s.cpn with fault := s.captured .startTimeout 1 } })
  ∧ (∀ (s : State),
        s.rstLow = false →
        s.ssu.tenure = true →
        RunOut s s.ssu.tenureAt →
        s.drvReady = false →
        s.ssu.attempts = 1 →
        s.ssu.claim = .none →
        s.ssu.request = true →
        s.lnc.line = .active →
        ∃ t, exec .tenureTimerExpiry s = .next t ∧
      (t.rsq = { s.rsq with runReq := false } ∧ t.dbu = s.dbu
      ∧ t.ssu.tenure = false ∧ t.ssu.request = true ∧ t.ssu.claim = .sent ∧ t.ssu.attempts = 1
      ∧ t.ssu.holder = (if s.ssu.holder = some s.ownStation then none else s.ssu.holder)
      ∧ t.ssu.claimNumber ≠ s.ssu.lastSettled
      ∧ .claim .start t.ssu.claimNumber 0 s.pst.strand.settleTime ∈ t.lnc.queue
      ∧ .release .timeout ∈ t.lnc.queue ∧ t.lnc.beacon ≠ .empty
      ∧ t.cpn = { s.cpn with fault := s.captured .startTimeout 1 }))
  ∧ (∀ (s : State),
        s.rstLow = false →
        s.ssu.tenure = true →
        RunOut s s.ssu.tenureAt →
        s.drvReady = false →
        s.ssu.attempts = 1 →
        s.ssu.claim = .none →
        s.ssu.request = true →
        s.lnc.line = .deaf ∨ s.lnc.line = .barred →
        s.rsq.urgency = 3 →
        exec .tenureTimerExpiry s = .next { s with
          rsq := { s.rsq with
            runReq := true,
            counters := { s.rsq.counters with
              startAttempts := min 255 (s.rsq.counters.startAttempts + 1) } },
          ssu := { s.ssu with
            holder := some s.ownStation, tenure := true, clearPending := false, settleAt := none,
            tenureAt := (durationMs s.pst.strand.startCode).map (later s.now),
            attempts := 2, clearSent := false },
          pvu := s.pvu.removeOwn .start,
          lnc := Lnc.requestBeacon (s.lnc.queueFrame (.release .timeout)).dropClear,
          cpn := { s.cpn with fault := s.captured .startTimeout 1 } })
  ∧ (∀ (s : State),
        s.rstLow = false →
        s.ssu.tenure = true →
        RunOut s s.ssu.tenureAt →
        s.drvReady = false →
        s.ssu.attempts = 2 →
        ∃ t, exec .tenureTimerExpiry s = .next t ∧
      (t = { s with
              rsq := t.rsq, dbu := t.dbu, ssu := t.ssu, pvu := t.pvu, lnc := t.lnc,
              spu := { s.spu with refWaiting := true }, cpn := t.cpn }
      ∧ t.rsq = { s.rsq with
          state := .abandoned, currentCause := s.restartCause, pendingSet := PendingSet.empty,
          stack := [], carried := none, levelHold := false, speed := 0, runReq := false, urgency := 0 }
      ∧ t.dbu = { s.dbu with
          granted := 0, claim := .none, need := t.dbu.need, settleAt := t.dbu.settleAt,
          overcommit := t.overcommitted }
      ∧ t.cpn = { s.cpn with
          ring := s.ringAfterEnd .abandoned, events := { s.cpn.events with reportReady := true },
          fault := t.cpn.fault }
      ∧ t.lnc = { s.lnc.requestBeacon with queue := t.lnc.queue }
      ∧ t.ssu.attempts = 0 ∧ t.pvu.peers = s.pvu.peers ∧ t.pvu.claims = s.claimsWithoutOwn
      ∧ t.dbu.need = (if s.dbu.claim = .none then s.dbu.need else none)
      ∧ t.dbu.settleAt = (if s.dbu.claim.outstanding then none else s.dbu.settleAt)
      ∧ t.ssu.claim = .none ∧ t.ssu.request = false ∧ t.ssu.tenure = false
      ∧ (s.ssu.claim = .none →
          t.lnc.queue = s.claimsWithdrawn (s.releaseQueued .timeout s.lnc.queue))
      ∧ FirstFault s t .startTimeout 2))

/-- In ACTIVE and DEAF the beacon timer queues a BEACON unless one is queued. At the end of LISTEN the
line is ACTIVE with the deaf counter below the threshold, and otherwise DEAF with LINE_DEAF,
detail errors. In ACTIVE the silence timer leads to DEAF with LINE_DEAF, detail silence. Each
change raises LINE_CHANGED, queues a BEACON and starts a beacon timer that stands still. Without
claims, request or a queued restart nothing else changes, but that going DEAF leaves no queued
CLEAR, no CLEAR-sent mark and no own START entry or settle timer behind. In DEAF a valid peer
frame that brings the deaf counter to 0 leads back to ACTIVE, and acts beyond that as it does on
the line so reached, a fault it captures showing the state before it. A request standing at the
end of LISTEN or DEAF forms a START claim. At silence the own claims end with their entries, a
CLAIM not yet started leaves the transmit queue and another is withdrawn, a queued CLEAR leaves, a
withdrawn DRAW claim is counted, and its held need raises G as far as the solo allowance; a
request standing at urgency 3 takes the slot at once, which adds 1 to the attempts (entry 45), and
where nothing is to be taken and no drive runs in QUEUED nothing else changes but the overcommit
condition and its capture. RST_N is high throughout. From 08_the_restart_line.md, Beacons;
08_the_restart_line.md, Line States; 05_draw_budget_and_draw_claims.md, The Own Draw Claim;
06_the_start_slot.md, The Start Request. -/
def Obligations.line_timers_queue_beacons_and_change_state : Prop :=
  (∀ (s : State),
        s.rstLow = false →
        s.lnc.line = .active ∨ s.lnc.line = .deaf →
        RunOut s s.lnc.beaconAt →
        exec .beaconTimerExpiry s = .next { s with
          lnc := { s.lnc with
            beaconAt := none, beacon := if s.lnc.beacon = .empty then .queued else s.lnc.beacon } })
  ∧ (∀ (s : State),
        s.rstLow = false →
        s.lnc.line = .listen →
        RunOut s s.lnc.listenAt →
        s.lnc.deafCount < s.pst.strand.deafThreshold →
        s.dbu.claim = .none →
        s.dbu.need = none →
        s.ssu.claim = .none →
        s.ssu.request = false →
        s.rsq.state ≠ .queued →
        exec .listenTimerExpiry s = .next { s with
          lnc := { s.lnc with
            line := .active, listenAt := none,
            beacon := if s.lnc.beacon = .empty then .queued else s.lnc.beacon,
            beaconAt := some (s.lnc.beaconAt.getD (later s.now (s.pst.strand.periodCode * 10))) },
          cpn := { s.cpn with events := { s.cpn.events with lineChanged := true } } })
  ∧ (∀ (s : State),
        s.rstLow = false →
        s.lnc.line = .listen →
        RunOut s s.lnc.listenAt →
        s.lnc.deafCount < s.pst.strand.deafThreshold →
        s.ssu.request = true →
        s.ssu.claim = .none →
        s.ssu.tenure = false →
        s.driveRunning = false →
        s.dbu.claim.outstanding = false →
        ∃ t, exec .listenTimerExpiry s = .next t ∧
      (t.lnc.line = .active ∧ t.rsq = s.rsq ∧ t.ssu.request = true ∧ t.ssu.claim = .sent
      ∧ .claim .start t.ssu.claimNumber 0 s.pst.strand.settleTime ∈ t.lnc.queue
      ∧ t.ssu.claimNumber ≠ s.ssu.lastSettled ∧ t.startEntry .sent ∈ t.pvu.claims
      ∧ t.cpn.events.lineChanged = true ∧ t.lnc.beacon ≠ .empty
      ∧ t.lnc.beaconAt = some (s.lnc.beaconAt.getD (later s.now (s.pst.strand.periodCode * 10)))))
  ∧ (∀ (s : State),
        s.rstLow = false →
        s.lnc.line = .listen →
        RunOut s s.lnc.listenAt →
        s.pst.strand.deafThreshold ≤ s.lnc.deafCount →
        s.dbu.claim = .none →
        s.dbu.need = none →
        s.ssu.claim = .none →
        s.ssu.request = false →
        s.rsq.state ≠ .queued →
        exec .listenTimerExpiry s = .next { s with
          ssu := { s.ssu with settleAt := none, clearSent := false },
          pvu := s.pvu.removeOwn .start,
          lnc := { s.lnc.dropClear with
            line := .deaf, listenAt := none,
            beacon := if s.lnc.beacon = .empty then .queued else s.lnc.beacon,
            beaconAt := some (s.lnc.beaconAt.getD (later s.now (s.pst.strand.periodCode * 10))) },
          cpn := { s.cpn with
            events := { s.cpn.events with lineChanged := true }, fault := s.captured .lineDeaf 1 } })
  ∧ (∀ (k target : Nat) (s : State),
        s.rstLow = false →
        s.lnc.line = .deaf →
        s.lnc.deafCount ≤ 1 →
        Heard s k →
        target ≠ s.ownStation →
        s.dbu.claim = .none →
        s.dbu.need = none →
        s.ssu.claim = .none →
        s.ssu.request = false →
        s.rsq.state ≠ .queued →
        exec (.clearReceived k target) s = .next { s with
          lnc := { s.lnc with
            line := .active, quiet := some 10, charLeft := 0, synced := true, deafCount := 0,
            silenceAt := some (later s.now (3 * (s.pst.strand.periodCode * 10))),
            beacon := if s.lnc.beacon = .empty then .queued else s.lnc.beacon,
            beaconAt := some (s.lnc.beaconAt.getD (later s.now (s.pst.strand.periodCode * 10))) },
          cpn := { s.cpn with events := { s.cpn.events with lineChanged := true } } })
  ∧ (∀ (c : Instr) (k : Nat) (s : State),
        s.rstLow = false →
        frameSender c = some k →
        Heard s k →
        s.lnc.line = .deaf →
        s.lnc.deafCount ≤ 1 →
        ∃ t, exec c s = .next t ∧
      (∃ v, exec (.clearReceived k 255) s = .next v ∧ v.lnc.line = .active ∧ v.lnc.deafCount = 0
        ∧ ∃ u, exec c v = .next u ∧ t = stampFault s u))
  ∧ (∀ (k : Nat) (s : State),
        s.rstLow = false →
        s.lnc.line = .deaf →
        s.lnc.deafCount ≤ 1 →
        Heard s k →
        s.ssu.request = true →
        s.ssu.claim = .none →
        s.ssu.tenure = false →
        s.driveRunning = false →
        s.dbu.claim.outstanding = false →
        ∃ t, exec (.clearReceived k 255) s = .next t ∧
      (t.lnc.line = .active ∧ t.rsq = s.rsq ∧ t.ssu.request = true ∧ t.ssu.claim = .sent
      ∧ .claim .start t.ssu.claimNumber 0 s.pst.strand.settleTime ∈ t.lnc.queue
      ∧ t.ssu.claimNumber ≠ s.ssu.lastSettled ∧ t.startEntry .sent ∈ t.pvu.claims
      ∧ t.cpn.events.lineChanged = true ∧ t.lnc.beacon ≠ .empty
      ∧ t.lnc.beaconAt = some (s.lnc.beaconAt.getD (later s.now (s.pst.strand.periodCode * 10)))))
  ∧ (∀ (s : State),
        s.rstLow = false →
        s.lnc.line = .active →
        RunOut s s.lnc.silenceAt →
        ∃ t, exec .silenceTimerExpiry s = .next t ∧
      (t = { s with rsq := t.rsq, dbu := t.dbu, ssu := t.ssu, pvu := t.pvu, lnc := t.lnc, cpn := t.cpn }
      ∧ t.lnc = { s.lnc with
          line := .deaf, queue := s.claimsWithdrawn s.lnc.queue,
          beacon := if s.lnc.beacon = .empty then .queued else s.lnc.beacon,
          beaconAt := some (s.lnc.beaconAt.getD (later s.now (s.pst.strand.periodCode * 10))) }
      ∧ t.dbu.claim.outstanding = false ∧ t.ssu.claim = .none
      ∧ t.pvu.peers = s.pvu.peers ∧ t.pvu.claims = s.claimsWithoutOwn
      ∧ t.cpn.events.lineChanged = true ∧ FirstFault s t .lineDeaf 2
      ∧ (LineLostQuiet s → ClaimsLost s t
          ∧ t.cpn = { s.cpn with
              events := { s.cpn.events with lineChanged := true }, fault := t.cpn.fault }
          ∧ (t.dbu.overcommit = false ∨ s.dbu.overcommit = true →
              t.cpn.fault = s.captured .lineDeaf 2))))
  ∧ (∀ (s : State),
        s.rstLow = false →
        s.lnc.line = .active →
        RunOut s s.lnc.silenceAt →
        s.dbu.claim = .none →
        s.dbu.need = none →
        s.ssu.claim = .none →
        s.ssu.request = false →
        s.rsq.state ≠ .queued →
        exec .silenceTimerExpiry s = .next { s with
          ssu := { s.ssu with settleAt := none, clearSent := false },
          pvu := s.pvu.removeOwn .start,
          lnc := { s.lnc.dropClear with
            line := .deaf,
            beacon := if s.lnc.beacon = .empty then .queued else s.lnc.beacon,
            beaconAt := some (s.lnc.beaconAt.getD (later s.now (s.pst.strand.periodCode * 10))) },
          cpn := { s.cpn with
            events := { s.cpn.events with lineChanged := true }, fault := s.captured .lineDeaf 2 } })
  ∧ (∀ (s : State),
        s.rstLow = false →
        s.lnc.line = .active →
        RunOut s s.lnc.silenceAt →
        s.ssu.request = true →
        s.rsq.urgency = 3 →
        s.ssu.tenure = false →
        s.drvReady = false →
        s.dbu.claim = .none →
        s.dbu.need = none →
        exec .silenceTimerExpiry s = .next { s with
          rsq := { s.rsq with
            runReq := true,
            counters := { s.rsq.counters with
              startAttempts := min 255 (s.rsq.counters.startAttempts + 1) } },
          ssu := { s.ssu with
            holder := some s.ownStation, tenure := true, claim := .none, settleAt := none,
            tenureAt := (durationMs s.pst.strand.startCode).map (later s.now),
            attempts := s.ssu.attempts + 1, clearSent := false },
          pvu := s.pvu.removeOwn .start,
          lnc := { s.lnc with
            line := .deaf, queue := s.claimsWithdrawn s.lnc.queue,
            beacon := if s.lnc.beacon = .empty then .queued else s.lnc.beacon,
            beaconAt := some (s.lnc.beaconAt.getD (later s.now (s.pst.strand.periodCode * 10))) },
          cpn := { s.cpn with
            events := { s.cpn.events with lineChanged := true }, fault := s.captured .lineDeaf 2 } })

/-- A start row reads the levels on LRX since the last bit boundary: that the row brings them is the
model's choice (entry 10). With the transmitter free and the quiet time then at 30 + 2n bit times
(a BEACON) or 12 + 2n (any other head frame), the head leaves its slot and is composed as the
station stands, with no bit sent; a BEACON restarts the beacon timer. Before the gap only the
readings change, and during an own frame nothing. An abort returns the frame, with whatever
urgency and deadline it was composed, to the head of its slot for a retry; where the slot has been
filled meanwhile a WITHDRAW of the aborted CLAIM is discarded with it, and any other frame goes to
the head in its place. The end of an own BEACON advances its sequence number modulo 256; the end
of the own live CLAIM with its slot empty starts the settle timer and makes claim and entry
CONTENDING. With its slot filled or the claim no longer SENT, and for a WITHDRAW, RELEASE or
CLEAR, only the transmitter is freed. That an abort or end row acts on the frame in the
transmitter whichever of its bits has been sent is the model's choice (entry 10). RST_N is high
throughout. From 08_the_restart_line.md, Getting the Line; 08_the_restart_line.md, The Transmit
Queue; 08_the_restart_line.md, Beacons; 05_draw_budget_and_draw_claims.md, The Own Draw Claim;
06_the_start_slot.md, The Own Start Claim. -/
def Obligations.own_frames_start_abort_and_end : Prop :=
  (∀ (levels : List Bool) (q : Nat) (s : State),
        s.rstLow = false →
        s.lnc.tx = none →
        s.lnc.head = some .beacon →
        (levels.foldl Lnc.readBit s.lnc).quiet = some q →
        30 + 2 * s.ownStation ≤ q →
        exec (.transmissionStart levels) s = .next { s with
          lnc := { levels.foldl Lnc.readBit s.lnc with
            beacon := .empty, quiet := some 0,
            beaconAt := some (later s.now (s.pst.strand.periodCode * 10)),
            tx := some {
              sent := 0, frame := {
                station := s.ownStation, body := .beacon
                  { sequence := s.lnc.sequence, periodCode := s.pst.strand.periodCode, state := s.rsq.state,
                    cause := s.restartCause, urgency := s.rsq.urgency, draw := s.dbu.granted,
                    speed := if s.auth then s.rsq.speed else s.spu.feedback.value,
                    deadline := s.deadlineField, auth := s.auth, slotHeld := s.ssu.tenure,
                    deaf := decide (s.lnc.line = .deaf),
                    limitLocal := decide (s.pst.strand.limitSource = .localSource),
                    phaseReady := decide (s.dbu.phase = .ready), settledDraw := s.dbu.lastSettled,
                    settledStart := s.ssu.lastSettled, epoch := s.dbu.epoch, limit := s.dbu.limit } } } } })
  ∧ (∀ (levels : List Bool) (q : Nat) (f : QueuedFrame) (s : State),
        s.rstLow = false →
        s.lnc.tx = none →
        s.lnc.head = some (.frame f) →
        (levels.foldl Lnc.readBit s.lnc).quiet = some q →
        12 + 2 * s.ownStation ≤ q →
        exec (.transmissionStart levels) s = .next { s with
          lnc := { levels.foldl Lnc.readBit s.lnc with
            queue := s.lnc.queue.erase f, quiet := some 0,
            tx := some {
              sent := 0, frame := {
                station := s.ownStation, body :=
                  match f with
                  | .claim kind number amount settle => .claim
                    { kind := kind, number := number, urgency := s.rsq.urgency, deadline := s.deadlineField,
                      amount := amount, settle := settle }
                  | .withdraw kind number => .withdraw kind number
                  | .release reason => .release reason
                  | .clear target => .clear target
                  | .eventBegin epoch => .eventBegin epoch
                  | .eventReady epoch limit => .eventReady epoch limit } } } })
  ∧ (∀ (levels : List Bool) (s : State),
        s.rstLow = false →
        s.lnc.tx = none →
        (∀ h, s.lnc.head = some h → ∀ q, (levels.foldl Lnc.readBit s.lnc).quiet = some q →
          q < (match h with | .beacon => 30 | .frame _ => 12) + 2 * s.ownStation) →
        exec (.transmissionStart levels) s = .next { s with lnc := levels.foldl Lnc.readBit s.lnc })
  ∧ (∀ (levels : List Bool) (x : Transmission) (s : State),
        s.rstLow = false →
        s.lnc.tx = some x →
        exec (.transmissionStart levels) s = .next s)
  ∧ (∀ (b : BeaconFields) (m : Nat) (s : State),
        s.rstLow = false →
        s.lnc.tx = some { sent := m, frame := { station := s.ownStation, body := .beacon b } } →
        exec .transmissionAbort s = .next { s with lnc := { s.lnc with tx := none, beacon := .retry, quiet := some 0 } })
  ∧ (∀ (f : QueuedFrame) (urgency deadline m : Nat) (s : State),
        s.rstLow = false →
        s.lnc.tx = some { sent := m, frame := { station := s.ownStation, body := f.body urgency deadline } } →
        (∀ g ∈ s.lnc.queue, g.slot ≠ f.slot) →
        exec .transmissionAbort s = .next { s with
          lnc := { s.lnc with
            tx := none, queue := f :: s.lnc.queue, quiet := some 0 } })
  ∧ (∀ (k : ClaimKind) (number amount settle urgency deadline m : Nat) (s : State),
        s.rstLow = false →
        s.lnc.tx = some { sent := m, frame := { station := s.ownStation, body := QueuedFrame.body urgency deadline (.claim k number amount settle) } } →
        .withdraw k number ∈ s.lnc.queue →
        SlotsDistinct s →
        exec .transmissionAbort s = .next { s with
          lnc := { s.lnc with
            tx := none, queue := s.lnc.queue.erase (.withdraw k number), quiet := some 0 } })
  ∧ (∀ (f g : QueuedFrame) (urgency deadline m : Nat) (s : State),
        s.rstLow = false →
        s.lnc.tx = some { sent := m, frame := { station := s.ownStation, body := f.body urgency deadline } } →
        g ∈ s.lnc.queue →
        g.slot = f.slot →
        SlotsDistinct s →
        withdraws g f = false →
        exec .transmissionAbort s = .next { s with
          lnc := { s.lnc with
            tx := none, queue := g :: s.lnc.queue.erase g, quiet := some 0 } })
  ∧ (∀ (b : BeaconFields) (m : Nat) (n : Nat) (s : State),
        s.rstLow = false →
        s.lnc.tx = some { sent := m, frame := { station := n, body := .beacon b } } →
        exec .ownFrameEnd s = .next { s with
          lnc := { s.lnc with
            tx := none, quiet := some 10, charLeft := 0, synced := true,
            sequence := (s.lnc.sequence + 1) % 256 } })
  ∧ (∀ (c : ClaimFields) (m : Nat) (n : Nat) (s : State),
        s.rstLow = false →
        s.lnc.tx = some { sent := m, frame := { station := n, body := .claim c } } →
        c.kind = .draw →
        s.dbu.claim = .sent →
        s.dbu.claimNumber = c.number →
        (∀ g ∈ s.lnc.queue, g.slot ≠ .drawClaim) →
        exec .ownFrameEnd s = .next { s with
          dbu := { s.dbu with
            claim := .contending, settleAt := some (later s.now s.pst.strand.settleTime) },
          pvu := s.pvu.setOwnStatus .draw .contending,
          lnc := { s.lnc with tx := none, quiet := some 10, charLeft := 0, synced := true } })
  ∧ (∀ (c : ClaimFields) (m : Nat) (n : Nat) (s : State),
        s.rstLow = false →
        s.lnc.tx = some { sent := m, frame := { station := n, body := .claim c } } →
        c.kind = .start →
        s.ssu.claim = .sent →
        s.ssu.claimNumber = c.number →
        (∀ g ∈ s.lnc.queue, g.slot ≠ .startClaim) →
        exec .ownFrameEnd s = .next { s with
          ssu := { s.ssu with
            claim := .contending, settleAt := some (later s.now s.pst.strand.settleTime) },
          pvu := s.pvu.setOwnStatus .start .contending,
          lnc := { s.lnc with tx := none, quiet := some 10, charLeft := 0, synced := true } })
  ∧ (∀ (c : ClaimFields) (m n : Nat) (s : State),
        s.rstLow = false →
        s.lnc.tx = some { sent := m, frame := { station := n, body := .claim c } } →
        ((c.kind = .draw ∧ (s.dbu.claim ≠ .sent ∨ s.dbu.claimNumber ≠ c.number
            ∨ s.lnc.slotFull .drawClaim = true))
          ∨ (c.kind = .start ∧ (s.ssu.claim ≠ .sent ∨ s.ssu.claimNumber ≠ c.number
            ∨ s.lnc.slotFull .startClaim = true))) →
        exec .ownFrameEnd s = .next { s with
          lnc := { s.lnc with
            tx := none, quiet := some 10, charLeft := 0, synced := true } })
  ∧ (∀ (x : Transmission) (s : State),
        s.rstLow = false →
        s.lnc.tx = some x →
        x.frame.body.frameKind = .withdraw ∨ x.frame.body.frameKind = .release ∨ x.frame.body.frameKind = .clear →
        exec .ownFrameEnd s = .next { s with lnc := { s.lnc with tx := none, quiet := some 10, charLeft := 0, synced := true } })

/-- The sender's entry takes every field with the period code clamped to 5–100, the moment, LIVE, and
a heard deadline as an expiry moment; the missed count grows by the sequence gap from LIVE or
SUSPECT, saturating at 255. Other entries stay. The sender's DRAW claim of the settled number
leaves the list, its START claim also when it holds the slot. SLOT_HELD makes it the holder in
view, and a view that named it becomes none otherwise. With an equal epoch and limit and no own
claim to act on, nothing else changes but the overcommit condition and the line's counters. With
both sides READY at the same epoch and both on the line's limit, a different limit captures
LIMIT_MISMATCH with the sender, and L stays; while the mismatch mark stands no second capture is
made. RST_N is high throughout. From 07_peer_view_and_claim_list.md, Taking a Beacon;
07_peer_view_and_claim_list.md, Removal; 06_the_start_slot.md, The Holder View;
05_draw_budget_and_draw_claims.md, Line Limit and Tundish Epoch; 08_the_restart_line.md,
Reception. -/
def Obligations.a_beacon_updates_its_entry_and_claims : Prop :=
  (∀ (k : Nat) (b : BeaconFields) (s : State),
        s.rstLow = false →
        Hears s k →
        k < 8 →
        ∃ t, exec (.beaconReceived k b) s = .next t ∧
      (let e := s.peer k
      t.peer k =
        { status := .live, lastBeacon := some s.now, sequence := b.sequence,
          missed := if (e.status = .live ∨ e.status = .suspect) ∧ b.sequence ≠ e.sequence then
              min 255 (e.missed + (b.sequence + 255 - e.sequence) % 256) else e.missed,
          periodCode := max 5 (min 100 b.periodCode), state := b.state, cause := b.cause,
          urgency := b.urgency, draw := b.draw, speed := b.speed,
          deadline := if b.deadline = 65535 then none else some (later s.now (b.deadline * 100)),
          auth := b.auth, slotHeld := b.slotHeld, deaf := b.deaf, limitLocal := b.limitLocal,
          phaseReady := b.phaseReady, settledDraw := b.settledDraw, settledStart := b.settledStart,
          epoch := b.epoch, limit := b.limit, releaseReason := e.releaseReason }
      ∧ (∀ j : Fin 8, j.val ≠ k → t.pvu.peers[j] = s.pvu.peers[j])
      ∧ t.peerEntries = s.peerEntries.filter (fun c => !(decide (c.station = k ∧
          ((c.kind = .draw ∧ c.number = b.settledDraw)
            ∨ (c.kind = .start ∧ (c.number = b.settledStart ∨ b.slotHeld = true))))))
      ∧ t.spu.inputs = s.spu.inputs ∧ t.pst = s.pst))
  ∧ (∀ (k : Nat) (b : BeaconFields) (s : State),
        s.rstLow = false →
        Hears s k →
        ViewIdle s →
        s.dbu.learned = true →
        b.epoch = s.dbu.epoch →
        b.epoch < 256 →
        s.dbu.phase = .ready ∨ b.phaseReady = false →
        (b.limitLocal = true ∨ b.limit = s.dbu.limit ∨ s.pst.strand.limitSource = .localSource
          ∨ s.dbu.mismatch = true ∨ b.phaseReady = false ∨ s.dbu.phase = .opened) →
        ∃ t, exec (.beaconReceived k b) s = .next t ∧
      (let holder := if b.slotHeld then some k else if s.ssu.holder = some k then none else s.ssu.holder
      t = { s with
        pvu := t.pvu,
        ssu := { s.ssu with
          holder := holder,
          clearSent := if holder = s.ssu.holder then s.ssu.clearSent else false },
        lnc := if holder = s.ssu.holder then s.heardLine else s.heardLine.dropClear,
        dbu := { s.dbu with overcommit := t.overcommitted },
        cpn := { s.cpn with fault := t.cpn.fault } }
      ∧ (t.dbu.overcommit = false ∨ s.dbu.overcommit = true → t.cpn.fault = s.cpn.fault)))
  ∧ (∀ (k : Nat) (b : BeaconFields) (s : State),
        s.rstLow = false →
        Hears s k →
        ViewIdle s →
        s.dbu.learned = true →
        b.epoch = s.dbu.epoch →
        b.epoch < 256 →
        s.dbu.phase = .ready →
        b.phaseReady = true →
        b.limitLocal = false →
        b.limit ≠ s.dbu.limit →
        s.pst.strand.limitSource = .line →
        s.dbu.mismatch = false →
        ∃ t, exec (.beaconReceived k b) s = .next t ∧
      (let holder := if b.slotHeld then some k else if s.ssu.holder = some k then none else s.ssu.holder
      t = { s with
        pvu := t.pvu,
        ssu := { s.ssu with
          holder := holder,
          clearSent := if holder = s.ssu.holder then s.ssu.clearSent else false },
        lnc := if holder = s.ssu.holder then s.heardLine else s.heardLine.dropClear,
        dbu := { s.dbu with mismatch := true, overcommit := t.overcommitted },
        cpn := { s.cpn with fault := t.cpn.fault } }
      ∧ FirstFault s t .limitMismatch k))

/-- A BEGIN of a newer epoch, from a peer, from the own frame at its end, or shown by a beacon, sets
the epoch, the phase OPEN and the learned flag, keeps L, asks for a beacon, and gives a TUNDISH
stop carrying the epoch, which UNJOINED, PARKED and ABANDONED ignore. A READY of the present or a
newer epoch makes the phase READY and, with limit source LINE, sets L. A beacon that shows a READY
of a newer epoch, or of the own epoch while the own phase is OPEN, repairs in the same way, a
LOCAL sender's limit apart. An older one, and a BEGIN that is not newer, change nothing but the
line's counters. The first beacon while the flag is clear sets epoch and phase without a stop.
RST_N is high throughout. From 05_draw_budget_and_draw_claims.md, Line Limit and Tundish Epoch;
08_the_restart_line.md, What Each Frame Means; 01_restart_sequencer.md, Stop Events. -/
def Obligations.tundish_events_and_repairs_move_the_epoch : Prop :=
  (∀ (k e : Nat) (s : State),
        s.rstLow = false →
        Hears s k →
        newerEpoch e s.dbu.epoch = true →
        ∃ t, exec (.eventBeginReceived k e) s = .next t ∧
      (t.dbu.epoch = e ∧ t.dbu.phase = .opened ∧ t.dbu.learned = true ∧ t.dbu.mismatch = false
      ∧ t.dbu.limit = s.dbu.limit
      ∧ (s.lnc.line = .active ∨ s.lnc.line = .deaf → t.lnc.beacon ≠ .empty)
      ∧ (s.rsq.state = .unjoined ∨ s.rsq.state = .parked ∨ s.rsq.state = .abandoned → t.rsq = s.rsq)
      ∧ (mayPend s.rsq.state = true ∨ s.rsq.state = .watch ∨ s.rsq.state = .ramping
          ∨ s.rsq.state = .handback →
          t.rsq.state = .stopped ∧ t.cpn.events.stopTaken = true
          ∧ (t.rsq.pendingSet.tundish.bind (·.epoch)) = some e)
      ∧ (s.rsq.state = .watch → t.rsq.runReq = s.drvReady
          ∧ t.rsq.pendingSet.tundish = some
            { stopTime := s.now,
              deadline := (durationMs s.pst.causes.tundish.freezeCode).map (later s.now),
              epoch := some e, latch := none })))
  ∧ (∀ (e n : Nat) (m : Nat) (s : State),
        s.rstLow = false →
        s.lnc.tx = some { sent := m, frame := { station := n, body := .eventBegin e } } →
        newerEpoch e s.dbu.epoch = true →
        ∃ t, exec .ownFrameEnd s = .next t ∧
      (t.dbu.epoch = e ∧ t.dbu.phase = .opened ∧ t.dbu.learned = true ∧ t.dbu.mismatch = false
      ∧ t.dbu.limit = s.dbu.limit
      ∧ (s.lnc.line = .active ∨ s.lnc.line = .deaf → t.lnc.beacon ≠ .empty)
      ∧ (s.rsq.state = .unjoined ∨ s.rsq.state = .parked ∨ s.rsq.state = .abandoned → t.rsq = s.rsq)
      ∧ (mayPend s.rsq.state = true ∨ s.rsq.state = .watch ∨ s.rsq.state = .ramping
          ∨ s.rsq.state = .handback →
          t.rsq.state = .stopped ∧ t.cpn.events.stopTaken = true
          ∧ (t.rsq.pendingSet.tundish.bind (·.epoch)) = some e)
      ∧ (s.rsq.state = .watch → t.rsq.runReq = s.drvReady
          ∧ t.rsq.pendingSet.tundish = some
            { stopTime := s.now,
              deadline := (durationMs s.pst.causes.tundish.freezeCode).map (later s.now),
              epoch := some e, latch := none })))
  ∧ (∀ (k e : Nat) (s : State),
        s.rstLow = false →
        Hears s k →
        newerEpoch e s.dbu.epoch = false →
        exec (.eventBeginReceived k e) s = .next { s with lnc := s.heardLine })
  ∧ (∀ (k e l : Nat) (s : State),
        s.rstLow = false →
        Hears s k →
        e = s.dbu.epoch ∨ newerEpoch e s.dbu.epoch = true →
        ∃ t, exec (.eventReadyReceived k e l) s = .next t ∧
      (let new := if s.pst.strand.limitSource = .line then l else s.dbu.limit
      t.dbu.epoch = e ∧ t.dbu.phase = .ready ∧ t.dbu.limit = new
      ∧ t.dbu.learned = (s.dbu.learned || decide (e ≠ s.dbu.epoch))
      ∧ (new ≠ s.dbu.limit → t.cpn.events.limitChanged = true)
      ∧ (mayPend s.rsq.state = false → t.rsq.state = s.rsq.state)
      ∧ t.rsq.stack = s.rsq.stack ∧ t.rsq.speed = s.rsq.speed))
  ∧ (∀ (e l n : Nat) (m : Nat) (s : State),
        s.rstLow = false →
        s.lnc.tx = some { sent := m, frame := { station := n, body := .eventReady e l } } →
        e = s.dbu.epoch ∨ newerEpoch e s.dbu.epoch = true →
        ∃ t, exec .ownFrameEnd s = .next t ∧
      (let new := if s.pst.strand.limitSource = .line then l else s.dbu.limit
      t.dbu.epoch = e ∧ t.dbu.phase = .ready ∧ t.dbu.limit = new
      ∧ t.dbu.learned = (s.dbu.learned || decide (e ≠ s.dbu.epoch))
      ∧ (new ≠ s.dbu.limit → t.cpn.events.limitChanged = true)
      ∧ (mayPend s.rsq.state = false → t.rsq.state = s.rsq.state)
      ∧ t.rsq.stack = s.rsq.stack ∧ t.rsq.speed = s.rsq.speed))
  ∧ (∀ (k e l : Nat) (s : State),
        s.rstLow = false →
        Hears s k →
        e ≠ s.dbu.epoch →
        newerEpoch e s.dbu.epoch = false →
        exec (.eventReadyReceived k e l) s = .next { s with lnc := s.heardLine })
  ∧ (∀ (k e : Nat) (b : BeaconFields) (s : State),
        s.rstLow = false →
        Hears s k →
        s.dbu.learned = true →
        newerEpoch e s.dbu.epoch = true →
        b.epoch = e →
        b.phaseReady = false →
        ∃ t, exec (.beaconReceived k b) s = .next t ∧
      (t.dbu.epoch = e ∧ t.dbu.phase = .opened ∧ t.dbu.learned = true ∧ t.dbu.mismatch = false
      ∧ t.dbu.limit = s.dbu.limit
      ∧ (s.lnc.line = .active ∨ s.lnc.line = .deaf → t.lnc.beacon ≠ .empty)
      ∧ (NeedPlaced s → s.rsq.state = .unjoined ∨ s.rsq.state = .parked ∨ s.rsq.state = .abandoned → t.rsq = s.rsq)
      ∧ (mayPend s.rsq.state = true ∨ s.rsq.state = .watch ∨ s.rsq.state = .ramping
          ∨ s.rsq.state = .handback →
          t.rsq.state = .stopped ∧ t.cpn.events.stopTaken = true
          ∧ (t.rsq.pendingSet.tundish.bind (·.epoch)) = some e)
      ∧ (s.rsq.state = .watch → t.rsq.runReq = s.drvReady
          ∧ t.rsq.pendingSet.tundish = some
            { stopTime := s.now,
              deadline := (durationMs s.pst.causes.tundish.freezeCode).map (later s.now),
              epoch := some e, latch := none })))
  ∧ (∀ (k : Nat) (b : BeaconFields) (s : State),
        s.rstLow = false →
        Hears s k →
        s.dbu.learned = false →
        ∃ t, exec (.beaconReceived k b) s = .next t ∧
      (t.dbu.epoch = b.epoch ∧ t.dbu.phase = (if b.phaseReady then .ready else .opened)
      ∧ t.dbu.learned = true
      ∧ t.dbu.limit =
          (if s.pst.strand.limitSource = .line ∧ b.limitLocal = false then b.limit else s.dbu.limit)
      ∧ (mayPend s.rsq.state = false → t.rsq.state = s.rsq.state)))
  ∧ (∀ (k : Nat) (b : BeaconFields) (s : State),
        s.rstLow = false →
        Hears s k →
        s.dbu.learned = true →
        b.phaseReady = true →
        newerEpoch b.epoch s.dbu.epoch = true ∨ (b.epoch = s.dbu.epoch ∧ s.dbu.phase = .opened) →
        ∃ t, exec (.beaconReceived k b) s = .next t ∧
      (let new := if s.pst.strand.limitSource = .line ∧ b.limitLocal = false then b.limit else s.dbu.limit
      t.dbu.epoch = b.epoch ∧ t.dbu.phase = .ready ∧ t.dbu.limit = new ∧ t.dbu.learned = true
      ∧ (new ≠ s.dbu.limit → t.cpn.events.limitChanged = true)
      ∧ (mayPend s.rsq.state = false → t.rsq.state = s.rsq.state)
      ∧ (s.rsq.state = .stopped → (t.rsq.state = .stopped ↔ t.allMet = false))
      ∧ t.cpn.events.stopTaken = s.cpn.events.stopTaken
      ∧ t.rsq.stack = s.rsq.stack ∧ t.rsq.speed = s.rsq.speed
      ∧ (s.lnc.line.allowsBeacon = true → t.lnc.beacon ≠ .empty)))

/-- A heard CLAIM enters with its fields as heard, its deadline as an expiry moment, amount 0 for
START, and a lifetime of twice the clamped settle time plus twice the sender's period, or 2000 ms
for an ABSENT entry. A WITHDRAW removes the entry of its kind and number only; an expired lifetime
removes its entry. With no own claim to act on nothing else changes but the line's counters. A
CONTENDING own DRAW claim gives way exactly when its amount exceeds H_keep. On an ACTIVE line a
CLAIM received forms a WAITING one again from its need, and ends a HOLDOFF with a new claim. A
WAITING START claim is sent again when the view is none and no rival outranks it, tested when a
START entry leaves by a WITHDRAW, its lifetime, a beacon or the loss of its station, and when the
view becomes none. RST_N is high throughout. From 07_peer_view_and_claim_list.md, Insertion and
Replacement; 07_peer_view_and_claim_list.md, Removal; 05_draw_budget_and_draw_claims.md, The Own
Draw Claim; 05_draw_budget_and_draw_claims.md, Headroom; 06_the_start_slot.md, The Own Start
Claim. -/
def Obligations.peer_claims_are_entered_removed_and_lapse : Prop :=
  (∀ (k : Nat) (c : ClaimFields) (s : State),
        s.rstLow = false →
        Hears s k →
        (s.dbu.claim = .none ∨ s.dbu.claim = .sent
          ∨ (s.dbu.claim ≠ .contending ∧ s.lnc.line ≠ .active)) →
        exec (.claimReceived k c) s = .next { s with
          lnc := s.heardLine,
          pvu := { s.pvu with
            claims := s.pvu.claims.filter
                (fun (g : ClaimEntry) => !(decide (g.station = k ∧ g.kind = c.kind)))
              ++ [{
                station := k, kind := c.kind, number := c.number,
                amount := if c.kind = .draw then c.amount else 0,
                origin := .peer c.urgency
                  (if c.deadline = 65535 then none else some (later s.now (c.deadline * 100)))
                  (later s.now (if (s.peer k).status = .absent then 2000
                  else 2 * max 10 (min 250 c.settle) + 2 * ((s.peer k).periodCode * 10))) }] } })
  ∧ (∀ (k : Nat) (c : ClaimFields) (s : State),
        s.rstLow = false →
        Hears s k →
        s.dbu.claim = .contending →
        ∃ t, exec (.claimReceived k c) s = .next t ∧
      (let u : State := { s with
        pvu := { s.pvu with
          claims := s.pvu.claims.filter
              (fun (g : ClaimEntry) => !(decide (g.station = k ∧ g.kind = c.kind)))
            ++ [{
              station := k, kind := c.kind, number := c.number,
              amount := if c.kind = .draw then c.amount else 0,
              origin := .peer c.urgency
                (if c.deadline = 65535 then none else some (later s.now (c.deadline * 100)))
                (later s.now (if (s.peer k).status = .absent then 2000
                else 2 * max 10 (min 250 c.settle) + 2 * ((s.peer k).periodCode * 10))) }] } }
      t.peerEntries = u.peerEntries
      ∧ (s.dbu.amount ≤ u.keepHeadroom → t = { u with lnc := s.heardLine })
      ∧ (u.keepHeadroom < s.dbu.amount →
          t = { u with
            rsq := t.rsq, lnc := s.heardLine.queueFrame (.withdraw .draw s.dbu.claimNumber),
            dbu := { s.dbu with claim := .holdoff, settleAt := none }, pvu := u.pvu.removeOwn .draw }
          ∧ t.rsq = { s.rsq with
            counters := { s.rsq.counters with
              drawWithdrawn :=
                if s.dbu.needOfRunning then min 255 (s.rsq.counters.drawWithdrawn + 1)
                else s.rsq.counters.drawWithdrawn } })))
  ∧ (∀ (k n : Nat) (kind : ClaimKind) (s : State),
        s.rstLow = false →
        Hears s k →
        ViewIdle s →
        exec (.withdrawReceived k kind n) s = .next { s with
          lnc := s.heardLine,
          pvu := { s.pvu with
            claims := s.pvu.claims.filter fun (e : ClaimEntry) =>
              !(!e.isOwn && decide (e.station = k ∧ e.kind = kind ∧ e.number = n)) } })
  ∧ (∀ (k : Nat) (kind : ClaimKind) (s : State),
        s.rstLow = false →
        s.pvu.claims.any (lapsed s.now k kind) = true →
        ViewIdle s →
        exec (.claimLifetimeExpiry k kind) s = .next { s with
          pvu := { s.pvu with
            claims := s.pvu.claims.filter fun (e : ClaimEntry) =>
              !(!e.isOwn && decide (e.station = k ∧ e.kind = kind)
                && (match e.origin with
                  | .peer _ _ lifetime => reached s.now lifetime
                  | .own _ => false)) } })
  ∧ (∀ (k n : Nat) (s : State),
        s.rstLow = false →
        Hears s k →
        s.dbu.claim = .none →
        s.ssu.claim = .waiting →
        s.pvu.claims.any (withdrawnBy k .start n) = true →
        ∃ t, exec (.withdrawReceived k .start n) s = .next t ∧
      (let u : State := { s with
        pvu := { s.pvu with
          claims := s.pvu.claims.filter fun (e : ClaimEntry) =>
            !(!e.isOwn && decide (e.station = k ∧ e.kind = .start ∧ e.number = n)) } }
      t = if s.ssu.holder = none ∧ u.startTopRanked = true then
          { u with
            ssu := { s.ssu with claim := .sent, settleAt := none },
            pvu := u.pvu.setOwnStatus .start .sent,
            lnc := s.heardLine.queueFrame
              (.claim .start s.ssu.claimNumber 0 s.pst.strand.settleTime) }
        else { u with lnc := s.heardLine }))
  ∧ (∀ (k need : Nat) (c : ClaimFields) (s : State),
        s.rstLow = false →
        Hears s k →
        s.lnc.line = .active →
        s.dbu.claim = .waiting ∨ s.dbu.claim = .holdoff →
        s.dbu.need = some need →
        ∃ t, exec (.claimReceived k c) s = .next t ∧
      (let u : State := { s with
        lnc := s.heardLine,
        pvu := { s.pvu with
          claims := s.pvu.claims.filter
              (fun (g : ClaimEntry) => !(decide (g.station = k ∧ g.kind = c.kind)))
            ++ [{
              station := k, kind := c.kind, number := c.number,
              amount := if c.kind = .draw then c.amount else 0,
              origin := .peer c.urgency
                (if c.deadline = 65535 then none else some (later s.now (c.deadline * 100)))
                (later s.now (if (s.peer k).status = .absent then 2000
                else 2 * max 10 (min 250 c.settle) + 2 * ((s.peer k).periodCode * 10))) }] } }
      let amount := min need (min u.sendHeadroom s.pst.strand.chunk)
      let number := if (s.dbu.claimNumber + 1) % 16 = s.dbu.lastSettled
        then (s.dbu.lastSettled + 1) % 16 else (s.dbu.claimNumber + 1) % 16
      t = if amount < min s.pst.strand.minClaim need then
        { u with dbu := { s.dbu with claim := .waiting } }
      else
        { u with
          dbu := { s.dbu with
            claim := .sent, claimNumber := number, amount := amount, settleAt := none },
          pvu := { u.pvu with
            claims := u.pvu.claims.filter
                (fun e => !(decide (e.station = s.ownStation ∧ e.kind = .draw)))
              ++ [{ station := s.ownStation, kind := .draw, number := number, amount := amount,
                    origin := .own .sent }] },
          lnc := { s.heardLine with
            queue :=
              putFrame (.claim .draw number amount s.pst.strand.settleTime) s.lnc.queue } }))
  ∧ (∀ (k : Nat) (s : State),
        s.rstLow = false →
        s.pvu.claims.any (lapsed s.now k .start) = true →
        s.dbu.claim = .none →
        s.ssu.claim = .waiting →
        ∃ t, exec (.claimLifetimeExpiry k .start) s = .next t ∧
      (let u : State := { s with
        pvu := { s.pvu with
          claims := s.pvu.claims.filter fun (e : ClaimEntry) =>
            !(lapsed s.now k .start e) } }
      t = if s.ssu.holder = none ∧ u.startTopRanked = true then
          { u with
            ssu := { s.ssu with claim := .sent, settleAt := none },
            pvu := u.pvu.setOwnStatus .start .sent,
            lnc := s.lnc.queueFrame (.claim .start s.ssu.claimNumber 0 s.pst.strand.settleTime) }
        else u))
  ∧ (∀ (k : Fin 8) (m : Moment) (s : State),
        s.rstLow = false →
        s.pvu.peers[k].status = .suspect →
        s.pvu.peers[k].lastBeacon = some m →
        s.pst.strand.lossCount * (s.pvu.peers[k].periodCode * 10) < ageAt s.now m →
        s.dbu.claim = .none →
        s.ssu.claim = .waiting →
        (s.ssu.holder = some k.val ∨ s.pvu.claims.any
          (fun e => !e.isOwn && decide (e.station = k.val ∧ e.kind = .start)) = true) →
        ∃ t, exec (.peerLost k) s = .next t ∧
      (let held := s.ssu.holder = some k.val
      let u : State := { s with
        pvu := { s.pvu with
          peers := s.pvu.peers.set k { s.pvu.peers[k] with status := .lost },
          claims := s.pvu.claims.filter fun e => !(!e.isOwn && decide (e.station = k.val)) },
        ssu := if held then { s.ssu with holder := none, clearSent := false } else s.ssu,
        lnc := if held then s.lnc.dropClear else s.lnc,
        dbu := { s.dbu with overcommit := t.overcommitted },
        cpn := { s.cpn with fault := t.cpn.fault } }
      t = (if u.ssu.holder = none ∧ u.startTopRanked = true then
          { u with
            ssu := { u.ssu with claim := .sent, settleAt := none },
            pvu := u.pvu.setOwnStatus .start .sent,
            lnc := u.lnc.queueFrame (.claim .start s.ssu.claimNumber 0 s.pst.strand.settleTime) }
        else u)
      ∧ (held → FirstFault s t .holderLost k.val)))
  ∧ (∀ (k : Nat) (b : BeaconFields) (s : State),
        s.rstLow = false →
        Hears s k →
        s.dbu.claim = .none →
        s.ssu.claim = .waiting →
        b.slotHeld = false →
        (s.ssu.holder = some k ∨ s.pvu.claims.any (fun e => !e.isOwn
          && decide (e.station = k ∧ e.kind = .start ∧ e.number = b.settledStart)) = true) →
        s.dbu.learned = true →
        b.epoch = s.dbu.epoch →
        b.epoch < 256 →
        s.dbu.phase = .ready ∨ b.phaseReady = false →
        ∃ t, exec (.beaconReceived k b) s = .next t ∧
      (let held := s.ssu.holder = some k
      let u : State := { s with
        pvu := { s.pvu with
          claims := s.pvu.claims.filter fun e => !(!e.isOwn && decide (e.station = k
            ∧ ((e.kind = .draw ∧ e.number = b.settledDraw)
              ∨ (e.kind = .start ∧ e.number = b.settledStart)))) },
        ssu := if held then { s.ssu with holder := none, clearSent := false } else s.ssu,
        lnc := if held then s.heardLine.dropClear else s.heardLine }
      if u.ssu.holder = none ∧ u.startTopRanked = true then
        t.ssu = { u.ssu with claim := .sent, settleAt := none }
        ∧ t.pvu.claims = (u.pvu.setOwnStatus .start .sent).claims
        ∧ t.lnc = u.lnc.queueFrame (.claim .start s.ssu.claimNumber 0 s.pst.strand.settleTime)
      else t.ssu = u.ssu ∧ t.pvu.claims = u.pvu.claims ∧ t.lnc = u.lnc))

/-- A heard RELEASE sets the reason in the sender's entry, whatever its status, and a holder view that
names the sender becomes none. With no own claim to act on nothing else changes but the line's
counters; a WAITING START claim that no rival outranks is then sent again. A heard CLEAR to the
own station with a tenure held ends the tenure with reason CLEARED when DRV_READY is asserted and
otherwise sets the CLEAR-pending flag; any other CLEAR is ignored. RST_N is high throughout. From
07_peer_view_and_claim_list.md, Frames Other Than Beacons; 06_the_start_slot.md, The Holder View;
06_the_start_slot.md, CLEAR; 06_the_start_slot.md, Taking the Slot and the Tenure. -/
def Obligations.release_and_clear_act_on_view_and_tenure : Prop :=
  (∀ (k : Fin 8) (reason : ReleaseReason) (s : State),
        s.rstLow = false →
        Hears s k →
        s.dbu.claim = .none ∨ s.dbu.claim = .sent →
        s.ssu.claim ≠ .waiting ∨ s.ssu.holder ≠ some k.val →
        exec (.releaseReceived k reason) s = .next { s with
          pvu := { s.pvu with
            peers := s.pvu.peers.set k
              { s.pvu.peers[k] with releaseReason := some reason } },
          ssu := if s.ssu.holder = some k.val then { s.ssu with holder := none, clearSent := false }
            else s.ssu,
          lnc := if s.ssu.holder = some k.val then s.heardLine.dropClear else s.heardLine })
  ∧ (∀ (k : Fin 8) (reason : ReleaseReason) (s : State),
        s.rstLow = false →
        Hears s k →
        s.dbu.claim = .none ∨ s.dbu.claim = .sent →
        s.ssu.claim = .waiting →
        s.ssu.holder = some k.val →
        s.startTopRanked = true →
        exec (.releaseReceived k reason) s = .next { s with
          pvu := { s.pvu.setOwnStatus .start .sent with
            peers := s.pvu.peers.set k
              { s.pvu.peers[k] with releaseReason := some reason } },
          ssu := { s.ssu with holder := none, clearSent := false, claim := .sent, settleAt := none },
          lnc := s.heardLine.dropClear.queueFrame
            (.claim .start s.ssu.claimNumber 0 s.pst.strand.settleTime) })
  ∧ (∀ (k target : Nat) (s : State),
        s.rstLow = false →
        Hears s k →
        target = s.ownStation →
        s.ssu.tenure = true →
        s.drvReady = true →
        s.ssu.claim = .none →
        exec (.clearReceived k target) s = .next { s with
          ssu := { s.ssu with
            tenure := false, tenureAt := none, clearPending := false,
            holder := if s.ssu.holder = some s.ownStation then none else s.ssu.holder,
            clearSent := if s.ssu.holder = some s.ownStation then false else s.ssu.clearSent },
          lnc := (let l := s.heardLine.queueFrame (.release .cleared)
            Lnc.requestBeacon (if s.ssu.holder = some s.ownStation then l.dropClear else l)) })
  ∧ (∀ (k target : Nat) (s : State),
        s.rstLow = false →
        Hears s k →
        target = s.ownStation →
        s.ssu.tenure = true →
        s.drvReady = false →
        exec (.clearReceived k target) s = .next { s with
          lnc := s.heardLine, ssu := { s.ssu with clearPending := true } })
  ∧ (∀ (k target : Nat) (s : State),
        s.rstLow = false →
        Hears s k →
        target ≠ s.ownStation ∨ s.ssu.tenure = false →
        exec (.clearReceived k target) s = .next { s with lnc := s.heardLine })

/-- A frame under way at JOIN is not taken and not counted: its end gives the receiver its 10 bit
times of quiet, and nothing else changes. After it, a frame that fails the checks adds 4 to the
deaf counter, saturating at 255 and held in BARRED; in ACTIVE a counter at the threshold leads to
DEAF with LINE_DEAF, detail errors, the CLAIMs of the own claims out of the transmit queue or
withdrawn. A valid frame of the own number in LISTEN, ACTIVE or DEAF bars the line:
DUPLICATE_STATION with the frame's kind, nothing queued or in the transmitter, no own claim. At
both, where no slot is to be taken and no drive runs in QUEUED, the held need raises G as far as
the solo allowance and the restart changes in nothing but its count of withdrawn draw claims. A
LIVE entry whose age exceeds 1.5 periods is SUSPECT with its fields and claims kept. A SUSPECT one
past the loss count of periods is LOST: its claims leave, and a view of it is none with
HOLDER_LOST. RST_N is high throughout. From 08_the_restart_line.md, Reception;
08_the_restart_line.md, Line States; 07_peer_view_and_claim_list.md, Aging; 06_the_start_slot.md,
The Holder View; 05_draw_budget_and_draw_claims.md, The Own Draw Claim. -/
def Obligations.bad_frames_duplicates_and_silent_peers_act : Prop :=
  (∀ (bytes : List Byte) (fault : Bool) (s : State),
        s.rstLow = false →
        s.lnc.line ≠ .off →
        s.lnc.synced = true →
        bytes ≠ [] →
        validFrame s.strandCount bytes fault = none →
        s.lnc.line ≠ .active ∨ min 255 (s.lnc.deafCount + 4) < s.pst.strand.deafThreshold →
        exec (.badFrameReceived bytes fault) s = .next { s with
          lnc := { s.lnc with
            quiet := some 10, charLeft := 0,
            deafCount := if s.lnc.line = .barred then s.lnc.deafCount
              else min 255 (s.lnc.deafCount + 4) } })
  ∧ (∀ (bytes : List Byte) (fault : Bool) (s : State),
        s.rstLow = false →
        s.lnc.synced = true →
        bytes ≠ [] →
        validFrame s.strandCount bytes fault = none →
        s.lnc.line = .active →
        s.pst.strand.deafThreshold ≤ min 255 (s.lnc.deafCount + 4) →
        ∃ t, exec (.badFrameReceived bytes fault) s = .next t ∧
      (t.lnc = { s.lnc with
          line := .deaf, quiet := some 10, charLeft := 0, deafCount := min 255 (s.lnc.deafCount + 4),
          queue := s.claimsWithdrawn s.lnc.queue,
          beacon := if s.lnc.beacon = .empty then .queued else s.lnc.beacon,
          beaconAt := some (s.lnc.beaconAt.getD (later s.now (s.pst.strand.periodCode * 10))) }
      ∧ t.dbu.claim.outstanding = false ∧ t.ssu.claim = .none
      ∧ t.pvu.peers = s.pvu.peers ∧ t.pvu.claims = s.claimsWithoutOwn
      ∧ t.cpn.events.lineChanged = true ∧ FirstFault s t .lineDeaf 1
      ∧ (LineLostQuiet s → ClaimsLost s t)))
  ∧ (∀ (kind : FrameKind) (s : State),
        s.rstLow = false →
        s.lnc.synced = true →
        s.lnc.line = .listen ∨ s.lnc.line = .active ∨ s.lnc.line = .deaf →
        ∃ t, exec (.duplicateStation kind) s = .next t ∧
      (t.lnc = { s.lnc with
          line := .barred, queue := [], beacon := .empty, tx := none, beaconAt := none,
          listenAt := none, quiet := some 10, charLeft := 0 }
      ∧ t.dbu.claim.outstanding = false ∧ t.ssu.claim = .none
      ∧ t.pvu.peers = s.pvu.peers ∧ t.pvu.claims = s.claimsWithoutOwn
      ∧ t.cpn.events.lineChanged = true ∧ (LineLostQuiet s → ClaimsLost s t)
      ∧ FirstFault s t .duplicateStation (frameKindCode kind).toNat))
  ∧ (∀ (c : Instr) (k : Nat) (s : State),
        s.rstLow = false →
        frameSender c = some k →
        k < s.strandCount →
        k ≠ s.ownStation →
        s.lnc.line ≠ .off →
        s.lnc.synced = false →
        exec c s = .next { s with
          lnc := { s.lnc with quiet := some 10, charLeft := 0, synced := true } })
  ∧ (∀ (bytes : List Byte) (fault : Bool) (s : State),
        s.rstLow = false →
        s.lnc.line ≠ .off →
        s.lnc.synced = false →
        bytes ≠ [] →
        validFrame s.strandCount bytes fault = none →
        exec (.badFrameReceived bytes fault) s = .next { s with
          lnc := { s.lnc with quiet := some 10, charLeft := 0, synced := true } })
  ∧ (∀ (kind : FrameKind) (s : State),
        s.rstLow = false →
        s.lnc.synced = false →
        s.lnc.line = .listen ∨ s.lnc.line = .active ∨ s.lnc.line = .deaf →
        exec (.duplicateStation kind) s = .next { s with
          lnc := { s.lnc with quiet := some 10, charLeft := 0, synced := true } })
  ∧ (∀ (k : Fin 8) (m : Moment) (s : State),
        s.rstLow = false →
        s.pvu.peers[k].status = .live →
        s.pvu.peers[k].lastBeacon = some m →
        3 * (s.pvu.peers[k].periodCode * 10) < 2 * (ageAt s.now m) →
        s.dbu.claim = .none ∨ s.dbu.claim = .sent →
        ∃ t, exec (.peerSuspect k) s = .next t ∧
      (t = { s with
        pvu := { s.pvu with peers := s.pvu.peers.set k { s.pvu.peers[k] with status := .suspect } },
        dbu := { s.dbu with overcommit := t.overcommitted }, cpn := { s.cpn with fault := t.cpn.fault } }
      ∧ t.reportedSum = s.reportedSum
      ∧ (t.dbu.overcommit = false ∨ s.dbu.overcommit = true → t.cpn.fault = s.cpn.fault)))
  ∧ (∀ (k : Fin 8) (m : Moment) (s : State),
        s.rstLow = false →
        s.pvu.peers[k].status = .suspect →
        s.pvu.peers[k].lastBeacon = some m →
        s.pst.strand.lossCount * (s.pvu.peers[k].periodCode * 10) < ageAt s.now m →
        ViewIdle s →
        ∃ t, exec (.peerLost k) s = .next t ∧
      (t = { s with
        pvu := { s.pvu with
          peers := s.pvu.peers.set k { s.pvu.peers[k] with status := .lost },
          claims := s.pvu.claims.filter fun e => !(!e.isOwn && decide (e.station = k.val)) },
        ssu := if s.ssu.holder = some k.val then { s.ssu with holder := none, clearSent := false }
          else s.ssu,
        lnc := if s.ssu.holder = some k.val then s.lnc.dropClear else s.lnc,
        dbu := { s.dbu with overcommit := t.overcommitted },
        cpn := { s.cpn with fault := t.cpn.fault } }
      ∧ (s.ssu.holder = some k.val → FirstFault s t .holderLost k.val)
      ∧ (s.ssu.holder ≠ some k.val → t.dbu.overcommit = false ∨ s.dbu.overcommit = true →
          t.cpn.fault = s.cpn.fault)))
end

