-- ==== Sys2Proof/Laws/Keeps.lean ====
section
/-! SUPPORT. What each shared operation keeps: for each one a conjunction of equations, one for every
block, or every field of a block, that the operation never changes (`…_keeps`, tagged for simp). A proof
about a meaning cites these and never unfolds an operation to find that it left something alone. -/

namespace Sys2Proof.Machine

/-! ### The parts of a block -/

@[simp] theorem Lnc.queueFrame_keeps (l : Lnc) (f : QueuedFrame) :
    (l.queueFrame f).line = l.line ∧ (l.queueFrame f).beacon = l.beacon ∧ (l.queueFrame f).tx = l.tx
    ∧ (l.queueFrame f).beaconAt = l.beaconAt ∧ (l.queueFrame f).listenAt = l.listenAt
    ∧ (l.queueFrame f).silenceAt = l.silenceAt ∧ (l.queueFrame f).sequence = l.sequence
    ∧ (l.queueFrame f).deafCount = l.deafCount ∧ (l.queueFrame f).quiet = l.quiet
    ∧ (l.queueFrame f).charLeft = l.charLeft ∧ (l.queueFrame f).synced = l.synced := by
  unfold Lnc.queueFrame Lnc.queueWithdraw
  repeat' split
  all_goals simp

@[simp] theorem Lnc.requestBeacon_keeps (l : Lnc) :
    l.requestBeacon.line = l.line ∧ l.requestBeacon.queue = l.queue ∧ l.requestBeacon.tx = l.tx
    ∧ l.requestBeacon.beaconAt = l.beaconAt ∧ l.requestBeacon.listenAt = l.listenAt
    ∧ l.requestBeacon.silenceAt = l.silenceAt ∧ l.requestBeacon.sequence = l.sequence
    ∧ l.requestBeacon.deafCount = l.deafCount ∧ l.requestBeacon.quiet = l.quiet
    ∧ l.requestBeacon.charLeft = l.charLeft ∧ l.requestBeacon.synced = l.synced := by
  unfold Lnc.requestBeacon
  split <;> simp

@[simp] theorem Lnc.dropClear_keeps (l : Lnc) :
    l.dropClear.line = l.line ∧ l.dropClear.beacon = l.beacon ∧ l.dropClear.tx = l.tx
    ∧ l.dropClear.beaconAt = l.beaconAt ∧ l.dropClear.listenAt = l.listenAt
    ∧ l.dropClear.silenceAt = l.silenceAt ∧ l.dropClear.sequence = l.sequence
    ∧ l.dropClear.deafCount = l.deafCount ∧ l.dropClear.quiet = l.quiet
    ∧ l.dropClear.charLeft = l.charLeft ∧ l.dropClear.synced = l.synced := by
  simp [Lnc.dropClear]

@[simp] theorem Pvu.placeOwn_peers (p : Pvu) (n : Nat) (k : ClaimKind) (m a : Nat) :
    (p.placeOwn n k m a).peers = p.peers := rfl

@[simp] theorem Pvu.setOwnStatus_peers (p : Pvu) (k : ClaimKind) (st : OwnStatus) :
    (p.setOwnStatus k st).peers = p.peers := rfl

@[simp] theorem Pvu.removeOwn_peers (p : Pvu) (k : ClaimKind) : (p.removeOwn k).peers = p.peers := rfl

/-! ### The shared operations -/

@[simp] theorem notify_keeps (n : EventNotice) (s : State) :
    (notify n s).now = s.now ∧ (notify n s).micros = s.micros ∧ (notify n s).joinedAt = s.joinedAt
    ∧ (notify n s).rstLow = s.rstLow ∧ (notify n s).pst = s.pst ∧ (notify n s).pending = s.pending
    ∧ (notify n s).rsq = s.rsq ∧ (notify n s).dbu = s.dbu ∧ (notify n s).ssu = s.ssu
    ∧ (notify n s).pvu = s.pvu ∧ (notify n s).lnc = s.lnc ∧ (notify n s).spu = s.spu
    ∧ (notify n s).cpn.spi = s.cpn.spi ∧ (notify n s).cpn.reply = s.cpn.reply
    ∧ (notify n s).cpn.fault = s.cpn.fault ∧ (notify n s).cpn.ring = s.cpn.ring
    ∧ (notify n s).cpn.straps = s.cpn.straps ∧ (notify n s).cpn.strapDone = s.cpn.strapDone
    ∧ (notify n s).cpn.strapSampler = s.cpn.strapSampler := by
  unfold notify
  simp

@[simp] theorem capture_keeps (k : FaultKind) (d : Nat) (s : State) :
    (capture k d s).now = s.now ∧ (capture k d s).micros = s.micros
    ∧ (capture k d s).joinedAt = s.joinedAt ∧ (capture k d s).rstLow = s.rstLow
    ∧ (capture k d s).pst = s.pst ∧ (capture k d s).pending = s.pending
    ∧ (capture k d s).rsq = s.rsq ∧ (capture k d s).dbu = s.dbu ∧ (capture k d s).ssu = s.ssu
    ∧ (capture k d s).pvu = s.pvu ∧ (capture k d s).lnc = s.lnc ∧ (capture k d s).spu = s.spu
    ∧ (capture k d s).cpn.spi = s.cpn.spi ∧ (capture k d s).cpn.reply = s.cpn.reply
    ∧ (capture k d s).cpn.events = s.cpn.events ∧ (capture k d s).cpn.ring = s.cpn.ring
    ∧ (capture k d s).cpn.straps = s.cpn.straps ∧ (capture k d s).cpn.strapDone = s.cpn.strapDone
    ∧ (capture k d s).cpn.strapSampler = s.cpn.strapSampler := by
  unfold capture
  simp

@[simp] theorem writeReport_keeps (r : Report) (s : State) :
    (writeReport r s).now = s.now ∧ (writeReport r s).micros = s.micros
    ∧ (writeReport r s).joinedAt = s.joinedAt ∧ (writeReport r s).rstLow = s.rstLow
    ∧ (writeReport r s).pst = s.pst ∧ (writeReport r s).pending = s.pending
    ∧ (writeReport r s).rsq = s.rsq ∧ (writeReport r s).dbu = s.dbu ∧ (writeReport r s).ssu = s.ssu
    ∧ (writeReport r s).pvu = s.pvu ∧ (writeReport r s).lnc = s.lnc ∧ (writeReport r s).spu = s.spu
    ∧ (writeReport r s).cpn.spi = s.cpn.spi ∧ (writeReport r s).cpn.reply = s.cpn.reply
    ∧ (writeReport r s).cpn.fault = s.cpn.fault ∧ (writeReport r s).cpn.straps = s.cpn.straps
    ∧ (writeReport r s).cpn.strapDone = s.cpn.strapDone
    ∧ (writeReport r s).cpn.strapSampler = s.cpn.strapSampler := by
  unfold writeReport
  simp

@[simp] theorem clearStack_keeps (o : ReportOutcome) (s : State) :
    (clearStack o s).now = s.now ∧ (clearStack o s).micros = s.micros
    ∧ (clearStack o s).joinedAt = s.joinedAt ∧ (clearStack o s).rstLow = s.rstLow
    ∧ (clearStack o s).pst = s.pst ∧ (clearStack o s).pending = s.pending
    ∧ (clearStack o s).rsq.state = s.rsq.state ∧ (clearStack o s).rsq.pendingSet = s.rsq.pendingSet
    ∧ (clearStack o s).rsq.currentCause = s.rsq.currentCause
    ∧ (clearStack o s).rsq.step = s.rsq.step ∧ (clearStack o s).rsq.dwell = s.rsq.dwell
    ∧ (clearStack o s).rsq.levelHoldTime = s.rsq.levelHoldTime
    ∧ (clearStack o s).rsq.levelHold = s.rsq.levelHold ∧ (clearStack o s).rsq.speed = s.rsq.speed
    ∧ (clearStack o s).rsq.carried = s.rsq.carried
    ∧ (clearStack o s).rsq.baseUrgency = s.rsq.baseUrgency
    ∧ (clearStack o s).rsq.urgencyBase = s.rsq.urgencyBase
    ∧ (clearStack o s).rsq.counters = s.rsq.counters
    ∧ (clearStack o s).rsq.handbackAt = s.rsq.handbackAt
    ∧ (clearStack o s).rsq.runReq = s.rsq.runReq ∧ (clearStack o s).rsq.urgency = s.rsq.urgency
    ∧ (clearStack o s).rsq.tickPhase = s.rsq.tickPhase
    ∧ (clearStack o s).rsq.tickTaken = s.rsq.tickTaken ∧ (clearStack o s).dbu = s.dbu
    ∧ (clearStack o s).ssu = s.ssu ∧ (clearStack o s).pvu = s.pvu ∧ (clearStack o s).lnc = s.lnc
    ∧ (clearStack o s).spu = s.spu ∧ (clearStack o s).cpn.spi = s.cpn.spi
    ∧ (clearStack o s).cpn.reply = s.cpn.reply ∧ (clearStack o s).cpn.fault = s.cpn.fault
    ∧ (clearStack o s).cpn.straps = s.cpn.straps ∧ (clearStack o s).cpn.strapDone = s.cpn.strapDone
    ∧ (clearStack o s).cpn.strapSampler = s.cpn.strapSampler := by
  have fold : ∀ (l : List Context) (t : State),
      ∃ ring events, l.foldl (fun t c => writeReport (s.contextReport o c) t) t
        = { t with cpn := { t.cpn with ring := ring, events := events } } := by
    intro l
    induction l with
    | nil => exact fun t => ⟨t.cpn.ring, t.cpn.events, rfl⟩
    | cons c l ih => exact fun t => ih (writeReport (s.contextReport o c) t)
  obtain ⟨ring, events, h⟩ := fold s.rsq.stack (writeReport (s.runningReport o) s)
  simp [clearStack, h]

@[simp] theorem requestBeacon_keeps (s : State) :
    (requestBeacon s).now = s.now ∧ (requestBeacon s).micros = s.micros
    ∧ (requestBeacon s).joinedAt = s.joinedAt ∧ (requestBeacon s).rstLow = s.rstLow
    ∧ (requestBeacon s).pst = s.pst ∧ (requestBeacon s).pending = s.pending
    ∧ (requestBeacon s).rsq = s.rsq ∧ (requestBeacon s).dbu = s.dbu ∧ (requestBeacon s).ssu = s.ssu
    ∧ (requestBeacon s).pvu = s.pvu ∧ (requestBeacon s).lnc.line = s.lnc.line
    ∧ (requestBeacon s).lnc.queue = s.lnc.queue ∧ (requestBeacon s).lnc.tx = s.lnc.tx
    ∧ (requestBeacon s).lnc.beaconAt = s.lnc.beaconAt
    ∧ (requestBeacon s).lnc.listenAt = s.lnc.listenAt
    ∧ (requestBeacon s).lnc.silenceAt = s.lnc.silenceAt
    ∧ (requestBeacon s).lnc.sequence = s.lnc.sequence
    ∧ (requestBeacon s).lnc.deafCount = s.lnc.deafCount ∧ (requestBeacon s).lnc.quiet = s.lnc.quiet
    ∧ (requestBeacon s).lnc.charLeft = s.lnc.charLeft ∧ (requestBeacon s).lnc.synced = s.lnc.synced
    ∧ (requestBeacon s).spu = s.spu ∧ (requestBeacon s).cpn = s.cpn := by
  unfold requestBeacon
  simp

@[simp] theorem queueFrame_keeps (f : QueuedFrame) (s : State) :
    (queueFrame f s).now = s.now ∧ (queueFrame f s).micros = s.micros
    ∧ (queueFrame f s).joinedAt = s.joinedAt ∧ (queueFrame f s).rstLow = s.rstLow
    ∧ (queueFrame f s).pst = s.pst ∧ (queueFrame f s).pending = s.pending
    ∧ (queueFrame f s).rsq = s.rsq ∧ (queueFrame f s).dbu = s.dbu ∧ (queueFrame f s).ssu = s.ssu
    ∧ (queueFrame f s).pvu = s.pvu ∧ (queueFrame f s).lnc.line = s.lnc.line
    ∧ (queueFrame f s).lnc.beacon = s.lnc.beacon ∧ (queueFrame f s).lnc.tx = s.lnc.tx
    ∧ (queueFrame f s).lnc.beaconAt = s.lnc.beaconAt
    ∧ (queueFrame f s).lnc.listenAt = s.lnc.listenAt
    ∧ (queueFrame f s).lnc.silenceAt = s.lnc.silenceAt
    ∧ (queueFrame f s).lnc.sequence = s.lnc.sequence
    ∧ (queueFrame f s).lnc.deafCount = s.lnc.deafCount ∧ (queueFrame f s).lnc.quiet = s.lnc.quiet
    ∧ (queueFrame f s).lnc.charLeft = s.lnc.charLeft ∧ (queueFrame f s).lnc.synced = s.lnc.synced
    ∧ (queueFrame f s).spu = s.spu ∧ (queueFrame f s).cpn = s.cpn := by
  unfold queueFrame
  simp

@[simp] theorem requestReference_keeps (s : State) :
    (requestReference s).now = s.now ∧ (requestReference s).micros = s.micros
    ∧ (requestReference s).joinedAt = s.joinedAt ∧ (requestReference s).rstLow = s.rstLow
    ∧ (requestReference s).pst = s.pst ∧ (requestReference s).pending = s.pending
    ∧ (requestReference s).rsq = s.rsq ∧ (requestReference s).dbu = s.dbu
    ∧ (requestReference s).ssu = s.ssu ∧ (requestReference s).pvu = s.pvu
    ∧ (requestReference s).lnc = s.lnc ∧ (requestReference s).spu.inputs = s.spu.inputs
    ∧ (requestReference s).spu.sampled = s.spu.sampled
    ∧ (requestReference s).spu.search = s.spu.search
    ∧ (requestReference s).spu.feedback = s.spu.feedback
    ∧ (requestReference s).spu.level = s.spu.level
    ∧ (requestReference s).spu.staleMark = s.spu.staleMark
    ∧ (requestReference s).spu.refSequence = s.spu.refSequence
    ∧ (requestReference s).spu.refTx = s.spu.refTx ∧ (requestReference s).cpn = s.cpn := by
  unfold requestReference
  repeat' split
  all_goals simp

@[simp] theorem evalOvercommit_keeps (s : State) :
    (evalOvercommit s).now = s.now ∧ (evalOvercommit s).micros = s.micros
    ∧ (evalOvercommit s).joinedAt = s.joinedAt ∧ (evalOvercommit s).rstLow = s.rstLow
    ∧ (evalOvercommit s).pst = s.pst ∧ (evalOvercommit s).pending = s.pending
    ∧ (evalOvercommit s).rsq = s.rsq ∧ (evalOvercommit s).dbu.granted = s.dbu.granted
    ∧ (evalOvercommit s).dbu.limit = s.dbu.limit ∧ (evalOvercommit s).dbu.epoch = s.dbu.epoch
    ∧ (evalOvercommit s).dbu.phase = s.dbu.phase ∧ (evalOvercommit s).dbu.learned = s.dbu.learned
    ∧ (evalOvercommit s).dbu.mismatch = s.dbu.mismatch ∧ (evalOvercommit s).dbu.claim = s.dbu.claim
    ∧ (evalOvercommit s).dbu.claimNumber = s.dbu.claimNumber
    ∧ (evalOvercommit s).dbu.amount = s.dbu.amount ∧ (evalOvercommit s).dbu.need = s.dbu.need
    ∧ (evalOvercommit s).dbu.needOfRunning = s.dbu.needOfRunning
    ∧ (evalOvercommit s).dbu.lastSettled = s.dbu.lastSettled
    ∧ (evalOvercommit s).dbu.settleAt = s.dbu.settleAt ∧ (evalOvercommit s).ssu = s.ssu
    ∧ (evalOvercommit s).pvu = s.pvu ∧ (evalOvercommit s).lnc = s.lnc
    ∧ (evalOvercommit s).spu = s.spu ∧ (evalOvercommit s).cpn.spi = s.cpn.spi
    ∧ (evalOvercommit s).cpn.reply = s.cpn.reply ∧ (evalOvercommit s).cpn.events = s.cpn.events
    ∧ (evalOvercommit s).cpn.ring = s.cpn.ring ∧ (evalOvercommit s).cpn.straps = s.cpn.straps
    ∧ (evalOvercommit s).cpn.strapDone = s.cpn.strapDone
    ∧ (evalOvercommit s).cpn.strapSampler = s.cpn.strapSampler := by
  unfold evalOvercommit
  repeat' split
  all_goals simp

@[simp] theorem setGranted_keeps (g : Nat) (s : State) :
    (setGranted g s).now = s.now ∧ (setGranted g s).micros = s.micros
    ∧ (setGranted g s).joinedAt = s.joinedAt ∧ (setGranted g s).rstLow = s.rstLow
    ∧ (setGranted g s).pst = s.pst ∧ (setGranted g s).pending = s.pending
    ∧ (setGranted g s).rsq = s.rsq ∧ (setGranted g s).dbu.limit = s.dbu.limit
    ∧ (setGranted g s).dbu.epoch = s.dbu.epoch ∧ (setGranted g s).dbu.phase = s.dbu.phase
    ∧ (setGranted g s).dbu.learned = s.dbu.learned ∧ (setGranted g s).dbu.mismatch = s.dbu.mismatch
    ∧ (setGranted g s).dbu.claim = s.dbu.claim
    ∧ (setGranted g s).dbu.claimNumber = s.dbu.claimNumber
    ∧ (setGranted g s).dbu.amount = s.dbu.amount ∧ (setGranted g s).dbu.need = s.dbu.need
    ∧ (setGranted g s).dbu.needOfRunning = s.dbu.needOfRunning
    ∧ (setGranted g s).dbu.lastSettled = s.dbu.lastSettled
    ∧ (setGranted g s).dbu.settleAt = s.dbu.settleAt ∧ (setGranted g s).ssu = s.ssu
    ∧ (setGranted g s).pvu = s.pvu ∧ (setGranted g s).lnc = s.lnc ∧ (setGranted g s).spu = s.spu
    ∧ (setGranted g s).cpn.spi = s.cpn.spi ∧ (setGranted g s).cpn.reply = s.cpn.reply
    ∧ (setGranted g s).cpn.events = s.cpn.events ∧ (setGranted g s).cpn.ring = s.cpn.ring
    ∧ (setGranted g s).cpn.straps = s.cpn.straps ∧ (setGranted g s).cpn.strapDone = s.cpn.strapDone
    ∧ (setGranted g s).cpn.strapSampler = s.cpn.strapSampler := by
  unfold setGranted
  simp

@[simp] theorem setLimit_keeps (l : Nat) (s : State) :
    (setLimit l s).now = s.now ∧ (setLimit l s).micros = s.micros
    ∧ (setLimit l s).joinedAt = s.joinedAt ∧ (setLimit l s).rstLow = s.rstLow
    ∧ (setLimit l s).pst = s.pst ∧ (setLimit l s).pending = s.pending ∧ (setLimit l s).rsq = s.rsq
    ∧ (setLimit l s).dbu.granted = s.dbu.granted ∧ (setLimit l s).dbu.epoch = s.dbu.epoch
    ∧ (setLimit l s).dbu.phase = s.dbu.phase ∧ (setLimit l s).dbu.learned = s.dbu.learned
    ∧ (setLimit l s).dbu.mismatch = s.dbu.mismatch ∧ (setLimit l s).dbu.claim = s.dbu.claim
    ∧ (setLimit l s).dbu.claimNumber = s.dbu.claimNumber ∧ (setLimit l s).dbu.amount = s.dbu.amount
    ∧ (setLimit l s).dbu.need = s.dbu.need ∧ (setLimit l s).dbu.needOfRunning = s.dbu.needOfRunning
    ∧ (setLimit l s).dbu.lastSettled = s.dbu.lastSettled
    ∧ (setLimit l s).dbu.settleAt = s.dbu.settleAt ∧ (setLimit l s).ssu = s.ssu
    ∧ (setLimit l s).pvu = s.pvu ∧ (setLimit l s).lnc = s.lnc ∧ (setLimit l s).spu = s.spu
    ∧ (setLimit l s).cpn.spi = s.cpn.spi ∧ (setLimit l s).cpn.reply = s.cpn.reply
    ∧ (setLimit l s).cpn.ring = s.cpn.ring ∧ (setLimit l s).cpn.straps = s.cpn.straps
    ∧ (setLimit l s).cpn.strapDone = s.cpn.strapDone
    ∧ (setLimit l s).cpn.strapSampler = s.cpn.strapSampler := by
  unfold setLimit
  repeat' split
  all_goals simp

@[simp] theorem formDraw_keeps (s : State) :
    (formDraw s).now = s.now ∧ (formDraw s).micros = s.micros ∧ (formDraw s).joinedAt = s.joinedAt
    ∧ (formDraw s).rstLow = s.rstLow ∧ (formDraw s).pst = s.pst ∧ (formDraw s).pending = s.pending
    ∧ (formDraw s).rsq = s.rsq ∧ (formDraw s).dbu.granted = s.dbu.granted
    ∧ (formDraw s).dbu.limit = s.dbu.limit ∧ (formDraw s).dbu.epoch = s.dbu.epoch
    ∧ (formDraw s).dbu.phase = s.dbu.phase ∧ (formDraw s).dbu.learned = s.dbu.learned
    ∧ (formDraw s).dbu.mismatch = s.dbu.mismatch ∧ (formDraw s).dbu.need = s.dbu.need
    ∧ (formDraw s).dbu.needOfRunning = s.dbu.needOfRunning
    ∧ (formDraw s).dbu.lastSettled = s.dbu.lastSettled
    ∧ (formDraw s).dbu.overcommit = s.dbu.overcommit ∧ (formDraw s).ssu = s.ssu
    ∧ (formDraw s).pvu.peers = s.pvu.peers ∧ (formDraw s).lnc.line = s.lnc.line
    ∧ (formDraw s).lnc.beacon = s.lnc.beacon ∧ (formDraw s).lnc.tx = s.lnc.tx
    ∧ (formDraw s).lnc.beaconAt = s.lnc.beaconAt ∧ (formDraw s).lnc.listenAt = s.lnc.listenAt
    ∧ (formDraw s).lnc.silenceAt = s.lnc.silenceAt ∧ (formDraw s).lnc.sequence = s.lnc.sequence
    ∧ (formDraw s).lnc.deafCount = s.lnc.deafCount ∧ (formDraw s).lnc.quiet = s.lnc.quiet
    ∧ (formDraw s).lnc.charLeft = s.lnc.charLeft ∧ (formDraw s).lnc.synced = s.lnc.synced
    ∧ (formDraw s).spu = s.spu ∧ (formDraw s).cpn = s.cpn := by
  unfold formDraw
  dsimp only
  repeat' split
  all_goals simp

@[simp] theorem soloRaise_keeps (need : Nat) (s : State) :
    (soloRaise need s).now = s.now ∧ (soloRaise need s).micros = s.micros
    ∧ (soloRaise need s).joinedAt = s.joinedAt ∧ (soloRaise need s).rstLow = s.rstLow
    ∧ (soloRaise need s).pst = s.pst ∧ (soloRaise need s).pending = s.pending
    ∧ (soloRaise need s).rsq = s.rsq ∧ (soloRaise need s).dbu.limit = s.dbu.limit
    ∧ (soloRaise need s).dbu.epoch = s.dbu.epoch ∧ (soloRaise need s).dbu.phase = s.dbu.phase
    ∧ (soloRaise need s).dbu.learned = s.dbu.learned
    ∧ (soloRaise need s).dbu.mismatch = s.dbu.mismatch
    ∧ (soloRaise need s).dbu.claimNumber = s.dbu.claimNumber
    ∧ (soloRaise need s).dbu.amount = s.dbu.amount
    ∧ (soloRaise need s).dbu.needOfRunning = s.dbu.needOfRunning
    ∧ (soloRaise need s).dbu.lastSettled = s.dbu.lastSettled
    ∧ (soloRaise need s).dbu.settleAt = s.dbu.settleAt ∧ (soloRaise need s).ssu = s.ssu
    ∧ (soloRaise need s).pvu = s.pvu ∧ (soloRaise need s).lnc.line = s.lnc.line
    ∧ (soloRaise need s).lnc.queue = s.lnc.queue ∧ (soloRaise need s).lnc.tx = s.lnc.tx
    ∧ (soloRaise need s).lnc.beaconAt = s.lnc.beaconAt
    ∧ (soloRaise need s).lnc.listenAt = s.lnc.listenAt
    ∧ (soloRaise need s).lnc.silenceAt = s.lnc.silenceAt
    ∧ (soloRaise need s).lnc.sequence = s.lnc.sequence
    ∧ (soloRaise need s).lnc.deafCount = s.lnc.deafCount
    ∧ (soloRaise need s).lnc.quiet = s.lnc.quiet ∧ (soloRaise need s).lnc.charLeft = s.lnc.charLeft
    ∧ (soloRaise need s).lnc.synced = s.lnc.synced ∧ (soloRaise need s).spu = s.spu
    ∧ (soloRaise need s).cpn.spi = s.cpn.spi ∧ (soloRaise need s).cpn.reply = s.cpn.reply
    ∧ (soloRaise need s).cpn.events = s.cpn.events ∧ (soloRaise need s).cpn.ring = s.cpn.ring
    ∧ (soloRaise need s).cpn.straps = s.cpn.straps
    ∧ (soloRaise need s).cpn.strapDone = s.cpn.strapDone
    ∧ (soloRaise need s).cpn.strapSampler = s.cpn.strapSampler := by
  unfold soloRaise
  dsimp only
  repeat' split
  all_goals simp

@[simp] theorem giveNeed_keeps (need : Nat) (s : State) :
    (giveNeed need s).now = s.now ∧ (giveNeed need s).micros = s.micros
    ∧ (giveNeed need s).joinedAt = s.joinedAt ∧ (giveNeed need s).rstLow = s.rstLow
    ∧ (giveNeed need s).pst = s.pst ∧ (giveNeed need s).pending = s.pending
    ∧ (giveNeed need s).rsq = s.rsq ∧ (giveNeed need s).dbu.limit = s.dbu.limit
    ∧ (giveNeed need s).dbu.epoch = s.dbu.epoch ∧ (giveNeed need s).dbu.phase = s.dbu.phase
    ∧ (giveNeed need s).dbu.learned = s.dbu.learned
    ∧ (giveNeed need s).dbu.mismatch = s.dbu.mismatch
    ∧ (giveNeed need s).dbu.lastSettled = s.dbu.lastSettled ∧ (giveNeed need s).ssu = s.ssu
    ∧ (giveNeed need s).pvu.peers = s.pvu.peers ∧ (giveNeed need s).lnc.line = s.lnc.line
    ∧ (giveNeed need s).lnc.tx = s.lnc.tx ∧ (giveNeed need s).lnc.beaconAt = s.lnc.beaconAt
    ∧ (giveNeed need s).lnc.listenAt = s.lnc.listenAt
    ∧ (giveNeed need s).lnc.silenceAt = s.lnc.silenceAt
    ∧ (giveNeed need s).lnc.sequence = s.lnc.sequence
    ∧ (giveNeed need s).lnc.deafCount = s.lnc.deafCount ∧ (giveNeed need s).lnc.quiet = s.lnc.quiet
    ∧ (giveNeed need s).lnc.charLeft = s.lnc.charLeft ∧ (giveNeed need s).lnc.synced = s.lnc.synced
    ∧ (giveNeed need s).spu = s.spu ∧ (giveNeed need s).cpn.spi = s.cpn.spi
    ∧ (giveNeed need s).cpn.reply = s.cpn.reply ∧ (giveNeed need s).cpn.events = s.cpn.events
    ∧ (giveNeed need s).cpn.ring = s.cpn.ring ∧ (giveNeed need s).cpn.straps = s.cpn.straps
    ∧ (giveNeed need s).cpn.strapDone = s.cpn.strapDone
    ∧ (giveNeed need s).cpn.strapSampler = s.cpn.strapSampler := by
  unfold giveNeed
  repeat' split
  all_goals simp

@[simp] theorem countWithdrawn_keeps (s : State) :
    (countWithdrawn s).now = s.now ∧ (countWithdrawn s).micros = s.micros
    ∧ (countWithdrawn s).joinedAt = s.joinedAt ∧ (countWithdrawn s).rstLow = s.rstLow
    ∧ (countWithdrawn s).pst = s.pst ∧ (countWithdrawn s).pending = s.pending
    ∧ (countWithdrawn s).rsq.state = s.rsq.state
    ∧ (countWithdrawn s).rsq.pendingSet = s.rsq.pendingSet
    ∧ (countWithdrawn s).rsq.currentCause = s.rsq.currentCause
    ∧ (countWithdrawn s).rsq.step = s.rsq.step ∧ (countWithdrawn s).rsq.dwell = s.rsq.dwell
    ∧ (countWithdrawn s).rsq.levelHoldTime = s.rsq.levelHoldTime
    ∧ (countWithdrawn s).rsq.levelHold = s.rsq.levelHold
    ∧ (countWithdrawn s).rsq.speed = s.rsq.speed ∧ (countWithdrawn s).rsq.stack = s.rsq.stack
    ∧ (countWithdrawn s).rsq.carried = s.rsq.carried
    ∧ (countWithdrawn s).rsq.baseUrgency = s.rsq.baseUrgency
    ∧ (countWithdrawn s).rsq.urgencyBase = s.rsq.urgencyBase
    ∧ (countWithdrawn s).rsq.handbackAt = s.rsq.handbackAt
    ∧ (countWithdrawn s).rsq.runReq = s.rsq.runReq ∧ (countWithdrawn s).rsq.urgency = s.rsq.urgency
    ∧ (countWithdrawn s).rsq.tickPhase = s.rsq.tickPhase
    ∧ (countWithdrawn s).rsq.tickTaken = s.rsq.tickTaken ∧ (countWithdrawn s).dbu = s.dbu
    ∧ (countWithdrawn s).ssu = s.ssu ∧ (countWithdrawn s).pvu = s.pvu
    ∧ (countWithdrawn s).lnc = s.lnc ∧ (countWithdrawn s).spu = s.spu
    ∧ (countWithdrawn s).cpn = s.cpn := by
  unfold countWithdrawn
  repeat' split
  all_goals simp

@[simp] theorem drawGiveWay_keeps (s : State) :
    (drawGiveWay s).now = s.now ∧ (drawGiveWay s).micros = s.micros
    ∧ (drawGiveWay s).joinedAt = s.joinedAt ∧ (drawGiveWay s).rstLow = s.rstLow
    ∧ (drawGiveWay s).pst = s.pst ∧ (drawGiveWay s).pending = s.pending
    ∧ (drawGiveWay s).rsq.state = s.rsq.state ∧ (drawGiveWay s).rsq.pendingSet = s.rsq.pendingSet
    ∧ (drawGiveWay s).rsq.currentCause = s.rsq.currentCause ∧ (drawGiveWay s).rsq.step = s.rsq.step
    ∧ (drawGiveWay s).rsq.dwell = s.rsq.dwell
    ∧ (drawGiveWay s).rsq.levelHoldTime = s.rsq.levelHoldTime
    ∧ (drawGiveWay s).rsq.levelHold = s.rsq.levelHold ∧ (drawGiveWay s).rsq.speed = s.rsq.speed
    ∧ (drawGiveWay s).rsq.stack = s.rsq.stack ∧ (drawGiveWay s).rsq.carried = s.rsq.carried
    ∧ (drawGiveWay s).rsq.baseUrgency = s.rsq.baseUrgency
    ∧ (drawGiveWay s).rsq.urgencyBase = s.rsq.urgencyBase
    ∧ (drawGiveWay s).rsq.handbackAt = s.rsq.handbackAt ∧ (drawGiveWay s).rsq.runReq = s.rsq.runReq
    ∧ (drawGiveWay s).rsq.urgency = s.rsq.urgency ∧ (drawGiveWay s).rsq.tickPhase = s.rsq.tickPhase
    ∧ (drawGiveWay s).rsq.tickTaken = s.rsq.tickTaken ∧ (drawGiveWay s).dbu.granted = s.dbu.granted
    ∧ (drawGiveWay s).dbu.limit = s.dbu.limit ∧ (drawGiveWay s).dbu.epoch = s.dbu.epoch
    ∧ (drawGiveWay s).dbu.phase = s.dbu.phase ∧ (drawGiveWay s).dbu.learned = s.dbu.learned
    ∧ (drawGiveWay s).dbu.mismatch = s.dbu.mismatch
    ∧ (drawGiveWay s).dbu.claimNumber = s.dbu.claimNumber
    ∧ (drawGiveWay s).dbu.amount = s.dbu.amount ∧ (drawGiveWay s).dbu.need = s.dbu.need
    ∧ (drawGiveWay s).dbu.needOfRunning = s.dbu.needOfRunning
    ∧ (drawGiveWay s).dbu.lastSettled = s.dbu.lastSettled
    ∧ (drawGiveWay s).dbu.overcommit = s.dbu.overcommit ∧ (drawGiveWay s).ssu = s.ssu
    ∧ (drawGiveWay s).pvu.peers = s.pvu.peers ∧ (drawGiveWay s).lnc.line = s.lnc.line
    ∧ (drawGiveWay s).lnc.beacon = s.lnc.beacon ∧ (drawGiveWay s).lnc.tx = s.lnc.tx
    ∧ (drawGiveWay s).lnc.beaconAt = s.lnc.beaconAt ∧ (drawGiveWay s).lnc.listenAt = s.lnc.listenAt
    ∧ (drawGiveWay s).lnc.silenceAt = s.lnc.silenceAt
    ∧ (drawGiveWay s).lnc.sequence = s.lnc.sequence
    ∧ (drawGiveWay s).lnc.deafCount = s.lnc.deafCount ∧ (drawGiveWay s).lnc.quiet = s.lnc.quiet
    ∧ (drawGiveWay s).lnc.charLeft = s.lnc.charLeft ∧ (drawGiveWay s).lnc.synced = s.lnc.synced
    ∧ (drawGiveWay s).spu = s.spu ∧ (drawGiveWay s).cpn = s.cpn := by
  unfold drawGiveWay
  simp

@[simp] theorem drawViewChange_keeps (s : State) :
    (drawViewChange s).now = s.now ∧ (drawViewChange s).micros = s.micros
    ∧ (drawViewChange s).joinedAt = s.joinedAt ∧ (drawViewChange s).rstLow = s.rstLow
    ∧ (drawViewChange s).pst = s.pst ∧ (drawViewChange s).pending = s.pending
    ∧ (drawViewChange s).rsq.state = s.rsq.state
    ∧ (drawViewChange s).rsq.pendingSet = s.rsq.pendingSet
    ∧ (drawViewChange s).rsq.currentCause = s.rsq.currentCause
    ∧ (drawViewChange s).rsq.step = s.rsq.step ∧ (drawViewChange s).rsq.dwell = s.rsq.dwell
    ∧ (drawViewChange s).rsq.levelHoldTime = s.rsq.levelHoldTime
    ∧ (drawViewChange s).rsq.levelHold = s.rsq.levelHold
    ∧ (drawViewChange s).rsq.speed = s.rsq.speed ∧ (drawViewChange s).rsq.stack = s.rsq.stack
    ∧ (drawViewChange s).rsq.carried = s.rsq.carried
    ∧ (drawViewChange s).rsq.baseUrgency = s.rsq.baseUrgency
    ∧ (drawViewChange s).rsq.urgencyBase = s.rsq.urgencyBase
    ∧ (drawViewChange s).rsq.handbackAt = s.rsq.handbackAt
    ∧ (drawViewChange s).rsq.runReq = s.rsq.runReq ∧ (drawViewChange s).rsq.urgency = s.rsq.urgency
    ∧ (drawViewChange s).rsq.tickPhase = s.rsq.tickPhase
    ∧ (drawViewChange s).rsq.tickTaken = s.rsq.tickTaken
    ∧ (drawViewChange s).dbu.granted = s.dbu.granted ∧ (drawViewChange s).dbu.limit = s.dbu.limit
    ∧ (drawViewChange s).dbu.epoch = s.dbu.epoch ∧ (drawViewChange s).dbu.phase = s.dbu.phase
    ∧ (drawViewChange s).dbu.learned = s.dbu.learned
    ∧ (drawViewChange s).dbu.mismatch = s.dbu.mismatch ∧ (drawViewChange s).dbu.need = s.dbu.need
    ∧ (drawViewChange s).dbu.needOfRunning = s.dbu.needOfRunning
    ∧ (drawViewChange s).dbu.lastSettled = s.dbu.lastSettled
    ∧ (drawViewChange s).dbu.overcommit = s.dbu.overcommit ∧ (drawViewChange s).ssu = s.ssu
    ∧ (drawViewChange s).pvu.peers = s.pvu.peers ∧ (drawViewChange s).lnc.line = s.lnc.line
    ∧ (drawViewChange s).lnc.beacon = s.lnc.beacon ∧ (drawViewChange s).lnc.tx = s.lnc.tx
    ∧ (drawViewChange s).lnc.beaconAt = s.lnc.beaconAt
    ∧ (drawViewChange s).lnc.listenAt = s.lnc.listenAt
    ∧ (drawViewChange s).lnc.silenceAt = s.lnc.silenceAt
    ∧ (drawViewChange s).lnc.sequence = s.lnc.sequence
    ∧ (drawViewChange s).lnc.deafCount = s.lnc.deafCount
    ∧ (drawViewChange s).lnc.quiet = s.lnc.quiet ∧ (drawViewChange s).lnc.charLeft = s.lnc.charLeft
    ∧ (drawViewChange s).lnc.synced = s.lnc.synced ∧ (drawViewChange s).spu = s.spu
    ∧ (drawViewChange s).cpn = s.cpn := by
  unfold drawViewChange
  repeat' split
  all_goals simp

@[simp] theorem drawWithdraw_keeps (s : State) :
    (drawWithdraw s).now = s.now ∧ (drawWithdraw s).micros = s.micros
    ∧ (drawWithdraw s).joinedAt = s.joinedAt ∧ (drawWithdraw s).rstLow = s.rstLow
    ∧ (drawWithdraw s).pst = s.pst ∧ (drawWithdraw s).pending = s.pending
    ∧ (drawWithdraw s).rsq = s.rsq ∧ (drawWithdraw s).dbu.granted = s.dbu.granted
    ∧ (drawWithdraw s).dbu.limit = s.dbu.limit ∧ (drawWithdraw s).dbu.epoch = s.dbu.epoch
    ∧ (drawWithdraw s).dbu.phase = s.dbu.phase ∧ (drawWithdraw s).dbu.learned = s.dbu.learned
    ∧ (drawWithdraw s).dbu.mismatch = s.dbu.mismatch
    ∧ (drawWithdraw s).dbu.claimNumber = s.dbu.claimNumber
    ∧ (drawWithdraw s).dbu.amount = s.dbu.amount
    ∧ (drawWithdraw s).dbu.needOfRunning = s.dbu.needOfRunning
    ∧ (drawWithdraw s).dbu.lastSettled = s.dbu.lastSettled
    ∧ (drawWithdraw s).dbu.overcommit = s.dbu.overcommit ∧ (drawWithdraw s).ssu = s.ssu
    ∧ (drawWithdraw s).pvu.peers = s.pvu.peers ∧ (drawWithdraw s).lnc.line = s.lnc.line
    ∧ (drawWithdraw s).lnc.beacon = s.lnc.beacon ∧ (drawWithdraw s).lnc.tx = s.lnc.tx
    ∧ (drawWithdraw s).lnc.beaconAt = s.lnc.beaconAt
    ∧ (drawWithdraw s).lnc.listenAt = s.lnc.listenAt
    ∧ (drawWithdraw s).lnc.silenceAt = s.lnc.silenceAt
    ∧ (drawWithdraw s).lnc.sequence = s.lnc.sequence
    ∧ (drawWithdraw s).lnc.deafCount = s.lnc.deafCount ∧ (drawWithdraw s).lnc.quiet = s.lnc.quiet
    ∧ (drawWithdraw s).lnc.charLeft = s.lnc.charLeft ∧ (drawWithdraw s).lnc.synced = s.lnc.synced
    ∧ (drawWithdraw s).spu = s.spu ∧ (drawWithdraw s).cpn = s.cpn := by
  unfold drawWithdraw
  repeat' split
  all_goals simp

@[simp] theorem drawLineLost_keeps (s : State) :
    (drawLineLost s).now = s.now ∧ (drawLineLost s).micros = s.micros
    ∧ (drawLineLost s).joinedAt = s.joinedAt ∧ (drawLineLost s).rstLow = s.rstLow
    ∧ (drawLineLost s).pst = s.pst ∧ (drawLineLost s).pending = s.pending
    ∧ (drawLineLost s).rsq.state = s.rsq.state ∧ (drawLineLost s).rsq.pendingSet = s.rsq.pendingSet
    ∧ (drawLineLost s).rsq.currentCause = s.rsq.currentCause
    ∧ (drawLineLost s).rsq.step = s.rsq.step ∧ (drawLineLost s).rsq.dwell = s.rsq.dwell
    ∧ (drawLineLost s).rsq.levelHoldTime = s.rsq.levelHoldTime
    ∧ (drawLineLost s).rsq.levelHold = s.rsq.levelHold ∧ (drawLineLost s).rsq.speed = s.rsq.speed
    ∧ (drawLineLost s).rsq.stack = s.rsq.stack ∧ (drawLineLost s).rsq.carried = s.rsq.carried
    ∧ (drawLineLost s).rsq.baseUrgency = s.rsq.baseUrgency
    ∧ (drawLineLost s).rsq.urgencyBase = s.rsq.urgencyBase
    ∧ (drawLineLost s).rsq.handbackAt = s.rsq.handbackAt
    ∧ (drawLineLost s).rsq.runReq = s.rsq.runReq ∧ (drawLineLost s).rsq.urgency = s.rsq.urgency
    ∧ (drawLineLost s).rsq.tickPhase = s.rsq.tickPhase
    ∧ (drawLineLost s).rsq.tickTaken = s.rsq.tickTaken ∧ (drawLineLost s).dbu.limit = s.dbu.limit
    ∧ (drawLineLost s).dbu.epoch = s.dbu.epoch ∧ (drawLineLost s).dbu.phase = s.dbu.phase
    ∧ (drawLineLost s).dbu.learned = s.dbu.learned ∧ (drawLineLost s).dbu.mismatch = s.dbu.mismatch
    ∧ (drawLineLost s).dbu.claimNumber = s.dbu.claimNumber
    ∧ (drawLineLost s).dbu.amount = s.dbu.amount
    ∧ (drawLineLost s).dbu.needOfRunning = s.dbu.needOfRunning
    ∧ (drawLineLost s).dbu.lastSettled = s.dbu.lastSettled ∧ (drawLineLost s).ssu = s.ssu
    ∧ (drawLineLost s).pvu.peers = s.pvu.peers ∧ (drawLineLost s).lnc.line = s.lnc.line
    ∧ (drawLineLost s).lnc.tx = s.lnc.tx ∧ (drawLineLost s).lnc.beaconAt = s.lnc.beaconAt
    ∧ (drawLineLost s).lnc.listenAt = s.lnc.listenAt
    ∧ (drawLineLost s).lnc.silenceAt = s.lnc.silenceAt
    ∧ (drawLineLost s).lnc.sequence = s.lnc.sequence
    ∧ (drawLineLost s).lnc.deafCount = s.lnc.deafCount ∧ (drawLineLost s).lnc.quiet = s.lnc.quiet
    ∧ (drawLineLost s).lnc.charLeft = s.lnc.charLeft ∧ (drawLineLost s).lnc.synced = s.lnc.synced
    ∧ (drawLineLost s).spu = s.spu ∧ (drawLineLost s).cpn.spi = s.cpn.spi
    ∧ (drawLineLost s).cpn.reply = s.cpn.reply ∧ (drawLineLost s).cpn.events = s.cpn.events
    ∧ (drawLineLost s).cpn.ring = s.cpn.ring ∧ (drawLineLost s).cpn.straps = s.cpn.straps
    ∧ (drawLineLost s).cpn.strapDone = s.cpn.strapDone
    ∧ (drawLineLost s).cpn.strapSampler = s.cpn.strapSampler := by
  unfold drawLineLost
  repeat' split
  all_goals simp

@[simp] theorem dropHeldNeed_keeps (s : State) :
    (dropHeldNeed s).now = s.now ∧ (dropHeldNeed s).micros = s.micros
    ∧ (dropHeldNeed s).joinedAt = s.joinedAt ∧ (dropHeldNeed s).rstLow = s.rstLow
    ∧ (dropHeldNeed s).pst = s.pst ∧ (dropHeldNeed s).pending = s.pending
    ∧ (dropHeldNeed s).rsq = s.rsq ∧ (dropHeldNeed s).dbu.granted = s.dbu.granted
    ∧ (dropHeldNeed s).dbu.limit = s.dbu.limit ∧ (dropHeldNeed s).dbu.epoch = s.dbu.epoch
    ∧ (dropHeldNeed s).dbu.phase = s.dbu.phase ∧ (dropHeldNeed s).dbu.learned = s.dbu.learned
    ∧ (dropHeldNeed s).dbu.mismatch = s.dbu.mismatch
    ∧ (dropHeldNeed s).dbu.claimNumber = s.dbu.claimNumber
    ∧ (dropHeldNeed s).dbu.amount = s.dbu.amount
    ∧ (dropHeldNeed s).dbu.needOfRunning = s.dbu.needOfRunning
    ∧ (dropHeldNeed s).dbu.lastSettled = s.dbu.lastSettled
    ∧ (dropHeldNeed s).dbu.settleAt = s.dbu.settleAt
    ∧ (dropHeldNeed s).dbu.overcommit = s.dbu.overcommit ∧ (dropHeldNeed s).ssu = s.ssu
    ∧ (dropHeldNeed s).pvu = s.pvu ∧ (dropHeldNeed s).lnc = s.lnc ∧ (dropHeldNeed s).spu = s.spu
    ∧ (dropHeldNeed s).cpn = s.cpn := by
  unfold dropHeldNeed
  repeat' split
  all_goals simp

@[simp] theorem resendDraw_keeps (s : State) :
    (resendDraw s).now = s.now ∧ (resendDraw s).micros = s.micros
    ∧ (resendDraw s).joinedAt = s.joinedAt ∧ (resendDraw s).rstLow = s.rstLow
    ∧ (resendDraw s).pst = s.pst ∧ (resendDraw s).pending = s.pending ∧ (resendDraw s).rsq = s.rsq
    ∧ (resendDraw s).dbu.granted = s.dbu.granted ∧ (resendDraw s).dbu.limit = s.dbu.limit
    ∧ (resendDraw s).dbu.epoch = s.dbu.epoch ∧ (resendDraw s).dbu.phase = s.dbu.phase
    ∧ (resendDraw s).dbu.learned = s.dbu.learned ∧ (resendDraw s).dbu.mismatch = s.dbu.mismatch
    ∧ (resendDraw s).dbu.claimNumber = s.dbu.claimNumber ∧ (resendDraw s).dbu.amount = s.dbu.amount
    ∧ (resendDraw s).dbu.need = s.dbu.need ∧ (resendDraw s).dbu.needOfRunning = s.dbu.needOfRunning
    ∧ (resendDraw s).dbu.lastSettled = s.dbu.lastSettled
    ∧ (resendDraw s).dbu.overcommit = s.dbu.overcommit ∧ (resendDraw s).ssu = s.ssu
    ∧ (resendDraw s).pvu.peers = s.pvu.peers ∧ (resendDraw s).lnc.line = s.lnc.line
    ∧ (resendDraw s).lnc.beacon = s.lnc.beacon ∧ (resendDraw s).lnc.tx = s.lnc.tx
    ∧ (resendDraw s).lnc.beaconAt = s.lnc.beaconAt ∧ (resendDraw s).lnc.listenAt = s.lnc.listenAt
    ∧ (resendDraw s).lnc.silenceAt = s.lnc.silenceAt ∧ (resendDraw s).lnc.sequence = s.lnc.sequence
    ∧ (resendDraw s).lnc.deafCount = s.lnc.deafCount ∧ (resendDraw s).lnc.quiet = s.lnc.quiet
    ∧ (resendDraw s).lnc.charLeft = s.lnc.charLeft ∧ (resendDraw s).lnc.synced = s.lnc.synced
    ∧ (resendDraw s).spu = s.spu ∧ (resendDraw s).cpn = s.cpn := by
  unfold resendDraw
  repeat' split
  all_goals simp

@[simp] theorem repeatStart_keeps (s : State) :
    (repeatStart s).now = s.now ∧ (repeatStart s).micros = s.micros
    ∧ (repeatStart s).joinedAt = s.joinedAt ∧ (repeatStart s).rstLow = s.rstLow
    ∧ (repeatStart s).pst = s.pst ∧ (repeatStart s).pending = s.pending
    ∧ (repeatStart s).rsq = s.rsq ∧ (repeatStart s).dbu = s.dbu
    ∧ (repeatStart s).ssu.holder = s.ssu.holder ∧ (repeatStart s).ssu.request = s.ssu.request
    ∧ (repeatStart s).ssu.claimNumber = s.ssu.claimNumber
    ∧ (repeatStart s).ssu.lastSettled = s.ssu.lastSettled
    ∧ (repeatStart s).ssu.tenure = s.ssu.tenure ∧ (repeatStart s).ssu.tenureAt = s.ssu.tenureAt
    ∧ (repeatStart s).ssu.clearPending = s.ssu.clearPending
    ∧ (repeatStart s).ssu.attempts = s.ssu.attempts
    ∧ (repeatStart s).ssu.clearSent = s.ssu.clearSent ∧ (repeatStart s).pvu.peers = s.pvu.peers
    ∧ (repeatStart s).lnc.line = s.lnc.line ∧ (repeatStart s).lnc.beacon = s.lnc.beacon
    ∧ (repeatStart s).lnc.tx = s.lnc.tx ∧ (repeatStart s).lnc.beaconAt = s.lnc.beaconAt
    ∧ (repeatStart s).lnc.listenAt = s.lnc.listenAt
    ∧ (repeatStart s).lnc.silenceAt = s.lnc.silenceAt
    ∧ (repeatStart s).lnc.sequence = s.lnc.sequence
    ∧ (repeatStart s).lnc.deafCount = s.lnc.deafCount ∧ (repeatStart s).lnc.quiet = s.lnc.quiet
    ∧ (repeatStart s).lnc.charLeft = s.lnc.charLeft ∧ (repeatStart s).lnc.synced = s.lnc.synced
    ∧ (repeatStart s).spu = s.spu ∧ (repeatStart s).cpn = s.cpn := by
  unfold repeatStart
  simp

@[simp] theorem resendStart_keeps (s : State) :
    (resendStart s).now = s.now ∧ (resendStart s).micros = s.micros
    ∧ (resendStart s).joinedAt = s.joinedAt ∧ (resendStart s).rstLow = s.rstLow
    ∧ (resendStart s).pst = s.pst ∧ (resendStart s).pending = s.pending
    ∧ (resendStart s).rsq = s.rsq ∧ (resendStart s).dbu = s.dbu
    ∧ (resendStart s).ssu.holder = s.ssu.holder ∧ (resendStart s).ssu.request = s.ssu.request
    ∧ (resendStart s).ssu.claimNumber = s.ssu.claimNumber
    ∧ (resendStart s).ssu.lastSettled = s.ssu.lastSettled
    ∧ (resendStart s).ssu.tenure = s.ssu.tenure ∧ (resendStart s).ssu.tenureAt = s.ssu.tenureAt
    ∧ (resendStart s).ssu.clearPending = s.ssu.clearPending
    ∧ (resendStart s).ssu.attempts = s.ssu.attempts
    ∧ (resendStart s).ssu.clearSent = s.ssu.clearSent ∧ (resendStart s).pvu.peers = s.pvu.peers
    ∧ (resendStart s).lnc.line = s.lnc.line ∧ (resendStart s).lnc.beacon = s.lnc.beacon
    ∧ (resendStart s).lnc.tx = s.lnc.tx ∧ (resendStart s).lnc.beaconAt = s.lnc.beaconAt
    ∧ (resendStart s).lnc.listenAt = s.lnc.listenAt
    ∧ (resendStart s).lnc.silenceAt = s.lnc.silenceAt
    ∧ (resendStart s).lnc.sequence = s.lnc.sequence
    ∧ (resendStart s).lnc.deafCount = s.lnc.deafCount ∧ (resendStart s).lnc.quiet = s.lnc.quiet
    ∧ (resendStart s).lnc.charLeft = s.lnc.charLeft ∧ (resendStart s).lnc.synced = s.lnc.synced
    ∧ (resendStart s).spu = s.spu ∧ (resendStart s).cpn = s.cpn := by
  unfold resendStart
  repeat' split
  all_goals simp

@[simp] theorem retestStart_keeps (s : State) :
    (retestStart s).now = s.now ∧ (retestStart s).micros = s.micros
    ∧ (retestStart s).joinedAt = s.joinedAt ∧ (retestStart s).rstLow = s.rstLow
    ∧ (retestStart s).pst = s.pst ∧ (retestStart s).pending = s.pending
    ∧ (retestStart s).rsq = s.rsq ∧ (retestStart s).dbu = s.dbu
    ∧ (retestStart s).ssu.holder = s.ssu.holder ∧ (retestStart s).ssu.request = s.ssu.request
    ∧ (retestStart s).ssu.claimNumber = s.ssu.claimNumber
    ∧ (retestStart s).ssu.lastSettled = s.ssu.lastSettled
    ∧ (retestStart s).ssu.tenure = s.ssu.tenure ∧ (retestStart s).ssu.tenureAt = s.ssu.tenureAt
    ∧ (retestStart s).ssu.clearPending = s.ssu.clearPending
    ∧ (retestStart s).ssu.attempts = s.ssu.attempts
    ∧ (retestStart s).ssu.clearSent = s.ssu.clearSent ∧ (retestStart s).pvu.peers = s.pvu.peers
    ∧ (retestStart s).lnc.line = s.lnc.line ∧ (retestStart s).lnc.beacon = s.lnc.beacon
    ∧ (retestStart s).lnc.tx = s.lnc.tx ∧ (retestStart s).lnc.beaconAt = s.lnc.beaconAt
    ∧ (retestStart s).lnc.listenAt = s.lnc.listenAt
    ∧ (retestStart s).lnc.silenceAt = s.lnc.silenceAt
    ∧ (retestStart s).lnc.sequence = s.lnc.sequence
    ∧ (retestStart s).lnc.deafCount = s.lnc.deafCount ∧ (retestStart s).lnc.quiet = s.lnc.quiet
    ∧ (retestStart s).lnc.charLeft = s.lnc.charLeft ∧ (retestStart s).lnc.synced = s.lnc.synced
    ∧ (retestStart s).spu = s.spu ∧ (retestStart s).cpn = s.cpn := by
  unfold retestStart
  repeat' split
  all_goals simp

@[simp] theorem clearTest_keeps (s : State) :
    (clearTest s).now = s.now ∧ (clearTest s).micros = s.micros
    ∧ (clearTest s).joinedAt = s.joinedAt ∧ (clearTest s).rstLow = s.rstLow
    ∧ (clearTest s).pst = s.pst ∧ (clearTest s).pending = s.pending ∧ (clearTest s).rsq = s.rsq
    ∧ (clearTest s).dbu = s.dbu ∧ (clearTest s).ssu.holder = s.ssu.holder
    ∧ (clearTest s).ssu.request = s.ssu.request ∧ (clearTest s).ssu.claim = s.ssu.claim
    ∧ (clearTest s).ssu.claimNumber = s.ssu.claimNumber
    ∧ (clearTest s).ssu.lastSettled = s.ssu.lastSettled
    ∧ (clearTest s).ssu.settleAt = s.ssu.settleAt ∧ (clearTest s).ssu.tenure = s.ssu.tenure
    ∧ (clearTest s).ssu.tenureAt = s.ssu.tenureAt
    ∧ (clearTest s).ssu.clearPending = s.ssu.clearPending
    ∧ (clearTest s).ssu.attempts = s.ssu.attempts ∧ (clearTest s).pvu = s.pvu
    ∧ (clearTest s).lnc.line = s.lnc.line ∧ (clearTest s).lnc.beacon = s.lnc.beacon
    ∧ (clearTest s).lnc.tx = s.lnc.tx ∧ (clearTest s).lnc.beaconAt = s.lnc.beaconAt
    ∧ (clearTest s).lnc.listenAt = s.lnc.listenAt ∧ (clearTest s).lnc.silenceAt = s.lnc.silenceAt
    ∧ (clearTest s).lnc.sequence = s.lnc.sequence ∧ (clearTest s).lnc.deafCount = s.lnc.deafCount
    ∧ (clearTest s).lnc.quiet = s.lnc.quiet ∧ (clearTest s).lnc.charLeft = s.lnc.charLeft
    ∧ (clearTest s).lnc.synced = s.lnc.synced ∧ (clearTest s).spu = s.spu
    ∧ (clearTest s).cpn = s.cpn := by
  unfold clearTest
  repeat' split
  all_goals simp

@[simp] theorem setHolder_keeps (v : Option Nat) (s : State) :
    (setHolder v s).now = s.now ∧ (setHolder v s).micros = s.micros
    ∧ (setHolder v s).joinedAt = s.joinedAt ∧ (setHolder v s).rstLow = s.rstLow
    ∧ (setHolder v s).pst = s.pst ∧ (setHolder v s).pending = s.pending
    ∧ (setHolder v s).rsq = s.rsq ∧ (setHolder v s).dbu = s.dbu
    ∧ (setHolder v s).ssu.request = s.ssu.request
    ∧ (setHolder v s).ssu.claimNumber = s.ssu.claimNumber
    ∧ (setHolder v s).ssu.lastSettled = s.ssu.lastSettled
    ∧ (setHolder v s).ssu.tenure = s.ssu.tenure ∧ (setHolder v s).ssu.tenureAt = s.ssu.tenureAt
    ∧ (setHolder v s).ssu.clearPending = s.ssu.clearPending
    ∧ (setHolder v s).ssu.attempts = s.ssu.attempts ∧ (setHolder v s).pvu.peers = s.pvu.peers
    ∧ (setHolder v s).lnc.line = s.lnc.line ∧ (setHolder v s).lnc.beacon = s.lnc.beacon
    ∧ (setHolder v s).lnc.tx = s.lnc.tx ∧ (setHolder v s).lnc.beaconAt = s.lnc.beaconAt
    ∧ (setHolder v s).lnc.listenAt = s.lnc.listenAt
    ∧ (setHolder v s).lnc.silenceAt = s.lnc.silenceAt
    ∧ (setHolder v s).lnc.sequence = s.lnc.sequence
    ∧ (setHolder v s).lnc.deafCount = s.lnc.deafCount ∧ (setHolder v s).lnc.quiet = s.lnc.quiet
    ∧ (setHolder v s).lnc.charLeft = s.lnc.charLeft ∧ (setHolder v s).lnc.synced = s.lnc.synced
    ∧ (setHolder v s).spu = s.spu ∧ (setHolder v s).cpn = s.cpn := by
  unfold setHolder
  repeat' split
  all_goals simp

@[simp] theorem withdrawStart_keeps (s : State) :
    (withdrawStart s).now = s.now ∧ (withdrawStart s).micros = s.micros
    ∧ (withdrawStart s).joinedAt = s.joinedAt ∧ (withdrawStart s).rstLow = s.rstLow
    ∧ (withdrawStart s).pst = s.pst ∧ (withdrawStart s).pending = s.pending
    ∧ (withdrawStart s).rsq = s.rsq ∧ (withdrawStart s).dbu = s.dbu
    ∧ (withdrawStart s).ssu.holder = s.ssu.holder ∧ (withdrawStart s).ssu.request = s.ssu.request
    ∧ (withdrawStart s).ssu.claimNumber = s.ssu.claimNumber
    ∧ (withdrawStart s).ssu.lastSettled = s.ssu.lastSettled
    ∧ (withdrawStart s).ssu.tenure = s.ssu.tenure ∧ (withdrawStart s).ssu.tenureAt = s.ssu.tenureAt
    ∧ (withdrawStart s).ssu.clearPending = s.ssu.clearPending
    ∧ (withdrawStart s).ssu.attempts = s.ssu.attempts ∧ (withdrawStart s).pvu.peers = s.pvu.peers
    ∧ (withdrawStart s).lnc.line = s.lnc.line ∧ (withdrawStart s).lnc.beacon = s.lnc.beacon
    ∧ (withdrawStart s).lnc.tx = s.lnc.tx ∧ (withdrawStart s).lnc.beaconAt = s.lnc.beaconAt
    ∧ (withdrawStart s).lnc.listenAt = s.lnc.listenAt
    ∧ (withdrawStart s).lnc.silenceAt = s.lnc.silenceAt
    ∧ (withdrawStart s).lnc.sequence = s.lnc.sequence
    ∧ (withdrawStart s).lnc.deafCount = s.lnc.deafCount ∧ (withdrawStart s).lnc.quiet = s.lnc.quiet
    ∧ (withdrawStart s).lnc.charLeft = s.lnc.charLeft ∧ (withdrawStart s).lnc.synced = s.lnc.synced
    ∧ (withdrawStart s).spu = s.spu ∧ (withdrawStart s).cpn = s.cpn := by
  unfold withdrawStart
  repeat' split
  all_goals simp

@[simp] theorem endTenure_keeps (r : ReleaseReason) (s : State) :
    (endTenure r s).now = s.now ∧ (endTenure r s).micros = s.micros
    ∧ (endTenure r s).joinedAt = s.joinedAt ∧ (endTenure r s).rstLow = s.rstLow
    ∧ (endTenure r s).pst = s.pst ∧ (endTenure r s).pending = s.pending
    ∧ (endTenure r s).rsq = s.rsq ∧ (endTenure r s).dbu = s.dbu
    ∧ (endTenure r s).ssu.request = s.ssu.request
    ∧ (endTenure r s).ssu.claimNumber = s.ssu.claimNumber
    ∧ (endTenure r s).ssu.lastSettled = s.ssu.lastSettled
    ∧ (endTenure r s).ssu.attempts = s.ssu.attempts ∧ (endTenure r s).pvu.peers = s.pvu.peers
    ∧ (endTenure r s).lnc.line = s.lnc.line ∧ (endTenure r s).lnc.tx = s.lnc.tx
    ∧ (endTenure r s).lnc.beaconAt = s.lnc.beaconAt ∧ (endTenure r s).lnc.listenAt = s.lnc.listenAt
    ∧ (endTenure r s).lnc.silenceAt = s.lnc.silenceAt
    ∧ (endTenure r s).lnc.sequence = s.lnc.sequence
    ∧ (endTenure r s).lnc.deafCount = s.lnc.deafCount ∧ (endTenure r s).lnc.quiet = s.lnc.quiet
    ∧ (endTenure r s).lnc.charLeft = s.lnc.charLeft ∧ (endTenure r s).lnc.synced = s.lnc.synced
    ∧ (endTenure r s).spu = s.spu ∧ (endTenure r s).cpn = s.cpn := by
  unfold endTenure
  repeat' split
  all_goals simp

@[simp] theorem withdrawClaims_keeps (s : State) :
    (withdrawClaims s).now = s.now ∧ (withdrawClaims s).micros = s.micros
    ∧ (withdrawClaims s).joinedAt = s.joinedAt ∧ (withdrawClaims s).rstLow = s.rstLow
    ∧ (withdrawClaims s).pst = s.pst ∧ (withdrawClaims s).pending = s.pending
    ∧ (withdrawClaims s).rsq = s.rsq ∧ (withdrawClaims s).dbu.granted = s.dbu.granted
    ∧ (withdrawClaims s).dbu.limit = s.dbu.limit ∧ (withdrawClaims s).dbu.epoch = s.dbu.epoch
    ∧ (withdrawClaims s).dbu.phase = s.dbu.phase ∧ (withdrawClaims s).dbu.learned = s.dbu.learned
    ∧ (withdrawClaims s).dbu.mismatch = s.dbu.mismatch
    ∧ (withdrawClaims s).dbu.claimNumber = s.dbu.claimNumber
    ∧ (withdrawClaims s).dbu.amount = s.dbu.amount
    ∧ (withdrawClaims s).dbu.needOfRunning = s.dbu.needOfRunning
    ∧ (withdrawClaims s).dbu.lastSettled = s.dbu.lastSettled
    ∧ (withdrawClaims s).dbu.overcommit = s.dbu.overcommit
    ∧ (withdrawClaims s).ssu.claimNumber = s.ssu.claimNumber
    ∧ (withdrawClaims s).ssu.lastSettled = s.ssu.lastSettled
    ∧ (withdrawClaims s).ssu.attempts = s.ssu.attempts ∧ (withdrawClaims s).pvu.peers = s.pvu.peers
    ∧ (withdrawClaims s).lnc.line = s.lnc.line ∧ (withdrawClaims s).lnc.tx = s.lnc.tx
    ∧ (withdrawClaims s).lnc.beaconAt = s.lnc.beaconAt
    ∧ (withdrawClaims s).lnc.listenAt = s.lnc.listenAt
    ∧ (withdrawClaims s).lnc.silenceAt = s.lnc.silenceAt
    ∧ (withdrawClaims s).lnc.sequence = s.lnc.sequence
    ∧ (withdrawClaims s).lnc.deafCount = s.lnc.deafCount
    ∧ (withdrawClaims s).lnc.quiet = s.lnc.quiet ∧ (withdrawClaims s).lnc.charLeft = s.lnc.charLeft
    ∧ (withdrawClaims s).lnc.synced = s.lnc.synced ∧ (withdrawClaims s).spu = s.spu
    ∧ (withdrawClaims s).cpn = s.cpn := by
  unfold withdrawClaims
  simp

@[simp] theorem refreshUrgency_keeps (s : State) :
    (refreshUrgency s).now = s.now ∧ (refreshUrgency s).micros = s.micros
    ∧ (refreshUrgency s).joinedAt = s.joinedAt ∧ (refreshUrgency s).rstLow = s.rstLow
    ∧ (refreshUrgency s).pst = s.pst ∧ (refreshUrgency s).pending = s.pending
    ∧ (refreshUrgency s).rsq.state = s.rsq.state
    ∧ (refreshUrgency s).rsq.pendingSet = s.rsq.pendingSet
    ∧ (refreshUrgency s).rsq.currentCause = s.rsq.currentCause
    ∧ (refreshUrgency s).rsq.step = s.rsq.step ∧ (refreshUrgency s).rsq.dwell = s.rsq.dwell
    ∧ (refreshUrgency s).rsq.levelHoldTime = s.rsq.levelHoldTime
    ∧ (refreshUrgency s).rsq.levelHold = s.rsq.levelHold
    ∧ (refreshUrgency s).rsq.speed = s.rsq.speed ∧ (refreshUrgency s).rsq.stack = s.rsq.stack
    ∧ (refreshUrgency s).rsq.carried = s.rsq.carried
    ∧ (refreshUrgency s).rsq.baseUrgency = s.rsq.baseUrgency
    ∧ (refreshUrgency s).rsq.urgencyBase = s.rsq.urgencyBase
    ∧ (refreshUrgency s).rsq.counters = s.rsq.counters
    ∧ (refreshUrgency s).rsq.handbackAt = s.rsq.handbackAt
    ∧ (refreshUrgency s).rsq.runReq = s.rsq.runReq
    ∧ (refreshUrgency s).rsq.tickPhase = s.rsq.tickPhase
    ∧ (refreshUrgency s).rsq.tickTaken = s.rsq.tickTaken
    ∧ (refreshUrgency s).dbu.granted = s.dbu.granted ∧ (refreshUrgency s).dbu.limit = s.dbu.limit
    ∧ (refreshUrgency s).dbu.epoch = s.dbu.epoch ∧ (refreshUrgency s).dbu.phase = s.dbu.phase
    ∧ (refreshUrgency s).dbu.learned = s.dbu.learned
    ∧ (refreshUrgency s).dbu.mismatch = s.dbu.mismatch
    ∧ (refreshUrgency s).dbu.claimNumber = s.dbu.claimNumber
    ∧ (refreshUrgency s).dbu.amount = s.dbu.amount ∧ (refreshUrgency s).dbu.need = s.dbu.need
    ∧ (refreshUrgency s).dbu.needOfRunning = s.dbu.needOfRunning
    ∧ (refreshUrgency s).dbu.lastSettled = s.dbu.lastSettled
    ∧ (refreshUrgency s).dbu.overcommit = s.dbu.overcommit
    ∧ (refreshUrgency s).ssu.holder = s.ssu.holder ∧ (refreshUrgency s).ssu.request = s.ssu.request
    ∧ (refreshUrgency s).ssu.claimNumber = s.ssu.claimNumber
    ∧ (refreshUrgency s).ssu.lastSettled = s.ssu.lastSettled
    ∧ (refreshUrgency s).ssu.tenure = s.ssu.tenure
    ∧ (refreshUrgency s).ssu.tenureAt = s.ssu.tenureAt
    ∧ (refreshUrgency s).ssu.clearPending = s.ssu.clearPending
    ∧ (refreshUrgency s).ssu.attempts = s.ssu.attempts
    ∧ (refreshUrgency s).ssu.clearSent = s.ssu.clearSent
    ∧ (refreshUrgency s).pvu.peers = s.pvu.peers ∧ (refreshUrgency s).lnc.line = s.lnc.line
    ∧ (refreshUrgency s).lnc.tx = s.lnc.tx ∧ (refreshUrgency s).lnc.beaconAt = s.lnc.beaconAt
    ∧ (refreshUrgency s).lnc.listenAt = s.lnc.listenAt
    ∧ (refreshUrgency s).lnc.silenceAt = s.lnc.silenceAt
    ∧ (refreshUrgency s).lnc.sequence = s.lnc.sequence
    ∧ (refreshUrgency s).lnc.deafCount = s.lnc.deafCount
    ∧ (refreshUrgency s).lnc.quiet = s.lnc.quiet ∧ (refreshUrgency s).lnc.charLeft = s.lnc.charLeft
    ∧ (refreshUrgency s).lnc.synced = s.lnc.synced ∧ (refreshUrgency s).spu = s.spu
    ∧ (refreshUrgency s).cpn = s.cpn := by
  unfold refreshUrgency
  repeat' split
  all_goals simp

@[simp] theorem beaconIfChanged_keeps (b : State) (s : State) :
    (beaconIfChanged b s).now = s.now ∧ (beaconIfChanged b s).micros = s.micros
    ∧ (beaconIfChanged b s).joinedAt = s.joinedAt ∧ (beaconIfChanged b s).rstLow = s.rstLow
    ∧ (beaconIfChanged b s).pst = s.pst ∧ (beaconIfChanged b s).pending = s.pending
    ∧ (beaconIfChanged b s).rsq = s.rsq ∧ (beaconIfChanged b s).dbu = s.dbu
    ∧ (beaconIfChanged b s).ssu = s.ssu ∧ (beaconIfChanged b s).pvu = s.pvu
    ∧ (beaconIfChanged b s).lnc.line = s.lnc.line ∧ (beaconIfChanged b s).lnc.queue = s.lnc.queue
    ∧ (beaconIfChanged b s).lnc.tx = s.lnc.tx ∧ (beaconIfChanged b s).lnc.beaconAt = s.lnc.beaconAt
    ∧ (beaconIfChanged b s).lnc.listenAt = s.lnc.listenAt
    ∧ (beaconIfChanged b s).lnc.silenceAt = s.lnc.silenceAt
    ∧ (beaconIfChanged b s).lnc.sequence = s.lnc.sequence
    ∧ (beaconIfChanged b s).lnc.deafCount = s.lnc.deafCount
    ∧ (beaconIfChanged b s).lnc.quiet = s.lnc.quiet
    ∧ (beaconIfChanged b s).lnc.charLeft = s.lnc.charLeft
    ∧ (beaconIfChanged b s).lnc.synced = s.lnc.synced ∧ (beaconIfChanged b s).spu = s.spu
    ∧ (beaconIfChanged b s).cpn = s.cpn := by
  unfold beaconIfChanged
  repeat' split
  all_goals simp

@[simp] theorem creepTest_keeps (s : State) :
    (creepTest s).now = s.now ∧ (creepTest s).micros = s.micros
    ∧ (creepTest s).joinedAt = s.joinedAt ∧ (creepTest s).rstLow = s.rstLow
    ∧ (creepTest s).pst = s.pst ∧ (creepTest s).pending = s.pending
    ∧ (creepTest s).rsq.state = s.rsq.state ∧ (creepTest s).rsq.pendingSet = s.rsq.pendingSet
    ∧ (creepTest s).rsq.currentCause = s.rsq.currentCause ∧ (creepTest s).rsq.step = s.rsq.step
    ∧ (creepTest s).rsq.dwell = s.rsq.dwell ∧ (creepTest s).rsq.levelHoldTime = s.rsq.levelHoldTime
    ∧ (creepTest s).rsq.levelHold = s.rsq.levelHold ∧ (creepTest s).rsq.speed = s.rsq.speed
    ∧ (creepTest s).rsq.stack = s.rsq.stack ∧ (creepTest s).rsq.baseUrgency = s.rsq.baseUrgency
    ∧ (creepTest s).rsq.urgencyBase = s.rsq.urgencyBase
    ∧ (creepTest s).rsq.handbackAt = s.rsq.handbackAt ∧ (creepTest s).rsq.runReq = s.rsq.runReq
    ∧ (creepTest s).rsq.tickPhase = s.rsq.tickPhase ∧ (creepTest s).rsq.tickTaken = s.rsq.tickTaken
    ∧ (creepTest s).dbu.granted = s.dbu.granted ∧ (creepTest s).dbu.limit = s.dbu.limit
    ∧ (creepTest s).dbu.epoch = s.dbu.epoch ∧ (creepTest s).dbu.phase = s.dbu.phase
    ∧ (creepTest s).dbu.learned = s.dbu.learned ∧ (creepTest s).dbu.mismatch = s.dbu.mismatch
    ∧ (creepTest s).dbu.claimNumber = s.dbu.claimNumber ∧ (creepTest s).dbu.amount = s.dbu.amount
    ∧ (creepTest s).dbu.need = s.dbu.need ∧ (creepTest s).dbu.needOfRunning = s.dbu.needOfRunning
    ∧ (creepTest s).dbu.lastSettled = s.dbu.lastSettled
    ∧ (creepTest s).dbu.overcommit = s.dbu.overcommit ∧ (creepTest s).ssu.holder = s.ssu.holder
    ∧ (creepTest s).ssu.request = s.ssu.request ∧ (creepTest s).ssu.claimNumber = s.ssu.claimNumber
    ∧ (creepTest s).ssu.lastSettled = s.ssu.lastSettled ∧ (creepTest s).ssu.tenure = s.ssu.tenure
    ∧ (creepTest s).ssu.tenureAt = s.ssu.tenureAt
    ∧ (creepTest s).ssu.clearPending = s.ssu.clearPending
    ∧ (creepTest s).ssu.attempts = s.ssu.attempts ∧ (creepTest s).ssu.clearSent = s.ssu.clearSent
    ∧ (creepTest s).pvu.peers = s.pvu.peers ∧ (creepTest s).lnc.line = s.lnc.line
    ∧ (creepTest s).lnc.tx = s.lnc.tx ∧ (creepTest s).lnc.beaconAt = s.lnc.beaconAt
    ∧ (creepTest s).lnc.listenAt = s.lnc.listenAt ∧ (creepTest s).lnc.silenceAt = s.lnc.silenceAt
    ∧ (creepTest s).lnc.sequence = s.lnc.sequence ∧ (creepTest s).lnc.deafCount = s.lnc.deafCount
    ∧ (creepTest s).lnc.quiet = s.lnc.quiet ∧ (creepTest s).lnc.charLeft = s.lnc.charLeft
    ∧ (creepTest s).lnc.synced = s.lnc.synced ∧ (creepTest s).spu = s.spu
    ∧ (creepTest s).cpn = s.cpn := by
  unfold creepTest
  dsimp only
  split
  · simp
  · simp

@[simp] theorem enterRamping_keeps (s : State) :
    (enterRamping s).now = s.now ∧ (enterRamping s).micros = s.micros
    ∧ (enterRamping s).joinedAt = s.joinedAt ∧ (enterRamping s).rstLow = s.rstLow
    ∧ (enterRamping s).pst = s.pst ∧ (enterRamping s).pending = s.pending
    ∧ (enterRamping s).rsq.levelHold = s.rsq.levelHold ∧ (enterRamping s).rsq.speed = s.rsq.speed
    ∧ (enterRamping s).rsq.stack = s.rsq.stack ∧ (enterRamping s).rsq.handbackAt = s.rsq.handbackAt
    ∧ (enterRamping s).rsq.runReq = s.rsq.runReq ∧ (enterRamping s).rsq.tickPhase = s.rsq.tickPhase
    ∧ (enterRamping s).rsq.tickTaken = s.rsq.tickTaken
    ∧ (enterRamping s).dbu.granted = s.dbu.granted ∧ (enterRamping s).dbu.limit = s.dbu.limit
    ∧ (enterRamping s).dbu.epoch = s.dbu.epoch ∧ (enterRamping s).dbu.phase = s.dbu.phase
    ∧ (enterRamping s).dbu.learned = s.dbu.learned ∧ (enterRamping s).dbu.mismatch = s.dbu.mismatch
    ∧ (enterRamping s).dbu.claimNumber = s.dbu.claimNumber
    ∧ (enterRamping s).dbu.amount = s.dbu.amount ∧ (enterRamping s).dbu.need = s.dbu.need
    ∧ (enterRamping s).dbu.needOfRunning = s.dbu.needOfRunning
    ∧ (enterRamping s).dbu.lastSettled = s.dbu.lastSettled
    ∧ (enterRamping s).dbu.overcommit = s.dbu.overcommit
    ∧ (enterRamping s).ssu.holder = s.ssu.holder ∧ (enterRamping s).ssu.request = s.ssu.request
    ∧ (enterRamping s).ssu.claimNumber = s.ssu.claimNumber
    ∧ (enterRamping s).ssu.lastSettled = s.ssu.lastSettled
    ∧ (enterRamping s).ssu.tenure = s.ssu.tenure ∧ (enterRamping s).ssu.tenureAt = s.ssu.tenureAt
    ∧ (enterRamping s).ssu.clearPending = s.ssu.clearPending
    ∧ (enterRamping s).ssu.attempts = s.ssu.attempts
    ∧ (enterRamping s).ssu.clearSent = s.ssu.clearSent ∧ (enterRamping s).pvu.peers = s.pvu.peers
    ∧ (enterRamping s).lnc.line = s.lnc.line ∧ (enterRamping s).lnc.tx = s.lnc.tx
    ∧ (enterRamping s).lnc.beaconAt = s.lnc.beaconAt
    ∧ (enterRamping s).lnc.listenAt = s.lnc.listenAt
    ∧ (enterRamping s).lnc.silenceAt = s.lnc.silenceAt
    ∧ (enterRamping s).lnc.sequence = s.lnc.sequence
    ∧ (enterRamping s).lnc.deafCount = s.lnc.deafCount ∧ (enterRamping s).lnc.quiet = s.lnc.quiet
    ∧ (enterRamping s).lnc.charLeft = s.lnc.charLeft ∧ (enterRamping s).lnc.synced = s.lnc.synced
    ∧ (enterRamping s).spu = s.spu ∧ (enterRamping s).cpn.spi = s.cpn.spi
    ∧ (enterRamping s).cpn.reply = s.cpn.reply ∧ (enterRamping s).cpn.fault = s.cpn.fault
    ∧ (enterRamping s).cpn.ring = s.cpn.ring ∧ (enterRamping s).cpn.straps = s.cpn.straps
    ∧ (enterRamping s).cpn.strapDone = s.cpn.strapDone
    ∧ (enterRamping s).cpn.strapSampler = s.cpn.strapSampler := by
  unfold enterRamping Rsq.rampingFrom
  simp

@[simp] theorem firstPointTest_keeps (s : State) :
    (firstPointTest s).now = s.now ∧ (firstPointTest s).micros = s.micros
    ∧ (firstPointTest s).joinedAt = s.joinedAt ∧ (firstPointTest s).rstLow = s.rstLow
    ∧ (firstPointTest s).pst = s.pst ∧ (firstPointTest s).pending = s.pending
    ∧ (firstPointTest s).rsq.levelHold = s.rsq.levelHold
    ∧ (firstPointTest s).rsq.speed = s.rsq.speed ∧ (firstPointTest s).rsq.stack = s.rsq.stack
    ∧ (firstPointTest s).rsq.handbackAt = s.rsq.handbackAt
    ∧ (firstPointTest s).rsq.runReq = s.rsq.runReq
    ∧ (firstPointTest s).rsq.tickPhase = s.rsq.tickPhase
    ∧ (firstPointTest s).rsq.tickTaken = s.rsq.tickTaken
    ∧ (firstPointTest s).dbu.limit = s.dbu.limit ∧ (firstPointTest s).dbu.epoch = s.dbu.epoch
    ∧ (firstPointTest s).dbu.phase = s.dbu.phase ∧ (firstPointTest s).dbu.learned = s.dbu.learned
    ∧ (firstPointTest s).dbu.mismatch = s.dbu.mismatch
    ∧ (firstPointTest s).dbu.lastSettled = s.dbu.lastSettled
    ∧ (firstPointTest s).ssu.holder = s.ssu.holder ∧ (firstPointTest s).ssu.request = s.ssu.request
    ∧ (firstPointTest s).ssu.claimNumber = s.ssu.claimNumber
    ∧ (firstPointTest s).ssu.lastSettled = s.ssu.lastSettled
    ∧ (firstPointTest s).ssu.tenure = s.ssu.tenure
    ∧ (firstPointTest s).ssu.tenureAt = s.ssu.tenureAt
    ∧ (firstPointTest s).ssu.clearPending = s.ssu.clearPending
    ∧ (firstPointTest s).ssu.attempts = s.ssu.attempts
    ∧ (firstPointTest s).ssu.clearSent = s.ssu.clearSent
    ∧ (firstPointTest s).pvu.peers = s.pvu.peers ∧ (firstPointTest s).lnc.line = s.lnc.line
    ∧ (firstPointTest s).lnc.tx = s.lnc.tx ∧ (firstPointTest s).lnc.beaconAt = s.lnc.beaconAt
    ∧ (firstPointTest s).lnc.listenAt = s.lnc.listenAt
    ∧ (firstPointTest s).lnc.silenceAt = s.lnc.silenceAt
    ∧ (firstPointTest s).lnc.sequence = s.lnc.sequence
    ∧ (firstPointTest s).lnc.deafCount = s.lnc.deafCount
    ∧ (firstPointTest s).lnc.quiet = s.lnc.quiet ∧ (firstPointTest s).lnc.charLeft = s.lnc.charLeft
    ∧ (firstPointTest s).lnc.synced = s.lnc.synced ∧ (firstPointTest s).spu = s.spu
    ∧ (firstPointTest s).cpn.spi = s.cpn.spi ∧ (firstPointTest s).cpn.reply = s.cpn.reply
    ∧ (firstPointTest s).cpn.ring = s.cpn.ring ∧ (firstPointTest s).cpn.straps = s.cpn.straps
    ∧ (firstPointTest s).cpn.strapDone = s.cpn.strapDone
    ∧ (firstPointTest s).cpn.strapSampler = s.cpn.strapSampler := by
  unfold firstPointTest
  dsimp only
  repeat' split
  all_goals simp

@[simp] theorem driveTest_keeps (s : State) :
    (driveTest s).now = s.now ∧ (driveTest s).micros = s.micros
    ∧ (driveTest s).joinedAt = s.joinedAt ∧ (driveTest s).rstLow = s.rstLow
    ∧ (driveTest s).pst = s.pst ∧ (driveTest s).pending = s.pending
    ∧ (driveTest s).rsq.levelHold = s.rsq.levelHold ∧ (driveTest s).rsq.speed = s.rsq.speed
    ∧ (driveTest s).rsq.stack = s.rsq.stack ∧ (driveTest s).rsq.handbackAt = s.rsq.handbackAt
    ∧ (driveTest s).rsq.runReq = s.rsq.runReq ∧ (driveTest s).rsq.tickPhase = s.rsq.tickPhase
    ∧ (driveTest s).rsq.tickTaken = s.rsq.tickTaken ∧ (driveTest s).dbu.limit = s.dbu.limit
    ∧ (driveTest s).dbu.epoch = s.dbu.epoch ∧ (driveTest s).dbu.phase = s.dbu.phase
    ∧ (driveTest s).dbu.learned = s.dbu.learned ∧ (driveTest s).dbu.mismatch = s.dbu.mismatch
    ∧ (driveTest s).dbu.lastSettled = s.dbu.lastSettled ∧ (driveTest s).ssu.holder = s.ssu.holder
    ∧ (driveTest s).ssu.claimNumber = s.ssu.claimNumber
    ∧ (driveTest s).ssu.lastSettled = s.ssu.lastSettled ∧ (driveTest s).ssu.tenure = s.ssu.tenure
    ∧ (driveTest s).ssu.tenureAt = s.ssu.tenureAt
    ∧ (driveTest s).ssu.clearPending = s.ssu.clearPending
    ∧ (driveTest s).ssu.attempts = s.ssu.attempts ∧ (driveTest s).pvu.peers = s.pvu.peers
    ∧ (driveTest s).lnc.line = s.lnc.line ∧ (driveTest s).lnc.tx = s.lnc.tx
    ∧ (driveTest s).lnc.beaconAt = s.lnc.beaconAt ∧ (driveTest s).lnc.listenAt = s.lnc.listenAt
    ∧ (driveTest s).lnc.silenceAt = s.lnc.silenceAt ∧ (driveTest s).lnc.sequence = s.lnc.sequence
    ∧ (driveTest s).lnc.deafCount = s.lnc.deafCount ∧ (driveTest s).lnc.quiet = s.lnc.quiet
    ∧ (driveTest s).lnc.charLeft = s.lnc.charLeft ∧ (driveTest s).lnc.synced = s.lnc.synced
    ∧ (driveTest s).spu = s.spu ∧ (driveTest s).cpn.spi = s.cpn.spi
    ∧ (driveTest s).cpn.reply = s.cpn.reply ∧ (driveTest s).cpn.ring = s.cpn.ring
    ∧ (driveTest s).cpn.straps = s.cpn.straps ∧ (driveTest s).cpn.strapDone = s.cpn.strapDone
    ∧ (driveTest s).cpn.strapSampler = s.cpn.strapSampler := by
  unfold driveTest
  repeat' split
  all_goals simp

@[simp] theorem slotTaken_keeps (n : Nat) (s : State) :
    (slotTaken n s).now = s.now ∧ (slotTaken n s).micros = s.micros
    ∧ (slotTaken n s).joinedAt = s.joinedAt ∧ (slotTaken n s).rstLow = s.rstLow
    ∧ (slotTaken n s).pst = s.pst ∧ (slotTaken n s).pending = s.pending
    ∧ (slotTaken n s).rsq.state = s.rsq.state ∧ (slotTaken n s).rsq.pendingSet = s.rsq.pendingSet
    ∧ (slotTaken n s).rsq.currentCause = s.rsq.currentCause ∧ (slotTaken n s).rsq.step = s.rsq.step
    ∧ (slotTaken n s).rsq.dwell = s.rsq.dwell
    ∧ (slotTaken n s).rsq.levelHoldTime = s.rsq.levelHoldTime
    ∧ (slotTaken n s).rsq.levelHold = s.rsq.levelHold ∧ (slotTaken n s).rsq.speed = s.rsq.speed
    ∧ (slotTaken n s).rsq.stack = s.rsq.stack ∧ (slotTaken n s).rsq.carried = s.rsq.carried
    ∧ (slotTaken n s).rsq.baseUrgency = s.rsq.baseUrgency
    ∧ (slotTaken n s).rsq.urgencyBase = s.rsq.urgencyBase
    ∧ (slotTaken n s).rsq.handbackAt = s.rsq.handbackAt
    ∧ (slotTaken n s).rsq.urgency = s.rsq.urgency ∧ (slotTaken n s).rsq.tickPhase = s.rsq.tickPhase
    ∧ (slotTaken n s).rsq.tickTaken = s.rsq.tickTaken ∧ (slotTaken n s).dbu = s.dbu
    ∧ (slotTaken n s).ssu.request = s.ssu.request
    ∧ (slotTaken n s).ssu.claimNumber = s.ssu.claimNumber
    ∧ (slotTaken n s).ssu.clearPending = s.ssu.clearPending
    ∧ (slotTaken n s).pvu.peers = s.pvu.peers ∧ (slotTaken n s).lnc.line = s.lnc.line
    ∧ (slotTaken n s).lnc.beacon = s.lnc.beacon ∧ (slotTaken n s).lnc.tx = s.lnc.tx
    ∧ (slotTaken n s).lnc.beaconAt = s.lnc.beaconAt ∧ (slotTaken n s).lnc.listenAt = s.lnc.listenAt
    ∧ (slotTaken n s).lnc.silenceAt = s.lnc.silenceAt
    ∧ (slotTaken n s).lnc.sequence = s.lnc.sequence
    ∧ (slotTaken n s).lnc.deafCount = s.lnc.deafCount ∧ (slotTaken n s).lnc.quiet = s.lnc.quiet
    ∧ (slotTaken n s).lnc.charLeft = s.lnc.charLeft ∧ (slotTaken n s).lnc.synced = s.lnc.synced
    ∧ (slotTaken n s).spu = s.spu ∧ (slotTaken n s).cpn = s.cpn := by
  unfold slotTaken
  simp

@[simp] theorem takeSlot_keeps (n : Nat) (s : State) :
    (takeSlot n s).now = s.now ∧ (takeSlot n s).micros = s.micros
    ∧ (takeSlot n s).joinedAt = s.joinedAt ∧ (takeSlot n s).rstLow = s.rstLow
    ∧ (takeSlot n s).pst = s.pst ∧ (takeSlot n s).pending = s.pending
    ∧ (takeSlot n s).rsq.levelHold = s.rsq.levelHold ∧ (takeSlot n s).rsq.speed = s.rsq.speed
    ∧ (takeSlot n s).rsq.stack = s.rsq.stack ∧ (takeSlot n s).rsq.handbackAt = s.rsq.handbackAt
    ∧ (takeSlot n s).rsq.tickPhase = s.rsq.tickPhase
    ∧ (takeSlot n s).rsq.tickTaken = s.rsq.tickTaken ∧ (takeSlot n s).dbu.limit = s.dbu.limit
    ∧ (takeSlot n s).dbu.epoch = s.dbu.epoch ∧ (takeSlot n s).dbu.phase = s.dbu.phase
    ∧ (takeSlot n s).dbu.learned = s.dbu.learned ∧ (takeSlot n s).dbu.mismatch = s.dbu.mismatch
    ∧ (takeSlot n s).dbu.lastSettled = s.dbu.lastSettled
    ∧ (takeSlot n s).ssu.claimNumber = s.ssu.claimNumber
    ∧ (takeSlot n s).ssu.clearPending = s.ssu.clearPending ∧ (takeSlot n s).pvu.peers = s.pvu.peers
    ∧ (takeSlot n s).lnc.line = s.lnc.line ∧ (takeSlot n s).lnc.tx = s.lnc.tx
    ∧ (takeSlot n s).lnc.beaconAt = s.lnc.beaconAt ∧ (takeSlot n s).lnc.listenAt = s.lnc.listenAt
    ∧ (takeSlot n s).lnc.silenceAt = s.lnc.silenceAt ∧ (takeSlot n s).lnc.sequence = s.lnc.sequence
    ∧ (takeSlot n s).lnc.deafCount = s.lnc.deafCount ∧ (takeSlot n s).lnc.quiet = s.lnc.quiet
    ∧ (takeSlot n s).lnc.charLeft = s.lnc.charLeft ∧ (takeSlot n s).lnc.synced = s.lnc.synced
    ∧ (takeSlot n s).spu = s.spu ∧ (takeSlot n s).cpn.spi = s.cpn.spi
    ∧ (takeSlot n s).cpn.reply = s.cpn.reply ∧ (takeSlot n s).cpn.ring = s.cpn.ring
    ∧ (takeSlot n s).cpn.straps = s.cpn.straps ∧ (takeSlot n s).cpn.strapDone = s.cpn.strapDone
    ∧ (takeSlot n s).cpn.strapSampler = s.cpn.strapSampler := by
  unfold takeSlot
  simp

@[simp] theorem formStart_keeps (s : State) :
    (formStart s).now = s.now ∧ (formStart s).micros = s.micros
    ∧ (formStart s).joinedAt = s.joinedAt ∧ (formStart s).rstLow = s.rstLow
    ∧ (formStart s).pst = s.pst ∧ (formStart s).pending = s.pending ∧ (formStart s).rsq = s.rsq
    ∧ (formStart s).dbu = s.dbu ∧ (formStart s).ssu.holder = s.ssu.holder
    ∧ (formStart s).ssu.request = s.ssu.request ∧ (formStart s).ssu.lastSettled = s.ssu.lastSettled
    ∧ (formStart s).ssu.tenure = s.ssu.tenure ∧ (formStart s).ssu.tenureAt = s.ssu.tenureAt
    ∧ (formStart s).ssu.clearPending = s.ssu.clearPending
    ∧ (formStart s).ssu.attempts = s.ssu.attempts ∧ (formStart s).ssu.clearSent = s.ssu.clearSent
    ∧ (formStart s).pvu.peers = s.pvu.peers ∧ (formStart s).lnc.line = s.lnc.line
    ∧ (formStart s).lnc.beacon = s.lnc.beacon ∧ (formStart s).lnc.tx = s.lnc.tx
    ∧ (formStart s).lnc.beaconAt = s.lnc.beaconAt ∧ (formStart s).lnc.listenAt = s.lnc.listenAt
    ∧ (formStart s).lnc.silenceAt = s.lnc.silenceAt ∧ (formStart s).lnc.sequence = s.lnc.sequence
    ∧ (formStart s).lnc.deafCount = s.lnc.deafCount ∧ (formStart s).lnc.quiet = s.lnc.quiet
    ∧ (formStart s).lnc.charLeft = s.lnc.charLeft ∧ (formStart s).lnc.synced = s.lnc.synced
    ∧ (formStart s).spu = s.spu ∧ (formStart s).cpn = s.cpn := by
  unfold formStart
  simp

@[simp] theorem actOnRequest_keeps (s : State) :
    (actOnRequest s).now = s.now ∧ (actOnRequest s).micros = s.micros
    ∧ (actOnRequest s).joinedAt = s.joinedAt ∧ (actOnRequest s).rstLow = s.rstLow
    ∧ (actOnRequest s).pst = s.pst ∧ (actOnRequest s).pending = s.pending
    ∧ (actOnRequest s).rsq.levelHold = s.rsq.levelHold ∧ (actOnRequest s).rsq.speed = s.rsq.speed
    ∧ (actOnRequest s).rsq.stack = s.rsq.stack ∧ (actOnRequest s).rsq.handbackAt = s.rsq.handbackAt
    ∧ (actOnRequest s).rsq.tickPhase = s.rsq.tickPhase
    ∧ (actOnRequest s).rsq.tickTaken = s.rsq.tickTaken ∧ (actOnRequest s).dbu.limit = s.dbu.limit
    ∧ (actOnRequest s).dbu.epoch = s.dbu.epoch ∧ (actOnRequest s).dbu.phase = s.dbu.phase
    ∧ (actOnRequest s).dbu.learned = s.dbu.learned ∧ (actOnRequest s).dbu.mismatch = s.dbu.mismatch
    ∧ (actOnRequest s).dbu.lastSettled = s.dbu.lastSettled
    ∧ (actOnRequest s).ssu.lastSettled = s.ssu.lastSettled
    ∧ (actOnRequest s).ssu.clearPending = s.ssu.clearPending
    ∧ (actOnRequest s).pvu.peers = s.pvu.peers ∧ (actOnRequest s).lnc.line = s.lnc.line
    ∧ (actOnRequest s).lnc.tx = s.lnc.tx ∧ (actOnRequest s).lnc.beaconAt = s.lnc.beaconAt
    ∧ (actOnRequest s).lnc.listenAt = s.lnc.listenAt
    ∧ (actOnRequest s).lnc.silenceAt = s.lnc.silenceAt
    ∧ (actOnRequest s).lnc.sequence = s.lnc.sequence
    ∧ (actOnRequest s).lnc.deafCount = s.lnc.deafCount ∧ (actOnRequest s).lnc.quiet = s.lnc.quiet
    ∧ (actOnRequest s).lnc.charLeft = s.lnc.charLeft ∧ (actOnRequest s).lnc.synced = s.lnc.synced
    ∧ (actOnRequest s).spu = s.spu ∧ (actOnRequest s).cpn.spi = s.cpn.spi
    ∧ (actOnRequest s).cpn.reply = s.cpn.reply ∧ (actOnRequest s).cpn.ring = s.cpn.ring
    ∧ (actOnRequest s).cpn.straps = s.cpn.straps ∧ (actOnRequest s).cpn.strapDone = s.cpn.strapDone
    ∧ (actOnRequest s).cpn.strapSampler = s.cpn.strapSampler := by
  unfold actOnRequest takeSlot slotTaken
  repeat' split
  all_goals simp

@[simp] theorem selfTakeTest_keeps (s : State) :
    (selfTakeTest s).now = s.now ∧ (selfTakeTest s).micros = s.micros
    ∧ (selfTakeTest s).joinedAt = s.joinedAt ∧ (selfTakeTest s).rstLow = s.rstLow
    ∧ (selfTakeTest s).pst = s.pst ∧ (selfTakeTest s).pending = s.pending
    ∧ (selfTakeTest s).rsq.levelHold = s.rsq.levelHold ∧ (selfTakeTest s).rsq.speed = s.rsq.speed
    ∧ (selfTakeTest s).rsq.stack = s.rsq.stack ∧ (selfTakeTest s).rsq.handbackAt = s.rsq.handbackAt
    ∧ (selfTakeTest s).rsq.tickPhase = s.rsq.tickPhase
    ∧ (selfTakeTest s).rsq.tickTaken = s.rsq.tickTaken ∧ (selfTakeTest s).dbu.limit = s.dbu.limit
    ∧ (selfTakeTest s).dbu.epoch = s.dbu.epoch ∧ (selfTakeTest s).dbu.phase = s.dbu.phase
    ∧ (selfTakeTest s).dbu.learned = s.dbu.learned ∧ (selfTakeTest s).dbu.mismatch = s.dbu.mismatch
    ∧ (selfTakeTest s).dbu.lastSettled = s.dbu.lastSettled
    ∧ (selfTakeTest s).ssu.lastSettled = s.ssu.lastSettled
    ∧ (selfTakeTest s).ssu.clearPending = s.ssu.clearPending
    ∧ (selfTakeTest s).pvu.peers = s.pvu.peers ∧ (selfTakeTest s).lnc.line = s.lnc.line
    ∧ (selfTakeTest s).lnc.tx = s.lnc.tx ∧ (selfTakeTest s).lnc.beaconAt = s.lnc.beaconAt
    ∧ (selfTakeTest s).lnc.listenAt = s.lnc.listenAt
    ∧ (selfTakeTest s).lnc.silenceAt = s.lnc.silenceAt
    ∧ (selfTakeTest s).lnc.sequence = s.lnc.sequence
    ∧ (selfTakeTest s).lnc.deafCount = s.lnc.deafCount ∧ (selfTakeTest s).lnc.quiet = s.lnc.quiet
    ∧ (selfTakeTest s).lnc.charLeft = s.lnc.charLeft ∧ (selfTakeTest s).lnc.synced = s.lnc.synced
    ∧ (selfTakeTest s).spu = s.spu ∧ (selfTakeTest s).cpn.spi = s.cpn.spi
    ∧ (selfTakeTest s).cpn.reply = s.cpn.reply ∧ (selfTakeTest s).cpn.ring = s.cpn.ring
    ∧ (selfTakeTest s).cpn.straps = s.cpn.straps ∧ (selfTakeTest s).cpn.strapDone = s.cpn.strapDone
    ∧ (selfTakeTest s).cpn.strapSampler = s.cpn.strapSampler := by
  unfold selfTakeTest
  repeat' split
  all_goals simp

@[simp] theorem enterQueued_keeps (s : State) :
    (enterQueued s).now = s.now ∧ (enterQueued s).micros = s.micros
    ∧ (enterQueued s).joinedAt = s.joinedAt ∧ (enterQueued s).rstLow = s.rstLow
    ∧ (enterQueued s).pst = s.pst ∧ (enterQueued s).pending = s.pending
    ∧ (enterQueued s).rsq.levelHold = s.rsq.levelHold ∧ (enterQueued s).rsq.speed = s.rsq.speed
    ∧ (enterQueued s).rsq.stack = s.rsq.stack ∧ (enterQueued s).rsq.handbackAt = s.rsq.handbackAt
    ∧ (enterQueued s).rsq.tickPhase = s.rsq.tickPhase
    ∧ (enterQueued s).rsq.tickTaken = s.rsq.tickTaken ∧ (enterQueued s).dbu.limit = s.dbu.limit
    ∧ (enterQueued s).dbu.epoch = s.dbu.epoch ∧ (enterQueued s).dbu.phase = s.dbu.phase
    ∧ (enterQueued s).dbu.learned = s.dbu.learned ∧ (enterQueued s).dbu.mismatch = s.dbu.mismatch
    ∧ (enterQueued s).dbu.lastSettled = s.dbu.lastSettled
    ∧ (enterQueued s).ssu.lastSettled = s.ssu.lastSettled
    ∧ (enterQueued s).ssu.clearPending = s.ssu.clearPending
    ∧ (enterQueued s).pvu.peers = s.pvu.peers ∧ (enterQueued s).lnc.line = s.lnc.line
    ∧ (enterQueued s).lnc.tx = s.lnc.tx ∧ (enterQueued s).lnc.beaconAt = s.lnc.beaconAt
    ∧ (enterQueued s).lnc.listenAt = s.lnc.listenAt
    ∧ (enterQueued s).lnc.silenceAt = s.lnc.silenceAt
    ∧ (enterQueued s).lnc.sequence = s.lnc.sequence
    ∧ (enterQueued s).lnc.deafCount = s.lnc.deafCount ∧ (enterQueued s).lnc.quiet = s.lnc.quiet
    ∧ (enterQueued s).lnc.charLeft = s.lnc.charLeft ∧ (enterQueued s).lnc.synced = s.lnc.synced
    ∧ (enterQueued s).spu = s.spu ∧ (enterQueued s).cpn.spi = s.cpn.spi
    ∧ (enterQueued s).cpn.reply = s.cpn.reply ∧ (enterQueued s).cpn.ring = s.cpn.ring
    ∧ (enterQueued s).cpn.straps = s.cpn.straps ∧ (enterQueued s).cpn.strapDone = s.cpn.strapDone
    ∧ (enterQueued s).cpn.strapSampler = s.cpn.strapSampler := by
  unfold enterQueued
  dsimp only
  repeat' split
  all_goals simp

@[simp] theorem returnToStopped_keeps (s : State) :
    (returnToStopped s).now = s.now ∧ (returnToStopped s).micros = s.micros
    ∧ (returnToStopped s).joinedAt = s.joinedAt ∧ (returnToStopped s).rstLow = s.rstLow
    ∧ (returnToStopped s).pst = s.pst ∧ (returnToStopped s).pending = s.pending
    ∧ (returnToStopped s).rsq.pendingSet = s.rsq.pendingSet
    ∧ (returnToStopped s).rsq.currentCause = s.rsq.currentCause
    ∧ (returnToStopped s).rsq.step = s.rsq.step ∧ (returnToStopped s).rsq.dwell = s.rsq.dwell
    ∧ (returnToStopped s).rsq.levelHoldTime = s.rsq.levelHoldTime
    ∧ (returnToStopped s).rsq.levelHold = s.rsq.levelHold
    ∧ (returnToStopped s).rsq.speed = s.rsq.speed ∧ (returnToStopped s).rsq.stack = s.rsq.stack
    ∧ (returnToStopped s).rsq.carried = s.rsq.carried
    ∧ (returnToStopped s).rsq.baseUrgency = s.rsq.baseUrgency
    ∧ (returnToStopped s).rsq.urgencyBase = s.rsq.urgencyBase
    ∧ (returnToStopped s).rsq.counters = s.rsq.counters
    ∧ (returnToStopped s).rsq.handbackAt = s.rsq.handbackAt
    ∧ (returnToStopped s).rsq.runReq = s.rsq.runReq
    ∧ (returnToStopped s).rsq.tickPhase = s.rsq.tickPhase
    ∧ (returnToStopped s).rsq.tickTaken = s.rsq.tickTaken
    ∧ (returnToStopped s).dbu.granted = s.dbu.granted ∧ (returnToStopped s).dbu.limit = s.dbu.limit
    ∧ (returnToStopped s).dbu.epoch = s.dbu.epoch ∧ (returnToStopped s).dbu.phase = s.dbu.phase
    ∧ (returnToStopped s).dbu.learned = s.dbu.learned
    ∧ (returnToStopped s).dbu.mismatch = s.dbu.mismatch
    ∧ (returnToStopped s).dbu.claimNumber = s.dbu.claimNumber
    ∧ (returnToStopped s).dbu.amount = s.dbu.amount
    ∧ (returnToStopped s).dbu.needOfRunning = s.dbu.needOfRunning
    ∧ (returnToStopped s).dbu.lastSettled = s.dbu.lastSettled
    ∧ (returnToStopped s).dbu.overcommit = s.dbu.overcommit
    ∧ (returnToStopped s).ssu.claimNumber = s.ssu.claimNumber
    ∧ (returnToStopped s).ssu.lastSettled = s.ssu.lastSettled
    ∧ (returnToStopped s).ssu.attempts = s.ssu.attempts
    ∧ (returnToStopped s).pvu.peers = s.pvu.peers ∧ (returnToStopped s).lnc.line = s.lnc.line
    ∧ (returnToStopped s).lnc.tx = s.lnc.tx ∧ (returnToStopped s).lnc.beaconAt = s.lnc.beaconAt
    ∧ (returnToStopped s).lnc.listenAt = s.lnc.listenAt
    ∧ (returnToStopped s).lnc.silenceAt = s.lnc.silenceAt
    ∧ (returnToStopped s).lnc.sequence = s.lnc.sequence
    ∧ (returnToStopped s).lnc.deafCount = s.lnc.deafCount
    ∧ (returnToStopped s).lnc.quiet = s.lnc.quiet
    ∧ (returnToStopped s).lnc.charLeft = s.lnc.charLeft
    ∧ (returnToStopped s).lnc.synced = s.lnc.synced ∧ (returnToStopped s).spu = s.spu
    ∧ (returnToStopped s).cpn = s.cpn := by
  unfold returnToStopped
  simp

@[simp] theorem evalPreconditions_keeps (s : State) :
    (evalPreconditions s).now = s.now ∧ (evalPreconditions s).micros = s.micros
    ∧ (evalPreconditions s).joinedAt = s.joinedAt ∧ (evalPreconditions s).rstLow = s.rstLow
    ∧ (evalPreconditions s).pst = s.pst ∧ (evalPreconditions s).pending = s.pending
    ∧ (evalPreconditions s).rsq.levelHold = s.rsq.levelHold
    ∧ (evalPreconditions s).rsq.speed = s.rsq.speed ∧ (evalPreconditions s).rsq.stack = s.rsq.stack
    ∧ (evalPreconditions s).rsq.handbackAt = s.rsq.handbackAt
    ∧ (evalPreconditions s).rsq.tickPhase = s.rsq.tickPhase
    ∧ (evalPreconditions s).rsq.tickTaken = s.rsq.tickTaken
    ∧ (evalPreconditions s).dbu.limit = s.dbu.limit ∧ (evalPreconditions s).dbu.epoch = s.dbu.epoch
    ∧ (evalPreconditions s).dbu.phase = s.dbu.phase
    ∧ (evalPreconditions s).dbu.learned = s.dbu.learned
    ∧ (evalPreconditions s).dbu.mismatch = s.dbu.mismatch
    ∧ (evalPreconditions s).dbu.lastSettled = s.dbu.lastSettled
    ∧ (evalPreconditions s).ssu.lastSettled = s.ssu.lastSettled
    ∧ (evalPreconditions s).pvu.peers = s.pvu.peers ∧ (evalPreconditions s).lnc.line = s.lnc.line
    ∧ (evalPreconditions s).lnc.tx = s.lnc.tx ∧ (evalPreconditions s).lnc.beaconAt = s.lnc.beaconAt
    ∧ (evalPreconditions s).lnc.listenAt = s.lnc.listenAt
    ∧ (evalPreconditions s).lnc.silenceAt = s.lnc.silenceAt
    ∧ (evalPreconditions s).lnc.sequence = s.lnc.sequence
    ∧ (evalPreconditions s).lnc.deafCount = s.lnc.deafCount
    ∧ (evalPreconditions s).lnc.quiet = s.lnc.quiet
    ∧ (evalPreconditions s).lnc.charLeft = s.lnc.charLeft
    ∧ (evalPreconditions s).lnc.synced = s.lnc.synced ∧ (evalPreconditions s).spu = s.spu
    ∧ (evalPreconditions s).cpn.spi = s.cpn.spi ∧ (evalPreconditions s).cpn.reply = s.cpn.reply
    ∧ (evalPreconditions s).cpn.ring = s.cpn.ring ∧ (evalPreconditions s).cpn.straps = s.cpn.straps
    ∧ (evalPreconditions s).cpn.strapDone = s.cpn.strapDone
    ∧ (evalPreconditions s).cpn.strapSampler = s.cpn.strapSampler := by
  unfold evalPreconditions
  repeat' split
  all_goals simp

@[simp] theorem stopEntry_keeps (c : Cause) (b : State) (s : State) :
    (stopEntry c b s).now = s.now ∧ (stopEntry c b s).micros = s.micros
    ∧ (stopEntry c b s).joinedAt = s.joinedAt ∧ (stopEntry c b s).rstLow = s.rstLow
    ∧ (stopEntry c b s).pst = s.pst ∧ (stopEntry c b s).pending = s.pending
    ∧ (stopEntry c b s).rsq.state = s.rsq.state
    ∧ (stopEntry c b s).rsq.pendingSet = s.rsq.pendingSet
    ∧ (stopEntry c b s).rsq.currentCause = s.rsq.currentCause
    ∧ (stopEntry c b s).rsq.step = s.rsq.step ∧ (stopEntry c b s).rsq.dwell = s.rsq.dwell
    ∧ (stopEntry c b s).rsq.levelHoldTime = s.rsq.levelHoldTime
    ∧ (stopEntry c b s).rsq.levelHold = s.rsq.levelHold ∧ (stopEntry c b s).rsq.stack = s.rsq.stack
    ∧ (stopEntry c b s).rsq.carried = s.rsq.carried
    ∧ (stopEntry c b s).rsq.baseUrgency = s.rsq.baseUrgency
    ∧ (stopEntry c b s).rsq.urgencyBase = s.rsq.urgencyBase
    ∧ (stopEntry c b s).rsq.counters = s.rsq.counters
    ∧ (stopEntry c b s).rsq.handbackAt = s.rsq.handbackAt
    ∧ (stopEntry c b s).rsq.tickPhase = s.rsq.tickPhase
    ∧ (stopEntry c b s).rsq.tickTaken = s.rsq.tickTaken ∧ (stopEntry c b s).dbu.limit = s.dbu.limit
    ∧ (stopEntry c b s).dbu.epoch = s.dbu.epoch ∧ (stopEntry c b s).dbu.phase = s.dbu.phase
    ∧ (stopEntry c b s).dbu.learned = s.dbu.learned
    ∧ (stopEntry c b s).dbu.mismatch = s.dbu.mismatch
    ∧ (stopEntry c b s).dbu.claimNumber = s.dbu.claimNumber
    ∧ (stopEntry c b s).dbu.amount = s.dbu.amount
    ∧ (stopEntry c b s).dbu.needOfRunning = s.dbu.needOfRunning
    ∧ (stopEntry c b s).dbu.lastSettled = s.dbu.lastSettled
    ∧ (stopEntry c b s).ssu.claimNumber = s.ssu.claimNumber
    ∧ (stopEntry c b s).ssu.lastSettled = s.ssu.lastSettled
    ∧ (stopEntry c b s).pvu.peers = s.pvu.peers ∧ (stopEntry c b s).lnc.line = s.lnc.line
    ∧ (stopEntry c b s).lnc.tx = s.lnc.tx ∧ (stopEntry c b s).lnc.beaconAt = s.lnc.beaconAt
    ∧ (stopEntry c b s).lnc.listenAt = s.lnc.listenAt
    ∧ (stopEntry c b s).lnc.silenceAt = s.lnc.silenceAt
    ∧ (stopEntry c b s).lnc.sequence = s.lnc.sequence
    ∧ (stopEntry c b s).lnc.deafCount = s.lnc.deafCount ∧ (stopEntry c b s).lnc.quiet = s.lnc.quiet
    ∧ (stopEntry c b s).lnc.charLeft = s.lnc.charLeft ∧ (stopEntry c b s).lnc.synced = s.lnc.synced
    ∧ (stopEntry c b s).spu.inputs = s.spu.inputs ∧ (stopEntry c b s).spu.sampled = s.spu.sampled
    ∧ (stopEntry c b s).spu.search = s.spu.search ∧ (stopEntry c b s).spu.feedback = s.spu.feedback
    ∧ (stopEntry c b s).spu.level = s.spu.level ∧ (stopEntry c b s).spu.staleMark = s.spu.staleMark
    ∧ (stopEntry c b s).spu.refSequence = s.spu.refSequence
    ∧ (stopEntry c b s).spu.refTx = s.spu.refTx ∧ (stopEntry c b s).cpn.spi = s.cpn.spi
    ∧ (stopEntry c b s).cpn.reply = s.cpn.reply ∧ (stopEntry c b s).cpn.ring = s.cpn.ring
    ∧ (stopEntry c b s).cpn.straps = s.cpn.straps
    ∧ (stopEntry c b s).cpn.strapDone = s.cpn.strapDone
    ∧ (stopEntry c b s).cpn.strapSampler = s.cpn.strapSampler := by
  unfold stopEntry
  simp

@[simp] theorem dropBottom_keeps (s : State) :
    (dropBottom s).now = s.now ∧ (dropBottom s).micros = s.micros
    ∧ (dropBottom s).joinedAt = s.joinedAt ∧ (dropBottom s).rstLow = s.rstLow
    ∧ (dropBottom s).pst = s.pst ∧ (dropBottom s).pending = s.pending
    ∧ (dropBottom s).rsq.state = s.rsq.state ∧ (dropBottom s).rsq.pendingSet = s.rsq.pendingSet
    ∧ (dropBottom s).rsq.currentCause = s.rsq.currentCause ∧ (dropBottom s).rsq.step = s.rsq.step
    ∧ (dropBottom s).rsq.dwell = s.rsq.dwell
    ∧ (dropBottom s).rsq.levelHoldTime = s.rsq.levelHoldTime
    ∧ (dropBottom s).rsq.levelHold = s.rsq.levelHold ∧ (dropBottom s).rsq.speed = s.rsq.speed
    ∧ (dropBottom s).rsq.carried = s.rsq.carried
    ∧ (dropBottom s).rsq.baseUrgency = s.rsq.baseUrgency
    ∧ (dropBottom s).rsq.urgencyBase = s.rsq.urgencyBase
    ∧ (dropBottom s).rsq.counters = s.rsq.counters
    ∧ (dropBottom s).rsq.handbackAt = s.rsq.handbackAt ∧ (dropBottom s).rsq.runReq = s.rsq.runReq
    ∧ (dropBottom s).rsq.urgency = s.rsq.urgency ∧ (dropBottom s).rsq.tickPhase = s.rsq.tickPhase
    ∧ (dropBottom s).rsq.tickTaken = s.rsq.tickTaken ∧ (dropBottom s).dbu = s.dbu
    ∧ (dropBottom s).ssu = s.ssu ∧ (dropBottom s).pvu = s.pvu ∧ (dropBottom s).lnc = s.lnc
    ∧ (dropBottom s).spu = s.spu ∧ (dropBottom s).cpn.spi = s.cpn.spi
    ∧ (dropBottom s).cpn.reply = s.cpn.reply ∧ (dropBottom s).cpn.straps = s.cpn.straps
    ∧ (dropBottom s).cpn.strapDone = s.cpn.strapDone
    ∧ (dropBottom s).cpn.strapSampler = s.cpn.strapSampler := by
  unfold dropBottom
  repeat' split
  all_goals simp

@[simp] theorem pushContext_keeps (s : State) :
    (pushContext s).now = s.now ∧ (pushContext s).micros = s.micros
    ∧ (pushContext s).joinedAt = s.joinedAt ∧ (pushContext s).rstLow = s.rstLow
    ∧ (pushContext s).pst = s.pst ∧ (pushContext s).pending = s.pending
    ∧ (pushContext s).rsq.state = s.rsq.state ∧ (pushContext s).rsq.pendingSet = s.rsq.pendingSet
    ∧ (pushContext s).rsq.speed = s.rsq.speed ∧ (pushContext s).rsq.baseUrgency = s.rsq.baseUrgency
    ∧ (pushContext s).rsq.urgencyBase = s.rsq.urgencyBase
    ∧ (pushContext s).rsq.handbackAt = s.rsq.handbackAt ∧ (pushContext s).rsq.runReq = s.rsq.runReq
    ∧ (pushContext s).rsq.urgency = s.rsq.urgency ∧ (pushContext s).rsq.tickPhase = s.rsq.tickPhase
    ∧ (pushContext s).rsq.tickTaken = s.rsq.tickTaken ∧ (pushContext s).dbu = s.dbu
    ∧ (pushContext s).ssu = s.ssu ∧ (pushContext s).pvu = s.pvu ∧ (pushContext s).lnc = s.lnc
    ∧ (pushContext s).spu = s.spu ∧ (pushContext s).cpn.spi = s.cpn.spi
    ∧ (pushContext s).cpn.reply = s.cpn.reply ∧ (pushContext s).cpn.straps = s.cpn.straps
    ∧ (pushContext s).cpn.strapDone = s.cpn.strapDone
    ∧ (pushContext s).cpn.strapSampler = s.cpn.strapSampler := by
  unfold pushContext
  simp

@[simp] theorem authorityTaken_keeps (c : Cause) (e : Option Nat) (s : State) :
    (authorityTaken c e s).now = s.now ∧ (authorityTaken c e s).micros = s.micros
    ∧ (authorityTaken c e s).joinedAt = s.joinedAt ∧ (authorityTaken c e s).rstLow = s.rstLow
    ∧ (authorityTaken c e s).pst = s.pst ∧ (authorityTaken c e s).pending = s.pending
    ∧ (authorityTaken c e s).rsq.currentCause = s.rsq.currentCause
    ∧ (authorityTaken c e s).rsq.step = s.rsq.step ∧ (authorityTaken c e s).rsq.dwell = s.rsq.dwell
    ∧ (authorityTaken c e s).rsq.levelHoldTime = s.rsq.levelHoldTime
    ∧ (authorityTaken c e s).rsq.levelHold = s.rsq.levelHold
    ∧ (authorityTaken c e s).rsq.speed = s.rsq.speed
    ∧ (authorityTaken c e s).rsq.stack = s.rsq.stack
    ∧ (authorityTaken c e s).rsq.carried = s.rsq.carried
    ∧ (authorityTaken c e s).rsq.baseUrgency = s.rsq.baseUrgency
    ∧ (authorityTaken c e s).rsq.urgencyBase = s.rsq.urgencyBase
    ∧ (authorityTaken c e s).rsq.handbackAt = s.rsq.handbackAt
    ∧ (authorityTaken c e s).rsq.urgency = s.rsq.urgency
    ∧ (authorityTaken c e s).rsq.tickPhase = s.rsq.tickPhase
    ∧ (authorityTaken c e s).rsq.tickTaken = s.rsq.tickTaken ∧ (authorityTaken c e s).dbu = s.dbu
    ∧ (authorityTaken c e s).ssu = s.ssu ∧ (authorityTaken c e s).pvu = s.pvu
    ∧ (authorityTaken c e s).lnc = s.lnc ∧ (authorityTaken c e s).spu = s.spu
    ∧ (authorityTaken c e s).cpn = s.cpn := by
  unfold authorityTaken
  repeat' split
  all_goals simp

@[simp] theorem handbackStopped_keeps (c : Cause) (e : Option Nat) (s : State) :
    (handbackStopped c e s).now = s.now ∧ (handbackStopped c e s).micros = s.micros
    ∧ (handbackStopped c e s).joinedAt = s.joinedAt ∧ (handbackStopped c e s).rstLow = s.rstLow
    ∧ (handbackStopped c e s).pst = s.pst ∧ (handbackStopped c e s).pending = s.pending
    ∧ (handbackStopped c e s).rsq.levelHold = s.rsq.levelHold
    ∧ (handbackStopped c e s).rsq.speed = s.rsq.speed
    ∧ (handbackStopped c e s).rsq.stack = s.rsq.stack
    ∧ (handbackStopped c e s).rsq.carried = s.rsq.carried
    ∧ (handbackStopped c e s).rsq.baseUrgency = s.rsq.baseUrgency
    ∧ (handbackStopped c e s).rsq.urgencyBase = s.rsq.urgencyBase
    ∧ (handbackStopped c e s).rsq.runReq = s.rsq.runReq
    ∧ (handbackStopped c e s).rsq.urgency = s.rsq.urgency
    ∧ (handbackStopped c e s).rsq.tickPhase = s.rsq.tickPhase
    ∧ (handbackStopped c e s).rsq.tickTaken = s.rsq.tickTaken ∧ (handbackStopped c e s).dbu = s.dbu
    ∧ (handbackStopped c e s).ssu = s.ssu ∧ (handbackStopped c e s).pvu = s.pvu
    ∧ (handbackStopped c e s).lnc = s.lnc ∧ (handbackStopped c e s).spu = s.spu
    ∧ (handbackStopped c e s).cpn = s.cpn := by
  unfold handbackStopped
  simp

@[simp] theorem causeMerged_keeps (c : Cause) (e : Option Nat) (s : State) :
    (causeMerged c e s).now = s.now ∧ (causeMerged c e s).micros = s.micros
    ∧ (causeMerged c e s).joinedAt = s.joinedAt ∧ (causeMerged c e s).rstLow = s.rstLow
    ∧ (causeMerged c e s).pst = s.pst ∧ (causeMerged c e s).pending = s.pending
    ∧ (causeMerged c e s).rsq.currentCause = s.rsq.currentCause
    ∧ (causeMerged c e s).rsq.step = s.rsq.step ∧ (causeMerged c e s).rsq.dwell = s.rsq.dwell
    ∧ (causeMerged c e s).rsq.levelHoldTime = s.rsq.levelHoldTime
    ∧ (causeMerged c e s).rsq.levelHold = s.rsq.levelHold
    ∧ (causeMerged c e s).rsq.speed = s.rsq.speed ∧ (causeMerged c e s).rsq.stack = s.rsq.stack
    ∧ (causeMerged c e s).rsq.carried = s.rsq.carried
    ∧ (causeMerged c e s).rsq.baseUrgency = s.rsq.baseUrgency
    ∧ (causeMerged c e s).rsq.urgencyBase = s.rsq.urgencyBase
    ∧ (causeMerged c e s).rsq.counters = s.rsq.counters
    ∧ (causeMerged c e s).rsq.handbackAt = s.rsq.handbackAt
    ∧ (causeMerged c e s).rsq.runReq = s.rsq.runReq
    ∧ (causeMerged c e s).rsq.urgency = s.rsq.urgency
    ∧ (causeMerged c e s).rsq.tickPhase = s.rsq.tickPhase
    ∧ (causeMerged c e s).rsq.tickTaken = s.rsq.tickTaken ∧ (causeMerged c e s).dbu = s.dbu
    ∧ (causeMerged c e s).ssu = s.ssu ∧ (causeMerged c e s).pvu = s.pvu
    ∧ (causeMerged c e s).lnc = s.lnc ∧ (causeMerged c e s).spu = s.spu
    ∧ (causeMerged c e s).cpn = s.cpn := by
  unfold causeMerged
  simp

@[simp] theorem stopEvent_keeps (c : Cause) (e : Option Nat) (s : State) :
    (stopEvent c e s).now = s.now ∧ (stopEvent c e s).micros = s.micros
    ∧ (stopEvent c e s).joinedAt = s.joinedAt ∧ (stopEvent c e s).rstLow = s.rstLow
    ∧ (stopEvent c e s).pst = s.pst ∧ (stopEvent c e s).pending = s.pending
    ∧ (stopEvent c e s).rsq.tickPhase = s.rsq.tickPhase
    ∧ (stopEvent c e s).rsq.tickTaken = s.rsq.tickTaken ∧ (stopEvent c e s).dbu.limit = s.dbu.limit
    ∧ (stopEvent c e s).dbu.epoch = s.dbu.epoch ∧ (stopEvent c e s).dbu.phase = s.dbu.phase
    ∧ (stopEvent c e s).dbu.learned = s.dbu.learned
    ∧ (stopEvent c e s).dbu.mismatch = s.dbu.mismatch
    ∧ (stopEvent c e s).dbu.lastSettled = s.dbu.lastSettled
    ∧ (stopEvent c e s).ssu.lastSettled = s.ssu.lastSettled
    ∧ (stopEvent c e s).pvu.peers = s.pvu.peers ∧ (stopEvent c e s).lnc.line = s.lnc.line
    ∧ (stopEvent c e s).lnc.tx = s.lnc.tx ∧ (stopEvent c e s).lnc.beaconAt = s.lnc.beaconAt
    ∧ (stopEvent c e s).lnc.listenAt = s.lnc.listenAt
    ∧ (stopEvent c e s).lnc.silenceAt = s.lnc.silenceAt
    ∧ (stopEvent c e s).lnc.sequence = s.lnc.sequence
    ∧ (stopEvent c e s).lnc.deafCount = s.lnc.deafCount ∧ (stopEvent c e s).lnc.quiet = s.lnc.quiet
    ∧ (stopEvent c e s).lnc.charLeft = s.lnc.charLeft ∧ (stopEvent c e s).lnc.synced = s.lnc.synced
    ∧ (stopEvent c e s).spu.inputs = s.spu.inputs ∧ (stopEvent c e s).spu.sampled = s.spu.sampled
    ∧ (stopEvent c e s).spu.search = s.spu.search ∧ (stopEvent c e s).spu.feedback = s.spu.feedback
    ∧ (stopEvent c e s).spu.level = s.spu.level ∧ (stopEvent c e s).spu.staleMark = s.spu.staleMark
    ∧ (stopEvent c e s).spu.refSequence = s.spu.refSequence
    ∧ (stopEvent c e s).spu.refTx = s.spu.refTx ∧ (stopEvent c e s).cpn.spi = s.cpn.spi
    ∧ (stopEvent c e s).cpn.reply = s.cpn.reply ∧ (stopEvent c e s).cpn.straps = s.cpn.straps
    ∧ (stopEvent c e s).cpn.strapDone = s.cpn.strapDone
    ∧ (stopEvent c e s).cpn.strapSampler = s.cpn.strapSampler := by
  unfold stopEvent
  repeat' split
  all_goals simp

@[simp] theorem trackFeedback_keeps (s : State) :
    (trackFeedback s).now = s.now ∧ (trackFeedback s).micros = s.micros
    ∧ (trackFeedback s).joinedAt = s.joinedAt ∧ (trackFeedback s).rstLow = s.rstLow
    ∧ (trackFeedback s).pst = s.pst ∧ (trackFeedback s).pending = s.pending
    ∧ (trackFeedback s).rsq = s.rsq ∧ (trackFeedback s).dbu.limit = s.dbu.limit
    ∧ (trackFeedback s).dbu.epoch = s.dbu.epoch ∧ (trackFeedback s).dbu.phase = s.dbu.phase
    ∧ (trackFeedback s).dbu.learned = s.dbu.learned
    ∧ (trackFeedback s).dbu.mismatch = s.dbu.mismatch ∧ (trackFeedback s).dbu.claim = s.dbu.claim
    ∧ (trackFeedback s).dbu.claimNumber = s.dbu.claimNumber
    ∧ (trackFeedback s).dbu.amount = s.dbu.amount ∧ (trackFeedback s).dbu.need = s.dbu.need
    ∧ (trackFeedback s).dbu.needOfRunning = s.dbu.needOfRunning
    ∧ (trackFeedback s).dbu.lastSettled = s.dbu.lastSettled
    ∧ (trackFeedback s).dbu.settleAt = s.dbu.settleAt ∧ (trackFeedback s).ssu = s.ssu
    ∧ (trackFeedback s).pvu = s.pvu ∧ (trackFeedback s).lnc = s.lnc ∧ (trackFeedback s).spu = s.spu
    ∧ (trackFeedback s).cpn.spi = s.cpn.spi ∧ (trackFeedback s).cpn.reply = s.cpn.reply
    ∧ (trackFeedback s).cpn.events = s.cpn.events ∧ (trackFeedback s).cpn.ring = s.cpn.ring
    ∧ (trackFeedback s).cpn.straps = s.cpn.straps
    ∧ (trackFeedback s).cpn.strapDone = s.cpn.strapDone
    ∧ (trackFeedback s).cpn.strapSampler = s.cpn.strapSampler := by
  unfold trackFeedback
  repeat' split
  all_goals simp

@[simp] theorem giveUpAuthority_keeps (t : SeqState) (s : State) :
    (giveUpAuthority t s).now = s.now ∧ (giveUpAuthority t s).micros = s.micros
    ∧ (giveUpAuthority t s).joinedAt = s.joinedAt ∧ (giveUpAuthority t s).rstLow = s.rstLow
    ∧ (giveUpAuthority t s).pst = s.pst ∧ (giveUpAuthority t s).pending = s.pending
    ∧ (giveUpAuthority t s).rsq.baseUrgency = s.rsq.baseUrgency
    ∧ (giveUpAuthority t s).rsq.urgencyBase = s.rsq.urgencyBase
    ∧ (giveUpAuthority t s).rsq.tickPhase = s.rsq.tickPhase
    ∧ (giveUpAuthority t s).rsq.tickTaken = s.rsq.tickTaken
    ∧ (giveUpAuthority t s).dbu.limit = s.dbu.limit ∧ (giveUpAuthority t s).dbu.epoch = s.dbu.epoch
    ∧ (giveUpAuthority t s).dbu.phase = s.dbu.phase
    ∧ (giveUpAuthority t s).dbu.learned = s.dbu.learned
    ∧ (giveUpAuthority t s).dbu.mismatch = s.dbu.mismatch
    ∧ (giveUpAuthority t s).dbu.claimNumber = s.dbu.claimNumber
    ∧ (giveUpAuthority t s).dbu.amount = s.dbu.amount
    ∧ (giveUpAuthority t s).dbu.needOfRunning = s.dbu.needOfRunning
    ∧ (giveUpAuthority t s).dbu.lastSettled = s.dbu.lastSettled
    ∧ (giveUpAuthority t s).ssu.claimNumber = s.ssu.claimNumber
    ∧ (giveUpAuthority t s).ssu.lastSettled = s.ssu.lastSettled
    ∧ (giveUpAuthority t s).pvu.peers = s.pvu.peers ∧ (giveUpAuthority t s).lnc.line = s.lnc.line
    ∧ (giveUpAuthority t s).lnc.tx = s.lnc.tx ∧ (giveUpAuthority t s).lnc.beaconAt = s.lnc.beaconAt
    ∧ (giveUpAuthority t s).lnc.listenAt = s.lnc.listenAt
    ∧ (giveUpAuthority t s).lnc.silenceAt = s.lnc.silenceAt
    ∧ (giveUpAuthority t s).lnc.sequence = s.lnc.sequence
    ∧ (giveUpAuthority t s).lnc.deafCount = s.lnc.deafCount
    ∧ (giveUpAuthority t s).lnc.quiet = s.lnc.quiet
    ∧ (giveUpAuthority t s).lnc.charLeft = s.lnc.charLeft
    ∧ (giveUpAuthority t s).lnc.synced = s.lnc.synced
    ∧ (giveUpAuthority t s).spu.inputs = s.spu.inputs
    ∧ (giveUpAuthority t s).spu.sampled = s.spu.sampled
    ∧ (giveUpAuthority t s).spu.search = s.spu.search
    ∧ (giveUpAuthority t s).spu.feedback = s.spu.feedback
    ∧ (giveUpAuthority t s).spu.level = s.spu.level
    ∧ (giveUpAuthority t s).spu.staleMark = s.spu.staleMark
    ∧ (giveUpAuthority t s).spu.refSequence = s.spu.refSequence
    ∧ (giveUpAuthority t s).spu.refTx = s.spu.refTx ∧ (giveUpAuthority t s).cpn.spi = s.cpn.spi
    ∧ (giveUpAuthority t s).cpn.reply = s.cpn.reply
    ∧ (giveUpAuthority t s).cpn.events = s.cpn.events ∧ (giveUpAuthority t s).cpn.ring = s.cpn.ring
    ∧ (giveUpAuthority t s).cpn.straps = s.cpn.straps
    ∧ (giveUpAuthority t s).cpn.strapDone = s.cpn.strapDone
    ∧ (giveUpAuthority t s).cpn.strapSampler = s.cpn.strapSampler := by
  unfold giveUpAuthority Rsq.withoutAuthority
  simp

@[simp] theorem enterAbandoned_keeps (s : State) :
    (enterAbandoned s).now = s.now ∧ (enterAbandoned s).micros = s.micros
    ∧ (enterAbandoned s).joinedAt = s.joinedAt ∧ (enterAbandoned s).rstLow = s.rstLow
    ∧ (enterAbandoned s).pst = s.pst ∧ (enterAbandoned s).pending = s.pending
    ∧ (enterAbandoned s).rsq.step = s.rsq.step ∧ (enterAbandoned s).rsq.dwell = s.rsq.dwell
    ∧ (enterAbandoned s).rsq.levelHoldTime = s.rsq.levelHoldTime
    ∧ (enterAbandoned s).rsq.baseUrgency = s.rsq.baseUrgency
    ∧ (enterAbandoned s).rsq.urgencyBase = s.rsq.urgencyBase
    ∧ (enterAbandoned s).rsq.counters = s.rsq.counters
    ∧ (enterAbandoned s).rsq.handbackAt = s.rsq.handbackAt
    ∧ (enterAbandoned s).rsq.tickPhase = s.rsq.tickPhase
    ∧ (enterAbandoned s).rsq.tickTaken = s.rsq.tickTaken
    ∧ (enterAbandoned s).dbu.limit = s.dbu.limit ∧ (enterAbandoned s).dbu.epoch = s.dbu.epoch
    ∧ (enterAbandoned s).dbu.phase = s.dbu.phase ∧ (enterAbandoned s).dbu.learned = s.dbu.learned
    ∧ (enterAbandoned s).dbu.mismatch = s.dbu.mismatch
    ∧ (enterAbandoned s).dbu.claimNumber = s.dbu.claimNumber
    ∧ (enterAbandoned s).dbu.amount = s.dbu.amount
    ∧ (enterAbandoned s).dbu.needOfRunning = s.dbu.needOfRunning
    ∧ (enterAbandoned s).dbu.lastSettled = s.dbu.lastSettled
    ∧ (enterAbandoned s).ssu.claimNumber = s.ssu.claimNumber
    ∧ (enterAbandoned s).ssu.lastSettled = s.ssu.lastSettled
    ∧ (enterAbandoned s).pvu.peers = s.pvu.peers ∧ (enterAbandoned s).lnc.line = s.lnc.line
    ∧ (enterAbandoned s).lnc.tx = s.lnc.tx ∧ (enterAbandoned s).lnc.beaconAt = s.lnc.beaconAt
    ∧ (enterAbandoned s).lnc.listenAt = s.lnc.listenAt
    ∧ (enterAbandoned s).lnc.silenceAt = s.lnc.silenceAt
    ∧ (enterAbandoned s).lnc.sequence = s.lnc.sequence
    ∧ (enterAbandoned s).lnc.deafCount = s.lnc.deafCount
    ∧ (enterAbandoned s).lnc.quiet = s.lnc.quiet ∧ (enterAbandoned s).lnc.charLeft = s.lnc.charLeft
    ∧ (enterAbandoned s).lnc.synced = s.lnc.synced ∧ (enterAbandoned s).spu.inputs = s.spu.inputs
    ∧ (enterAbandoned s).spu.sampled = s.spu.sampled ∧ (enterAbandoned s).spu.search = s.spu.search
    ∧ (enterAbandoned s).spu.feedback = s.spu.feedback ∧ (enterAbandoned s).spu.level = s.spu.level
    ∧ (enterAbandoned s).spu.staleMark = s.spu.staleMark
    ∧ (enterAbandoned s).spu.refSequence = s.spu.refSequence
    ∧ (enterAbandoned s).spu.refTx = s.spu.refTx ∧ (enterAbandoned s).cpn.spi = s.cpn.spi
    ∧ (enterAbandoned s).cpn.reply = s.cpn.reply ∧ (enterAbandoned s).cpn.straps = s.cpn.straps
    ∧ (enterAbandoned s).cpn.strapDone = s.cpn.strapDone
    ∧ (enterAbandoned s).cpn.strapSampler = s.cpn.strapSampler := by
  unfold enterAbandoned
  simp

@[simp] theorem enterHandback_keeps (s : State) :
    (enterHandback s).now = s.now ∧ (enterHandback s).micros = s.micros
    ∧ (enterHandback s).joinedAt = s.joinedAt ∧ (enterHandback s).rstLow = s.rstLow
    ∧ (enterHandback s).pst = s.pst ∧ (enterHandback s).pending = s.pending
    ∧ (enterHandback s).rsq.pendingSet = s.rsq.pendingSet
    ∧ (enterHandback s).rsq.currentCause = s.rsq.currentCause
    ∧ (enterHandback s).rsq.step = s.rsq.step ∧ (enterHandback s).rsq.dwell = s.rsq.dwell
    ∧ (enterHandback s).rsq.levelHoldTime = s.rsq.levelHoldTime
    ∧ (enterHandback s).rsq.levelHold = s.rsq.levelHold ∧ (enterHandback s).rsq.speed = s.rsq.speed
    ∧ (enterHandback s).rsq.stack = s.rsq.stack
    ∧ (enterHandback s).rsq.baseUrgency = s.rsq.baseUrgency
    ∧ (enterHandback s).rsq.urgencyBase = s.rsq.urgencyBase
    ∧ (enterHandback s).rsq.counters = s.rsq.counters ∧ (enterHandback s).rsq.runReq = s.rsq.runReq
    ∧ (enterHandback s).rsq.tickPhase = s.rsq.tickPhase
    ∧ (enterHandback s).rsq.tickTaken = s.rsq.tickTaken
    ∧ (enterHandback s).dbu.granted = s.dbu.granted ∧ (enterHandback s).dbu.limit = s.dbu.limit
    ∧ (enterHandback s).dbu.epoch = s.dbu.epoch ∧ (enterHandback s).dbu.phase = s.dbu.phase
    ∧ (enterHandback s).dbu.learned = s.dbu.learned
    ∧ (enterHandback s).dbu.mismatch = s.dbu.mismatch
    ∧ (enterHandback s).dbu.claimNumber = s.dbu.claimNumber
    ∧ (enterHandback s).dbu.amount = s.dbu.amount
    ∧ (enterHandback s).dbu.needOfRunning = s.dbu.needOfRunning
    ∧ (enterHandback s).dbu.lastSettled = s.dbu.lastSettled
    ∧ (enterHandback s).dbu.overcommit = s.dbu.overcommit
    ∧ (enterHandback s).ssu.claimNumber = s.ssu.claimNumber
    ∧ (enterHandback s).ssu.lastSettled = s.ssu.lastSettled
    ∧ (enterHandback s).ssu.attempts = s.ssu.attempts ∧ (enterHandback s).pvu.peers = s.pvu.peers
    ∧ (enterHandback s).lnc.line = s.lnc.line ∧ (enterHandback s).lnc.tx = s.lnc.tx
    ∧ (enterHandback s).lnc.beaconAt = s.lnc.beaconAt
    ∧ (enterHandback s).lnc.listenAt = s.lnc.listenAt
    ∧ (enterHandback s).lnc.silenceAt = s.lnc.silenceAt
    ∧ (enterHandback s).lnc.sequence = s.lnc.sequence
    ∧ (enterHandback s).lnc.deafCount = s.lnc.deafCount ∧ (enterHandback s).lnc.quiet = s.lnc.quiet
    ∧ (enterHandback s).lnc.charLeft = s.lnc.charLeft ∧ (enterHandback s).lnc.synced = s.lnc.synced
    ∧ (enterHandback s).spu = s.spu ∧ (enterHandback s).cpn.spi = s.cpn.spi
    ∧ (enterHandback s).cpn.reply = s.cpn.reply ∧ (enterHandback s).cpn.fault = s.cpn.fault
    ∧ (enterHandback s).cpn.straps = s.cpn.straps
    ∧ (enterHandback s).cpn.strapDone = s.cpn.strapDone
    ∧ (enterHandback s).cpn.strapSampler = s.cpn.strapSampler := by
  unfold enterHandback
  simp

@[simp] theorem takeConfiguredBase_keeps (s : State) :
    (takeConfiguredBase s).now = s.now ∧ (takeConfiguredBase s).micros = s.micros
    ∧ (takeConfiguredBase s).joinedAt = s.joinedAt ∧ (takeConfiguredBase s).rstLow = s.rstLow
    ∧ (takeConfiguredBase s).pst = s.pst ∧ (takeConfiguredBase s).dbu = s.dbu
    ∧ (takeConfiguredBase s).ssu = s.ssu ∧ (takeConfiguredBase s).pvu = s.pvu
    ∧ (takeConfiguredBase s).lnc = s.lnc ∧ (takeConfiguredBase s).spu = s.spu
    ∧ (takeConfiguredBase s).cpn = s.cpn ∧ (takeConfiguredBase s).pending = s.pending
    ∧ (takeConfiguredBase s).rsq
      = { s.rsq with urgencyBase := (s.entryOf s.rsq.currentCause).baseUrgency } :=
  ⟨rfl, rfl, rfl, rfl, rfl, rfl, rfl, rfl, rfl, rfl, rfl, rfl, rfl⟩

@[simp] theorem popContext_keeps (c : Context) (l : List Context) (s : State) :
    (popContext c l s).now = s.now ∧ (popContext c l s).micros = s.micros
    ∧ (popContext c l s).joinedAt = s.joinedAt ∧ (popContext c l s).rstLow = s.rstLow
    ∧ (popContext c l s).pst = s.pst ∧ (popContext c l s).pending = s.pending
    ∧ (popContext c l s).rsq.state = s.rsq.state
    ∧ (popContext c l s).rsq.pendingSet = s.rsq.pendingSet
    ∧ (popContext c l s).rsq.levelHold = s.rsq.levelHold
    ∧ (popContext c l s).rsq.speed = s.rsq.speed
    ∧ (popContext c l s).rsq.handbackAt = s.rsq.handbackAt
    ∧ (popContext c l s).rsq.runReq = s.rsq.runReq
    ∧ (popContext c l s).rsq.tickPhase = s.rsq.tickPhase
    ∧ (popContext c l s).rsq.tickTaken = s.rsq.tickTaken
    ∧ (popContext c l s).dbu.granted = s.dbu.granted ∧ (popContext c l s).dbu.limit = s.dbu.limit
    ∧ (popContext c l s).dbu.epoch = s.dbu.epoch ∧ (popContext c l s).dbu.phase = s.dbu.phase
    ∧ (popContext c l s).dbu.learned = s.dbu.learned
    ∧ (popContext c l s).dbu.mismatch = s.dbu.mismatch
    ∧ (popContext c l s).dbu.claimNumber = s.dbu.claimNumber
    ∧ (popContext c l s).dbu.amount = s.dbu.amount ∧ (popContext c l s).dbu.need = s.dbu.need
    ∧ (popContext c l s).dbu.lastSettled = s.dbu.lastSettled
    ∧ (popContext c l s).dbu.overcommit = s.dbu.overcommit
    ∧ (popContext c l s).ssu.holder = s.ssu.holder ∧ (popContext c l s).ssu.request = s.ssu.request
    ∧ (popContext c l s).ssu.claimNumber = s.ssu.claimNumber
    ∧ (popContext c l s).ssu.lastSettled = s.ssu.lastSettled
    ∧ (popContext c l s).ssu.tenure = s.ssu.tenure
    ∧ (popContext c l s).ssu.tenureAt = s.ssu.tenureAt
    ∧ (popContext c l s).ssu.clearPending = s.ssu.clearPending
    ∧ (popContext c l s).ssu.attempts = s.ssu.attempts
    ∧ (popContext c l s).ssu.clearSent = s.ssu.clearSent
    ∧ (popContext c l s).pvu.peers = s.pvu.peers ∧ (popContext c l s).lnc.line = s.lnc.line
    ∧ (popContext c l s).lnc.tx = s.lnc.tx ∧ (popContext c l s).lnc.beaconAt = s.lnc.beaconAt
    ∧ (popContext c l s).lnc.listenAt = s.lnc.listenAt
    ∧ (popContext c l s).lnc.silenceAt = s.lnc.silenceAt
    ∧ (popContext c l s).lnc.sequence = s.lnc.sequence
    ∧ (popContext c l s).lnc.deafCount = s.lnc.deafCount
    ∧ (popContext c l s).lnc.quiet = s.lnc.quiet ∧ (popContext c l s).lnc.charLeft = s.lnc.charLeft
    ∧ (popContext c l s).lnc.synced = s.lnc.synced ∧ (popContext c l s).spu = s.spu
    ∧ (popContext c l s).cpn.spi = s.cpn.spi ∧ (popContext c l s).cpn.reply = s.cpn.reply
    ∧ (popContext c l s).cpn.fault = s.cpn.fault ∧ (popContext c l s).cpn.straps = s.cpn.straps
    ∧ (popContext c l s).cpn.strapDone = s.cpn.strapDone
    ∧ (popContext c l s).cpn.strapSampler = s.cpn.strapSampler := by
  unfold popContext
  simp

@[simp] theorem advanceStep_keeps (s : State) :
    (advanceStep s).now = s.now ∧ (advanceStep s).micros = s.micros
    ∧ (advanceStep s).joinedAt = s.joinedAt ∧ (advanceStep s).rstLow = s.rstLow
    ∧ (advanceStep s).pst = s.pst ∧ (advanceStep s).pending = s.pending
    ∧ (advanceStep s).rsq.state = s.rsq.state ∧ (advanceStep s).rsq.pendingSet = s.rsq.pendingSet
    ∧ (advanceStep s).rsq.currentCause = s.rsq.currentCause
    ∧ (advanceStep s).rsq.levelHold = s.rsq.levelHold ∧ (advanceStep s).rsq.speed = s.rsq.speed
    ∧ (advanceStep s).rsq.stack = s.rsq.stack ∧ (advanceStep s).rsq.carried = s.rsq.carried
    ∧ (advanceStep s).rsq.baseUrgency = s.rsq.baseUrgency
    ∧ (advanceStep s).rsq.urgencyBase = s.rsq.urgencyBase
    ∧ (advanceStep s).rsq.counters = s.rsq.counters
    ∧ (advanceStep s).rsq.handbackAt = s.rsq.handbackAt ∧ (advanceStep s).rsq.runReq = s.rsq.runReq
    ∧ (advanceStep s).rsq.urgency = s.rsq.urgency ∧ (advanceStep s).rsq.tickPhase = s.rsq.tickPhase
    ∧ (advanceStep s).rsq.tickTaken = s.rsq.tickTaken ∧ (advanceStep s).dbu = s.dbu
    ∧ (advanceStep s).ssu = s.ssu ∧ (advanceStep s).pvu = s.pvu ∧ (advanceStep s).lnc = s.lnc
    ∧ (advanceStep s).spu = s.spu ∧ (advanceStep s).cpn = s.cpn := by
  unfold advanceStep
  simp

@[simp] theorem completePoint_keeps (s : State) :
    (completePoint s).now = s.now ∧ (completePoint s).micros = s.micros
    ∧ (completePoint s).joinedAt = s.joinedAt ∧ (completePoint s).rstLow = s.rstLow
    ∧ (completePoint s).pst = s.pst ∧ (completePoint s).pending = s.pending
    ∧ (completePoint s).rsq.pendingSet = s.rsq.pendingSet
    ∧ (completePoint s).rsq.speed = s.rsq.speed ∧ (completePoint s).rsq.runReq = s.rsq.runReq
    ∧ (completePoint s).rsq.tickPhase = s.rsq.tickPhase
    ∧ (completePoint s).rsq.tickTaken = s.rsq.tickTaken
    ∧ (completePoint s).dbu.granted = s.dbu.granted ∧ (completePoint s).dbu.limit = s.dbu.limit
    ∧ (completePoint s).dbu.epoch = s.dbu.epoch ∧ (completePoint s).dbu.phase = s.dbu.phase
    ∧ (completePoint s).dbu.learned = s.dbu.learned
    ∧ (completePoint s).dbu.mismatch = s.dbu.mismatch
    ∧ (completePoint s).dbu.claimNumber = s.dbu.claimNumber
    ∧ (completePoint s).dbu.amount = s.dbu.amount
    ∧ (completePoint s).dbu.lastSettled = s.dbu.lastSettled
    ∧ (completePoint s).dbu.overcommit = s.dbu.overcommit
    ∧ (completePoint s).ssu.claimNumber = s.ssu.claimNumber
    ∧ (completePoint s).ssu.lastSettled = s.ssu.lastSettled
    ∧ (completePoint s).ssu.attempts = s.ssu.attempts ∧ (completePoint s).pvu.peers = s.pvu.peers
    ∧ (completePoint s).lnc.line = s.lnc.line ∧ (completePoint s).lnc.tx = s.lnc.tx
    ∧ (completePoint s).lnc.beaconAt = s.lnc.beaconAt
    ∧ (completePoint s).lnc.listenAt = s.lnc.listenAt
    ∧ (completePoint s).lnc.silenceAt = s.lnc.silenceAt
    ∧ (completePoint s).lnc.sequence = s.lnc.sequence
    ∧ (completePoint s).lnc.deafCount = s.lnc.deafCount ∧ (completePoint s).lnc.quiet = s.lnc.quiet
    ∧ (completePoint s).lnc.charLeft = s.lnc.charLeft ∧ (completePoint s).lnc.synced = s.lnc.synced
    ∧ (completePoint s).spu = s.spu ∧ (completePoint s).cpn.spi = s.cpn.spi
    ∧ (completePoint s).cpn.reply = s.cpn.reply ∧ (completePoint s).cpn.fault = s.cpn.fault
    ∧ (completePoint s).cpn.straps = s.cpn.straps
    ∧ (completePoint s).cpn.strapDone = s.cpn.strapDone
    ∧ (completePoint s).cpn.strapSampler = s.cpn.strapSampler := by
  unfold completePoint
  repeat' split
  all_goals simp

@[simp] theorem levelWait_keeps (s : State) :
    (levelWait s).now = s.now ∧ (levelWait s).micros = s.micros
    ∧ (levelWait s).joinedAt = s.joinedAt ∧ (levelWait s).rstLow = s.rstLow
    ∧ (levelWait s).pst = s.pst ∧ (levelWait s).pending = s.pending
    ∧ (levelWait s).rsq.state = s.rsq.state ∧ (levelWait s).rsq.pendingSet = s.rsq.pendingSet
    ∧ (levelWait s).rsq.currentCause = s.rsq.currentCause ∧ (levelWait s).rsq.step = s.rsq.step
    ∧ (levelWait s).rsq.dwell = s.rsq.dwell ∧ (levelWait s).rsq.speed = s.rsq.speed
    ∧ (levelWait s).rsq.stack = s.rsq.stack ∧ (levelWait s).rsq.carried = s.rsq.carried
    ∧ (levelWait s).rsq.baseUrgency = s.rsq.baseUrgency
    ∧ (levelWait s).rsq.urgencyBase = s.rsq.urgencyBase
    ∧ (levelWait s).rsq.handbackAt = s.rsq.handbackAt ∧ (levelWait s).rsq.runReq = s.rsq.runReq
    ∧ (levelWait s).rsq.urgency = s.rsq.urgency ∧ (levelWait s).rsq.tickPhase = s.rsq.tickPhase
    ∧ (levelWait s).rsq.tickTaken = s.rsq.tickTaken ∧ (levelWait s).dbu = s.dbu
    ∧ (levelWait s).ssu = s.ssu ∧ (levelWait s).pvu = s.pvu ∧ (levelWait s).lnc = s.lnc
    ∧ (levelWait s).spu = s.spu ∧ (levelWait s).cpn.spi = s.cpn.spi
    ∧ (levelWait s).cpn.reply = s.cpn.reply ∧ (levelWait s).cpn.events = s.cpn.events
    ∧ (levelWait s).cpn.ring = s.cpn.ring ∧ (levelWait s).cpn.straps = s.cpn.straps
    ∧ (levelWait s).cpn.strapDone = s.cpn.strapDone
    ∧ (levelWait s).cpn.strapSampler = s.cpn.strapSampler := by
  unfold levelWait
  dsimp only
  repeat' split
  all_goals simp

@[simp] theorem atTargetStep_keeps (s : State) :
    (atTargetStep s).now = s.now ∧ (atTargetStep s).micros = s.micros
    ∧ (atTargetStep s).joinedAt = s.joinedAt ∧ (atTargetStep s).rstLow = s.rstLow
    ∧ (atTargetStep s).pst = s.pst ∧ (atTargetStep s).pending = s.pending
    ∧ (atTargetStep s).rsq.pendingSet = s.rsq.pendingSet ∧ (atTargetStep s).rsq.speed = s.rsq.speed
    ∧ (atTargetStep s).rsq.runReq = s.rsq.runReq ∧ (atTargetStep s).rsq.tickPhase = s.rsq.tickPhase
    ∧ (atTargetStep s).rsq.tickTaken = s.rsq.tickTaken
    ∧ (atTargetStep s).dbu.granted = s.dbu.granted ∧ (atTargetStep s).dbu.limit = s.dbu.limit
    ∧ (atTargetStep s).dbu.epoch = s.dbu.epoch ∧ (atTargetStep s).dbu.phase = s.dbu.phase
    ∧ (atTargetStep s).dbu.learned = s.dbu.learned ∧ (atTargetStep s).dbu.mismatch = s.dbu.mismatch
    ∧ (atTargetStep s).dbu.claimNumber = s.dbu.claimNumber
    ∧ (atTargetStep s).dbu.amount = s.dbu.amount
    ∧ (atTargetStep s).dbu.lastSettled = s.dbu.lastSettled
    ∧ (atTargetStep s).dbu.overcommit = s.dbu.overcommit
    ∧ (atTargetStep s).ssu.claimNumber = s.ssu.claimNumber
    ∧ (atTargetStep s).ssu.lastSettled = s.ssu.lastSettled
    ∧ (atTargetStep s).ssu.attempts = s.ssu.attempts ∧ (atTargetStep s).pvu.peers = s.pvu.peers
    ∧ (atTargetStep s).lnc.line = s.lnc.line ∧ (atTargetStep s).lnc.tx = s.lnc.tx
    ∧ (atTargetStep s).lnc.beaconAt = s.lnc.beaconAt
    ∧ (atTargetStep s).lnc.listenAt = s.lnc.listenAt
    ∧ (atTargetStep s).lnc.silenceAt = s.lnc.silenceAt
    ∧ (atTargetStep s).lnc.sequence = s.lnc.sequence
    ∧ (atTargetStep s).lnc.deafCount = s.lnc.deafCount ∧ (atTargetStep s).lnc.quiet = s.lnc.quiet
    ∧ (atTargetStep s).lnc.charLeft = s.lnc.charLeft ∧ (atTargetStep s).lnc.synced = s.lnc.synced
    ∧ (atTargetStep s).spu = s.spu ∧ (atTargetStep s).cpn.spi = s.cpn.spi
    ∧ (atTargetStep s).cpn.reply = s.cpn.reply ∧ (atTargetStep s).cpn.straps = s.cpn.straps
    ∧ (atTargetStep s).cpn.strapDone = s.cpn.strapDone
    ∧ (atTargetStep s).cpn.strapSampler = s.cpn.strapSampler := by
  unfold atTargetStep
  repeat' split
  all_goals simp

@[simp] theorem risingStep_keeps (s : State) :
    (risingStep s).now = s.now ∧ (risingStep s).micros = s.micros
    ∧ (risingStep s).joinedAt = s.joinedAt ∧ (risingStep s).rstLow = s.rstLow
    ∧ (risingStep s).pst = s.pst ∧ (risingStep s).pending = s.pending
    ∧ (risingStep s).rsq.state = s.rsq.state ∧ (risingStep s).rsq.pendingSet = s.rsq.pendingSet
    ∧ (risingStep s).rsq.currentCause = s.rsq.currentCause ∧ (risingStep s).rsq.step = s.rsq.step
    ∧ (risingStep s).rsq.dwell = s.rsq.dwell
    ∧ (risingStep s).rsq.levelHoldTime = s.rsq.levelHoldTime
    ∧ (risingStep s).rsq.levelHold = s.rsq.levelHold ∧ (risingStep s).rsq.stack = s.rsq.stack
    ∧ (risingStep s).rsq.carried = s.rsq.carried
    ∧ (risingStep s).rsq.baseUrgency = s.rsq.baseUrgency
    ∧ (risingStep s).rsq.urgencyBase = s.rsq.urgencyBase
    ∧ (risingStep s).rsq.counters = s.rsq.counters
    ∧ (risingStep s).rsq.handbackAt = s.rsq.handbackAt ∧ (risingStep s).rsq.runReq = s.rsq.runReq
    ∧ (risingStep s).rsq.urgency = s.rsq.urgency ∧ (risingStep s).rsq.tickPhase = s.rsq.tickPhase
    ∧ (risingStep s).rsq.tickTaken = s.rsq.tickTaken ∧ (risingStep s).dbu.limit = s.dbu.limit
    ∧ (risingStep s).dbu.epoch = s.dbu.epoch ∧ (risingStep s).dbu.phase = s.dbu.phase
    ∧ (risingStep s).dbu.learned = s.dbu.learned ∧ (risingStep s).dbu.mismatch = s.dbu.mismatch
    ∧ (risingStep s).dbu.lastSettled = s.dbu.lastSettled ∧ (risingStep s).ssu = s.ssu
    ∧ (risingStep s).pvu.peers = s.pvu.peers ∧ (risingStep s).lnc.line = s.lnc.line
    ∧ (risingStep s).lnc.tx = s.lnc.tx ∧ (risingStep s).lnc.beaconAt = s.lnc.beaconAt
    ∧ (risingStep s).lnc.listenAt = s.lnc.listenAt ∧ (risingStep s).lnc.silenceAt = s.lnc.silenceAt
    ∧ (risingStep s).lnc.sequence = s.lnc.sequence ∧ (risingStep s).lnc.deafCount = s.lnc.deafCount
    ∧ (risingStep s).lnc.quiet = s.lnc.quiet ∧ (risingStep s).lnc.charLeft = s.lnc.charLeft
    ∧ (risingStep s).lnc.synced = s.lnc.synced ∧ (risingStep s).spu = s.spu
    ∧ (risingStep s).cpn.spi = s.cpn.spi ∧ (risingStep s).cpn.reply = s.cpn.reply
    ∧ (risingStep s).cpn.events = s.cpn.events ∧ (risingStep s).cpn.ring = s.cpn.ring
    ∧ (risingStep s).cpn.straps = s.cpn.straps ∧ (risingStep s).cpn.strapDone = s.cpn.strapDone
    ∧ (risingStep s).cpn.strapSampler = s.cpn.strapSampler := by
  unfold risingStep
  dsimp only
  repeat' split
  all_goals simp

@[simp] theorem fallingStep_keeps (s : State) :
    (fallingStep s).now = s.now ∧ (fallingStep s).micros = s.micros
    ∧ (fallingStep s).joinedAt = s.joinedAt ∧ (fallingStep s).rstLow = s.rstLow
    ∧ (fallingStep s).pst = s.pst ∧ (fallingStep s).pending = s.pending
    ∧ (fallingStep s).rsq.state = s.rsq.state ∧ (fallingStep s).rsq.pendingSet = s.rsq.pendingSet
    ∧ (fallingStep s).rsq.currentCause = s.rsq.currentCause ∧ (fallingStep s).rsq.step = s.rsq.step
    ∧ (fallingStep s).rsq.dwell = s.rsq.dwell
    ∧ (fallingStep s).rsq.levelHoldTime = s.rsq.levelHoldTime
    ∧ (fallingStep s).rsq.levelHold = s.rsq.levelHold ∧ (fallingStep s).rsq.stack = s.rsq.stack
    ∧ (fallingStep s).rsq.carried = s.rsq.carried
    ∧ (fallingStep s).rsq.baseUrgency = s.rsq.baseUrgency
    ∧ (fallingStep s).rsq.urgencyBase = s.rsq.urgencyBase
    ∧ (fallingStep s).rsq.counters = s.rsq.counters
    ∧ (fallingStep s).rsq.handbackAt = s.rsq.handbackAt ∧ (fallingStep s).rsq.runReq = s.rsq.runReq
    ∧ (fallingStep s).rsq.urgency = s.rsq.urgency ∧ (fallingStep s).rsq.tickPhase = s.rsq.tickPhase
    ∧ (fallingStep s).rsq.tickTaken = s.rsq.tickTaken ∧ (fallingStep s).dbu.granted = s.dbu.granted
    ∧ (fallingStep s).dbu.limit = s.dbu.limit ∧ (fallingStep s).dbu.epoch = s.dbu.epoch
    ∧ (fallingStep s).dbu.phase = s.dbu.phase ∧ (fallingStep s).dbu.learned = s.dbu.learned
    ∧ (fallingStep s).dbu.mismatch = s.dbu.mismatch
    ∧ (fallingStep s).dbu.claimNumber = s.dbu.claimNumber
    ∧ (fallingStep s).dbu.amount = s.dbu.amount
    ∧ (fallingStep s).dbu.needOfRunning = s.dbu.needOfRunning
    ∧ (fallingStep s).dbu.lastSettled = s.dbu.lastSettled
    ∧ (fallingStep s).dbu.settleAt = s.dbu.settleAt
    ∧ (fallingStep s).dbu.overcommit = s.dbu.overcommit ∧ (fallingStep s).ssu = s.ssu
    ∧ (fallingStep s).pvu = s.pvu ∧ (fallingStep s).lnc = s.lnc ∧ (fallingStep s).spu = s.spu
    ∧ (fallingStep s).cpn = s.cpn := by
  unfold fallingStep
  simp

@[simp] theorem rampStep_keeps (s : State) :
    (rampStep s).now = s.now ∧ (rampStep s).micros = s.micros ∧ (rampStep s).joinedAt = s.joinedAt
    ∧ (rampStep s).rstLow = s.rstLow ∧ (rampStep s).pst = s.pst ∧ (rampStep s).pending = s.pending
    ∧ (rampStep s).rsq.pendingSet = s.rsq.pendingSet ∧ (rampStep s).rsq.runReq = s.rsq.runReq
    ∧ (rampStep s).rsq.tickPhase = s.rsq.tickPhase ∧ (rampStep s).rsq.tickTaken = s.rsq.tickTaken
    ∧ (rampStep s).dbu.limit = s.dbu.limit ∧ (rampStep s).dbu.epoch = s.dbu.epoch
    ∧ (rampStep s).dbu.phase = s.dbu.phase ∧ (rampStep s).dbu.learned = s.dbu.learned
    ∧ (rampStep s).dbu.mismatch = s.dbu.mismatch ∧ (rampStep s).dbu.lastSettled = s.dbu.lastSettled
    ∧ (rampStep s).ssu.claimNumber = s.ssu.claimNumber
    ∧ (rampStep s).ssu.lastSettled = s.ssu.lastSettled ∧ (rampStep s).ssu.attempts = s.ssu.attempts
    ∧ (rampStep s).pvu.peers = s.pvu.peers ∧ (rampStep s).lnc.line = s.lnc.line
    ∧ (rampStep s).lnc.tx = s.lnc.tx ∧ (rampStep s).lnc.beaconAt = s.lnc.beaconAt
    ∧ (rampStep s).lnc.listenAt = s.lnc.listenAt ∧ (rampStep s).lnc.silenceAt = s.lnc.silenceAt
    ∧ (rampStep s).lnc.sequence = s.lnc.sequence ∧ (rampStep s).lnc.deafCount = s.lnc.deafCount
    ∧ (rampStep s).lnc.quiet = s.lnc.quiet ∧ (rampStep s).lnc.charLeft = s.lnc.charLeft
    ∧ (rampStep s).lnc.synced = s.lnc.synced ∧ (rampStep s).spu = s.spu
    ∧ (rampStep s).cpn.spi = s.cpn.spi ∧ (rampStep s).cpn.reply = s.cpn.reply
    ∧ (rampStep s).cpn.straps = s.cpn.straps ∧ (rampStep s).cpn.strapDone = s.cpn.strapDone
    ∧ (rampStep s).cpn.strapSampler = s.cpn.strapSampler := by
  unfold rampStep
  repeat' split
  all_goals simp

@[simp] theorem takeTick_keeps (s : State) :
    (takeTick s).now = s.now ∧ (takeTick s).micros = s.micros ∧ (takeTick s).joinedAt = s.joinedAt
    ∧ (takeTick s).rstLow = s.rstLow ∧ (takeTick s).pst = s.pst ∧ (takeTick s).pending = s.pending
    ∧ (takeTick s).rsq.pendingSet = s.rsq.pendingSet ∧ (takeTick s).rsq.runReq = s.rsq.runReq
    ∧ (takeTick s).dbu.limit = s.dbu.limit ∧ (takeTick s).dbu.epoch = s.dbu.epoch
    ∧ (takeTick s).dbu.phase = s.dbu.phase ∧ (takeTick s).dbu.learned = s.dbu.learned
    ∧ (takeTick s).dbu.mismatch = s.dbu.mismatch ∧ (takeTick s).dbu.lastSettled = s.dbu.lastSettled
    ∧ (takeTick s).ssu.claimNumber = s.ssu.claimNumber
    ∧ (takeTick s).ssu.lastSettled = s.ssu.lastSettled ∧ (takeTick s).ssu.attempts = s.ssu.attempts
    ∧ (takeTick s).pvu.peers = s.pvu.peers ∧ (takeTick s).lnc.line = s.lnc.line
    ∧ (takeTick s).lnc.tx = s.lnc.tx ∧ (takeTick s).lnc.beaconAt = s.lnc.beaconAt
    ∧ (takeTick s).lnc.listenAt = s.lnc.listenAt ∧ (takeTick s).lnc.silenceAt = s.lnc.silenceAt
    ∧ (takeTick s).lnc.sequence = s.lnc.sequence ∧ (takeTick s).lnc.deafCount = s.lnc.deafCount
    ∧ (takeTick s).lnc.quiet = s.lnc.quiet ∧ (takeTick s).lnc.charLeft = s.lnc.charLeft
    ∧ (takeTick s).lnc.synced = s.lnc.synced ∧ (takeTick s).spu.inputs = s.spu.inputs
    ∧ (takeTick s).spu.sampled = s.spu.sampled ∧ (takeTick s).spu.search = s.spu.search
    ∧ (takeTick s).spu.feedback = s.spu.feedback ∧ (takeTick s).spu.level = s.spu.level
    ∧ (takeTick s).spu.staleMark = s.spu.staleMark
    ∧ (takeTick s).spu.refSequence = s.spu.refSequence ∧ (takeTick s).spu.refTx = s.spu.refTx
    ∧ (takeTick s).cpn.spi = s.cpn.spi ∧ (takeTick s).cpn.reply = s.cpn.reply
    ∧ (takeTick s).cpn.straps = s.cpn.straps ∧ (takeTick s).cpn.strapDone = s.cpn.strapDone
    ∧ (takeTick s).cpn.strapSampler = s.cpn.strapSampler := by
  unfold takeTick
  dsimp only
  repeat' split
  all_goals simp

@[simp] theorem takeBegin_keeps (e : Nat) (s : State) :
    (takeBegin e s).now = s.now ∧ (takeBegin e s).micros = s.micros
    ∧ (takeBegin e s).joinedAt = s.joinedAt ∧ (takeBegin e s).rstLow = s.rstLow
    ∧ (takeBegin e s).pst = s.pst ∧ (takeBegin e s).pending = s.pending
    ∧ (takeBegin e s).rsq.tickPhase = s.rsq.tickPhase
    ∧ (takeBegin e s).rsq.tickTaken = s.rsq.tickTaken ∧ (takeBegin e s).dbu.limit = s.dbu.limit
    ∧ (takeBegin e s).dbu.lastSettled = s.dbu.lastSettled
    ∧ (takeBegin e s).ssu.lastSettled = s.ssu.lastSettled ∧ (takeBegin e s).pvu.peers = s.pvu.peers
    ∧ (takeBegin e s).lnc.line = s.lnc.line ∧ (takeBegin e s).lnc.tx = s.lnc.tx
    ∧ (takeBegin e s).lnc.beaconAt = s.lnc.beaconAt ∧ (takeBegin e s).lnc.listenAt = s.lnc.listenAt
    ∧ (takeBegin e s).lnc.silenceAt = s.lnc.silenceAt
    ∧ (takeBegin e s).lnc.sequence = s.lnc.sequence
    ∧ (takeBegin e s).lnc.deafCount = s.lnc.deafCount ∧ (takeBegin e s).lnc.quiet = s.lnc.quiet
    ∧ (takeBegin e s).lnc.charLeft = s.lnc.charLeft ∧ (takeBegin e s).lnc.synced = s.lnc.synced
    ∧ (takeBegin e s).spu.inputs = s.spu.inputs ∧ (takeBegin e s).spu.sampled = s.spu.sampled
    ∧ (takeBegin e s).spu.search = s.spu.search ∧ (takeBegin e s).spu.feedback = s.spu.feedback
    ∧ (takeBegin e s).spu.level = s.spu.level ∧ (takeBegin e s).spu.staleMark = s.spu.staleMark
    ∧ (takeBegin e s).spu.refSequence = s.spu.refSequence ∧ (takeBegin e s).spu.refTx = s.spu.refTx
    ∧ (takeBegin e s).cpn.spi = s.cpn.spi ∧ (takeBegin e s).cpn.reply = s.cpn.reply
    ∧ (takeBegin e s).cpn.straps = s.cpn.straps ∧ (takeBegin e s).cpn.strapDone = s.cpn.strapDone
    ∧ (takeBegin e s).cpn.strapSampler = s.cpn.strapSampler := by
  unfold takeBegin
  repeat' split
  all_goals simp

@[simp] theorem adoptLimit_keeps (l : Option Nat) (s : State) :
    (adoptLimit l s).now = s.now ∧ (adoptLimit l s).micros = s.micros
    ∧ (adoptLimit l s).joinedAt = s.joinedAt ∧ (adoptLimit l s).rstLow = s.rstLow
    ∧ (adoptLimit l s).pst = s.pst ∧ (adoptLimit l s).pending = s.pending
    ∧ (adoptLimit l s).rsq = s.rsq ∧ (adoptLimit l s).dbu.granted = s.dbu.granted
    ∧ (adoptLimit l s).dbu.epoch = s.dbu.epoch ∧ (adoptLimit l s).dbu.phase = s.dbu.phase
    ∧ (adoptLimit l s).dbu.learned = s.dbu.learned ∧ (adoptLimit l s).dbu.mismatch = s.dbu.mismatch
    ∧ (adoptLimit l s).dbu.claim = s.dbu.claim
    ∧ (adoptLimit l s).dbu.claimNumber = s.dbu.claimNumber
    ∧ (adoptLimit l s).dbu.amount = s.dbu.amount ∧ (adoptLimit l s).dbu.need = s.dbu.need
    ∧ (adoptLimit l s).dbu.needOfRunning = s.dbu.needOfRunning
    ∧ (adoptLimit l s).dbu.lastSettled = s.dbu.lastSettled
    ∧ (adoptLimit l s).dbu.settleAt = s.dbu.settleAt ∧ (adoptLimit l s).ssu = s.ssu
    ∧ (adoptLimit l s).pvu = s.pvu ∧ (adoptLimit l s).lnc = s.lnc ∧ (adoptLimit l s).spu = s.spu
    ∧ (adoptLimit l s).cpn.spi = s.cpn.spi ∧ (adoptLimit l s).cpn.reply = s.cpn.reply
    ∧ (adoptLimit l s).cpn.ring = s.cpn.ring ∧ (adoptLimit l s).cpn.straps = s.cpn.straps
    ∧ (adoptLimit l s).cpn.strapDone = s.cpn.strapDone
    ∧ (adoptLimit l s).cpn.strapSampler = s.cpn.strapSampler := by
  unfold adoptLimit
  repeat' split
  all_goals simp

@[simp] theorem beaconIfTundishChanged_keeps (b : State) (s : State) :
    (beaconIfTundishChanged b s).now = s.now ∧ (beaconIfTundishChanged b s).micros = s.micros
    ∧ (beaconIfTundishChanged b s).joinedAt = s.joinedAt
    ∧ (beaconIfTundishChanged b s).rstLow = s.rstLow ∧ (beaconIfTundishChanged b s).pst = s.pst
    ∧ (beaconIfTundishChanged b s).pending = s.pending ∧ (beaconIfTundishChanged b s).rsq = s.rsq
    ∧ (beaconIfTundishChanged b s).dbu = s.dbu ∧ (beaconIfTundishChanged b s).ssu = s.ssu
    ∧ (beaconIfTundishChanged b s).pvu = s.pvu ∧ (beaconIfTundishChanged b s).lnc.line = s.lnc.line
    ∧ (beaconIfTundishChanged b s).lnc.queue = s.lnc.queue
    ∧ (beaconIfTundishChanged b s).lnc.tx = s.lnc.tx
    ∧ (beaconIfTundishChanged b s).lnc.beaconAt = s.lnc.beaconAt
    ∧ (beaconIfTundishChanged b s).lnc.listenAt = s.lnc.listenAt
    ∧ (beaconIfTundishChanged b s).lnc.silenceAt = s.lnc.silenceAt
    ∧ (beaconIfTundishChanged b s).lnc.sequence = s.lnc.sequence
    ∧ (beaconIfTundishChanged b s).lnc.deafCount = s.lnc.deafCount
    ∧ (beaconIfTundishChanged b s).lnc.quiet = s.lnc.quiet
    ∧ (beaconIfTundishChanged b s).lnc.charLeft = s.lnc.charLeft
    ∧ (beaconIfTundishChanged b s).lnc.synced = s.lnc.synced
    ∧ (beaconIfTundishChanged b s).spu = s.spu ∧ (beaconIfTundishChanged b s).cpn = s.cpn := by
  unfold beaconIfTundishChanged
  repeat' split
  all_goals simp

@[simp] theorem takeReady_keeps (e : Nat) (l : Option Nat) (s : State) :
    (takeReady e l s).now = s.now ∧ (takeReady e l s).micros = s.micros
    ∧ (takeReady e l s).joinedAt = s.joinedAt ∧ (takeReady e l s).rstLow = s.rstLow
    ∧ (takeReady e l s).pst = s.pst ∧ (takeReady e l s).pending = s.pending
    ∧ (takeReady e l s).rsq.levelHold = s.rsq.levelHold ∧ (takeReady e l s).rsq.speed = s.rsq.speed
    ∧ (takeReady e l s).rsq.stack = s.rsq.stack
    ∧ (takeReady e l s).rsq.handbackAt = s.rsq.handbackAt
    ∧ (takeReady e l s).rsq.tickPhase = s.rsq.tickPhase
    ∧ (takeReady e l s).rsq.tickTaken = s.rsq.tickTaken
    ∧ (takeReady e l s).dbu.lastSettled = s.dbu.lastSettled
    ∧ (takeReady e l s).ssu.lastSettled = s.ssu.lastSettled
    ∧ (takeReady e l s).pvu.peers = s.pvu.peers ∧ (takeReady e l s).lnc.line = s.lnc.line
    ∧ (takeReady e l s).lnc.tx = s.lnc.tx ∧ (takeReady e l s).lnc.beaconAt = s.lnc.beaconAt
    ∧ (takeReady e l s).lnc.listenAt = s.lnc.listenAt
    ∧ (takeReady e l s).lnc.silenceAt = s.lnc.silenceAt
    ∧ (takeReady e l s).lnc.sequence = s.lnc.sequence
    ∧ (takeReady e l s).lnc.deafCount = s.lnc.deafCount ∧ (takeReady e l s).lnc.quiet = s.lnc.quiet
    ∧ (takeReady e l s).lnc.charLeft = s.lnc.charLeft ∧ (takeReady e l s).lnc.synced = s.lnc.synced
    ∧ (takeReady e l s).spu = s.spu ∧ (takeReady e l s).cpn.spi = s.cpn.spi
    ∧ (takeReady e l s).cpn.reply = s.cpn.reply ∧ (takeReady e l s).cpn.ring = s.cpn.ring
    ∧ (takeReady e l s).cpn.straps = s.cpn.straps
    ∧ (takeReady e l s).cpn.strapDone = s.cpn.strapDone
    ∧ (takeReady e l s).cpn.strapSampler = s.cpn.strapSampler := by
  unfold takeReady
  repeat' split
  all_goals simp

@[simp] theorem takeReadyEvent_keeps (e l : Nat) (s : State) :
    (takeReadyEvent e l s).now = s.now ∧ (takeReadyEvent e l s).micros = s.micros
    ∧ (takeReadyEvent e l s).joinedAt = s.joinedAt ∧ (takeReadyEvent e l s).rstLow = s.rstLow
    ∧ (takeReadyEvent e l s).pst = s.pst ∧ (takeReadyEvent e l s).pending = s.pending
    ∧ (takeReadyEvent e l s).rsq.levelHold = s.rsq.levelHold
    ∧ (takeReadyEvent e l s).rsq.speed = s.rsq.speed
    ∧ (takeReadyEvent e l s).rsq.stack = s.rsq.stack
    ∧ (takeReadyEvent e l s).rsq.handbackAt = s.rsq.handbackAt
    ∧ (takeReadyEvent e l s).rsq.tickPhase = s.rsq.tickPhase
    ∧ (takeReadyEvent e l s).rsq.tickTaken = s.rsq.tickTaken
    ∧ (takeReadyEvent e l s).dbu.lastSettled = s.dbu.lastSettled
    ∧ (takeReadyEvent e l s).ssu.lastSettled = s.ssu.lastSettled
    ∧ (takeReadyEvent e l s).pvu.peers = s.pvu.peers ∧ (takeReadyEvent e l s).lnc.line = s.lnc.line
    ∧ (takeReadyEvent e l s).lnc.tx = s.lnc.tx
    ∧ (takeReadyEvent e l s).lnc.beaconAt = s.lnc.beaconAt
    ∧ (takeReadyEvent e l s).lnc.listenAt = s.lnc.listenAt
    ∧ (takeReadyEvent e l s).lnc.silenceAt = s.lnc.silenceAt
    ∧ (takeReadyEvent e l s).lnc.sequence = s.lnc.sequence
    ∧ (takeReadyEvent e l s).lnc.deafCount = s.lnc.deafCount
    ∧ (takeReadyEvent e l s).lnc.quiet = s.lnc.quiet
    ∧ (takeReadyEvent e l s).lnc.charLeft = s.lnc.charLeft
    ∧ (takeReadyEvent e l s).lnc.synced = s.lnc.synced ∧ (takeReadyEvent e l s).spu = s.spu
    ∧ (takeReadyEvent e l s).cpn.spi = s.cpn.spi ∧ (takeReadyEvent e l s).cpn.reply = s.cpn.reply
    ∧ (takeReadyEvent e l s).cpn.ring = s.cpn.ring
    ∧ (takeReadyEvent e l s).cpn.straps = s.cpn.straps
    ∧ (takeReadyEvent e l s).cpn.strapDone = s.cpn.strapDone
    ∧ (takeReadyEvent e l s).cpn.strapSampler = s.cpn.strapSampler := by
  unfold takeReadyEvent
  dsimp only
  repeat' split
  all_goals simp

@[simp] theorem adoptEpoch_keeps (b : BeaconFields) (s : State) :
    (adoptEpoch b s).now = s.now ∧ (adoptEpoch b s).micros = s.micros
    ∧ (adoptEpoch b s).joinedAt = s.joinedAt ∧ (adoptEpoch b s).rstLow = s.rstLow
    ∧ (adoptEpoch b s).pst = s.pst ∧ (adoptEpoch b s).pending = s.pending
    ∧ (adoptEpoch b s).rsq.levelHold = s.rsq.levelHold ∧ (adoptEpoch b s).rsq.speed = s.rsq.speed
    ∧ (adoptEpoch b s).rsq.stack = s.rsq.stack ∧ (adoptEpoch b s).rsq.handbackAt = s.rsq.handbackAt
    ∧ (adoptEpoch b s).rsq.tickPhase = s.rsq.tickPhase
    ∧ (adoptEpoch b s).rsq.tickTaken = s.rsq.tickTaken
    ∧ (adoptEpoch b s).dbu.lastSettled = s.dbu.lastSettled
    ∧ (adoptEpoch b s).ssu.lastSettled = s.ssu.lastSettled
    ∧ (adoptEpoch b s).pvu.peers = s.pvu.peers ∧ (adoptEpoch b s).lnc.line = s.lnc.line
    ∧ (adoptEpoch b s).lnc.tx = s.lnc.tx ∧ (adoptEpoch b s).lnc.beaconAt = s.lnc.beaconAt
    ∧ (adoptEpoch b s).lnc.listenAt = s.lnc.listenAt
    ∧ (adoptEpoch b s).lnc.silenceAt = s.lnc.silenceAt
    ∧ (adoptEpoch b s).lnc.sequence = s.lnc.sequence
    ∧ (adoptEpoch b s).lnc.deafCount = s.lnc.deafCount ∧ (adoptEpoch b s).lnc.quiet = s.lnc.quiet
    ∧ (adoptEpoch b s).lnc.charLeft = s.lnc.charLeft ∧ (adoptEpoch b s).lnc.synced = s.lnc.synced
    ∧ (adoptEpoch b s).spu = s.spu ∧ (adoptEpoch b s).cpn.spi = s.cpn.spi
    ∧ (adoptEpoch b s).cpn.reply = s.cpn.reply ∧ (adoptEpoch b s).cpn.ring = s.cpn.ring
    ∧ (adoptEpoch b s).cpn.straps = s.cpn.straps ∧ (adoptEpoch b s).cpn.strapDone = s.cpn.strapDone
    ∧ (adoptEpoch b s).cpn.strapSampler = s.cpn.strapSampler := by
  unfold adoptEpoch
  simp

@[simp] theorem repairTundish_keeps (b : BeaconFields) (s : State) :
    (repairTundish b s).now = s.now ∧ (repairTundish b s).micros = s.micros
    ∧ (repairTundish b s).joinedAt = s.joinedAt ∧ (repairTundish b s).rstLow = s.rstLow
    ∧ (repairTundish b s).pst = s.pst ∧ (repairTundish b s).pending = s.pending
    ∧ (repairTundish b s).rsq.tickPhase = s.rsq.tickPhase
    ∧ (repairTundish b s).rsq.tickTaken = s.rsq.tickTaken
    ∧ (repairTundish b s).dbu.lastSettled = s.dbu.lastSettled
    ∧ (repairTundish b s).ssu.lastSettled = s.ssu.lastSettled
    ∧ (repairTundish b s).pvu.peers = s.pvu.peers ∧ (repairTundish b s).lnc.line = s.lnc.line
    ∧ (repairTundish b s).lnc.tx = s.lnc.tx ∧ (repairTundish b s).lnc.beaconAt = s.lnc.beaconAt
    ∧ (repairTundish b s).lnc.listenAt = s.lnc.listenAt
    ∧ (repairTundish b s).lnc.silenceAt = s.lnc.silenceAt
    ∧ (repairTundish b s).lnc.sequence = s.lnc.sequence
    ∧ (repairTundish b s).lnc.deafCount = s.lnc.deafCount
    ∧ (repairTundish b s).lnc.quiet = s.lnc.quiet
    ∧ (repairTundish b s).lnc.charLeft = s.lnc.charLeft
    ∧ (repairTundish b s).lnc.synced = s.lnc.synced ∧ (repairTundish b s).spu.inputs = s.spu.inputs
    ∧ (repairTundish b s).spu.sampled = s.spu.sampled
    ∧ (repairTundish b s).spu.search = s.spu.search
    ∧ (repairTundish b s).spu.feedback = s.spu.feedback
    ∧ (repairTundish b s).spu.level = s.spu.level
    ∧ (repairTundish b s).spu.staleMark = s.spu.staleMark
    ∧ (repairTundish b s).spu.refSequence = s.spu.refSequence
    ∧ (repairTundish b s).spu.refTx = s.spu.refTx ∧ (repairTundish b s).cpn.spi = s.cpn.spi
    ∧ (repairTundish b s).cpn.reply = s.cpn.reply ∧ (repairTundish b s).cpn.straps = s.cpn.straps
    ∧ (repairTundish b s).cpn.strapDone = s.cpn.strapDone
    ∧ (repairTundish b s).cpn.strapSampler = s.cpn.strapSampler := by
  unfold repairTundish
  repeat' split
  all_goals simp

@[simp] theorem mismatchTest_keeps (k : Nat) (b : BeaconFields) (s : State) :
    (mismatchTest k b s).now = s.now ∧ (mismatchTest k b s).micros = s.micros
    ∧ (mismatchTest k b s).joinedAt = s.joinedAt ∧ (mismatchTest k b s).rstLow = s.rstLow
    ∧ (mismatchTest k b s).pst = s.pst ∧ (mismatchTest k b s).pending = s.pending
    ∧ (mismatchTest k b s).rsq = s.rsq ∧ (mismatchTest k b s).dbu.granted = s.dbu.granted
    ∧ (mismatchTest k b s).dbu.limit = s.dbu.limit ∧ (mismatchTest k b s).dbu.epoch = s.dbu.epoch
    ∧ (mismatchTest k b s).dbu.phase = s.dbu.phase
    ∧ (mismatchTest k b s).dbu.learned = s.dbu.learned
    ∧ (mismatchTest k b s).dbu.claim = s.dbu.claim
    ∧ (mismatchTest k b s).dbu.claimNumber = s.dbu.claimNumber
    ∧ (mismatchTest k b s).dbu.amount = s.dbu.amount ∧ (mismatchTest k b s).dbu.need = s.dbu.need
    ∧ (mismatchTest k b s).dbu.needOfRunning = s.dbu.needOfRunning
    ∧ (mismatchTest k b s).dbu.lastSettled = s.dbu.lastSettled
    ∧ (mismatchTest k b s).dbu.settleAt = s.dbu.settleAt
    ∧ (mismatchTest k b s).dbu.overcommit = s.dbu.overcommit ∧ (mismatchTest k b s).ssu = s.ssu
    ∧ (mismatchTest k b s).pvu = s.pvu ∧ (mismatchTest k b s).lnc = s.lnc
    ∧ (mismatchTest k b s).spu = s.spu ∧ (mismatchTest k b s).cpn.spi = s.cpn.spi
    ∧ (mismatchTest k b s).cpn.reply = s.cpn.reply ∧ (mismatchTest k b s).cpn.events = s.cpn.events
    ∧ (mismatchTest k b s).cpn.ring = s.cpn.ring ∧ (mismatchTest k b s).cpn.straps = s.cpn.straps
    ∧ (mismatchTest k b s).cpn.strapDone = s.cpn.strapDone
    ∧ (mismatchTest k b s).cpn.strapSampler = s.cpn.strapSampler := by
  unfold mismatchTest
  repeat' split
  all_goals simp

@[simp] theorem drawLineChange_keeps (l : LineState) (s : State) :
    (drawLineChange l s).now = s.now ∧ (drawLineChange l s).micros = s.micros
    ∧ (drawLineChange l s).joinedAt = s.joinedAt ∧ (drawLineChange l s).rstLow = s.rstLow
    ∧ (drawLineChange l s).pst = s.pst ∧ (drawLineChange l s).pending = s.pending
    ∧ (drawLineChange l s).rsq.state = s.rsq.state
    ∧ (drawLineChange l s).rsq.pendingSet = s.rsq.pendingSet
    ∧ (drawLineChange l s).rsq.currentCause = s.rsq.currentCause
    ∧ (drawLineChange l s).rsq.step = s.rsq.step ∧ (drawLineChange l s).rsq.dwell = s.rsq.dwell
    ∧ (drawLineChange l s).rsq.levelHoldTime = s.rsq.levelHoldTime
    ∧ (drawLineChange l s).rsq.levelHold = s.rsq.levelHold
    ∧ (drawLineChange l s).rsq.speed = s.rsq.speed ∧ (drawLineChange l s).rsq.stack = s.rsq.stack
    ∧ (drawLineChange l s).rsq.carried = s.rsq.carried
    ∧ (drawLineChange l s).rsq.baseUrgency = s.rsq.baseUrgency
    ∧ (drawLineChange l s).rsq.urgencyBase = s.rsq.urgencyBase
    ∧ (drawLineChange l s).rsq.handbackAt = s.rsq.handbackAt
    ∧ (drawLineChange l s).rsq.runReq = s.rsq.runReq
    ∧ (drawLineChange l s).rsq.urgency = s.rsq.urgency
    ∧ (drawLineChange l s).rsq.tickPhase = s.rsq.tickPhase
    ∧ (drawLineChange l s).rsq.tickTaken = s.rsq.tickTaken
    ∧ (drawLineChange l s).dbu.limit = s.dbu.limit ∧ (drawLineChange l s).dbu.epoch = s.dbu.epoch
    ∧ (drawLineChange l s).dbu.phase = s.dbu.phase
    ∧ (drawLineChange l s).dbu.learned = s.dbu.learned
    ∧ (drawLineChange l s).dbu.mismatch = s.dbu.mismatch
    ∧ (drawLineChange l s).dbu.needOfRunning = s.dbu.needOfRunning
    ∧ (drawLineChange l s).dbu.lastSettled = s.dbu.lastSettled ∧ (drawLineChange l s).ssu = s.ssu
    ∧ (drawLineChange l s).pvu.peers = s.pvu.peers ∧ (drawLineChange l s).lnc.line = s.lnc.line
    ∧ (drawLineChange l s).lnc.tx = s.lnc.tx ∧ (drawLineChange l s).lnc.beaconAt = s.lnc.beaconAt
    ∧ (drawLineChange l s).lnc.listenAt = s.lnc.listenAt
    ∧ (drawLineChange l s).lnc.silenceAt = s.lnc.silenceAt
    ∧ (drawLineChange l s).lnc.sequence = s.lnc.sequence
    ∧ (drawLineChange l s).lnc.deafCount = s.lnc.deafCount
    ∧ (drawLineChange l s).lnc.quiet = s.lnc.quiet
    ∧ (drawLineChange l s).lnc.charLeft = s.lnc.charLeft
    ∧ (drawLineChange l s).lnc.synced = s.lnc.synced ∧ (drawLineChange l s).spu = s.spu
    ∧ (drawLineChange l s).cpn.spi = s.cpn.spi ∧ (drawLineChange l s).cpn.reply = s.cpn.reply
    ∧ (drawLineChange l s).cpn.events = s.cpn.events ∧ (drawLineChange l s).cpn.ring = s.cpn.ring
    ∧ (drawLineChange l s).cpn.straps = s.cpn.straps
    ∧ (drawLineChange l s).cpn.strapDone = s.cpn.strapDone
    ∧ (drawLineChange l s).cpn.strapSampler = s.cpn.strapSampler := by
  unfold drawLineChange
  repeat' split
  all_goals simp

@[simp] theorem startLineChange_keeps (l : LineState) (s : State) :
    (startLineChange l s).now = s.now ∧ (startLineChange l s).micros = s.micros
    ∧ (startLineChange l s).joinedAt = s.joinedAt ∧ (startLineChange l s).rstLow = s.rstLow
    ∧ (startLineChange l s).pst = s.pst ∧ (startLineChange l s).pending = s.pending
    ∧ (startLineChange l s).rsq.levelHold = s.rsq.levelHold
    ∧ (startLineChange l s).rsq.speed = s.rsq.speed ∧ (startLineChange l s).rsq.stack = s.rsq.stack
    ∧ (startLineChange l s).rsq.handbackAt = s.rsq.handbackAt
    ∧ (startLineChange l s).rsq.tickPhase = s.rsq.tickPhase
    ∧ (startLineChange l s).rsq.tickTaken = s.rsq.tickTaken
    ∧ (startLineChange l s).dbu.limit = s.dbu.limit ∧ (startLineChange l s).dbu.epoch = s.dbu.epoch
    ∧ (startLineChange l s).dbu.phase = s.dbu.phase
    ∧ (startLineChange l s).dbu.learned = s.dbu.learned
    ∧ (startLineChange l s).dbu.mismatch = s.dbu.mismatch
    ∧ (startLineChange l s).dbu.lastSettled = s.dbu.lastSettled
    ∧ (startLineChange l s).ssu.lastSettled = s.ssu.lastSettled
    ∧ (startLineChange l s).ssu.clearPending = s.ssu.clearPending
    ∧ (startLineChange l s).pvu.peers = s.pvu.peers ∧ (startLineChange l s).lnc.line = s.lnc.line
    ∧ (startLineChange l s).lnc.tx = s.lnc.tx ∧ (startLineChange l s).lnc.beaconAt = s.lnc.beaconAt
    ∧ (startLineChange l s).lnc.listenAt = s.lnc.listenAt
    ∧ (startLineChange l s).lnc.silenceAt = s.lnc.silenceAt
    ∧ (startLineChange l s).lnc.sequence = s.lnc.sequence
    ∧ (startLineChange l s).lnc.deafCount = s.lnc.deafCount
    ∧ (startLineChange l s).lnc.quiet = s.lnc.quiet
    ∧ (startLineChange l s).lnc.charLeft = s.lnc.charLeft
    ∧ (startLineChange l s).lnc.synced = s.lnc.synced ∧ (startLineChange l s).spu = s.spu
    ∧ (startLineChange l s).cpn.spi = s.cpn.spi ∧ (startLineChange l s).cpn.reply = s.cpn.reply
    ∧ (startLineChange l s).cpn.ring = s.cpn.ring ∧ (startLineChange l s).cpn.straps = s.cpn.straps
    ∧ (startLineChange l s).cpn.strapDone = s.cpn.strapDone
    ∧ (startLineChange l s).cpn.strapSampler = s.cpn.strapSampler := by
  unfold startLineChange
  repeat' split
  all_goals simp

@[simp] theorem lineBeacon_keeps (l : LineState) (s : State) :
    (lineBeacon l s).now = s.now ∧ (lineBeacon l s).micros = s.micros
    ∧ (lineBeacon l s).joinedAt = s.joinedAt ∧ (lineBeacon l s).rstLow = s.rstLow
    ∧ (lineBeacon l s).pst = s.pst ∧ (lineBeacon l s).pending = s.pending
    ∧ (lineBeacon l s).rsq = s.rsq ∧ (lineBeacon l s).dbu = s.dbu ∧ (lineBeacon l s).ssu = s.ssu
    ∧ (lineBeacon l s).pvu = s.pvu ∧ (lineBeacon l s).lnc.line = s.lnc.line
    ∧ (lineBeacon l s).lnc.queue = s.lnc.queue ∧ (lineBeacon l s).lnc.tx = s.lnc.tx
    ∧ (lineBeacon l s).lnc.listenAt = s.lnc.listenAt
    ∧ (lineBeacon l s).lnc.silenceAt = s.lnc.silenceAt
    ∧ (lineBeacon l s).lnc.sequence = s.lnc.sequence
    ∧ (lineBeacon l s).lnc.deafCount = s.lnc.deafCount ∧ (lineBeacon l s).lnc.quiet = s.lnc.quiet
    ∧ (lineBeacon l s).lnc.charLeft = s.lnc.charLeft ∧ (lineBeacon l s).lnc.synced = s.lnc.synced
    ∧ (lineBeacon l s).spu = s.spu ∧ (lineBeacon l s).cpn = s.cpn := by
  unfold lineBeacon
  repeat' split
  all_goals simp

@[simp] theorem changeLine_keeps (l : LineState) (s : State) :
    (changeLine l s).now = s.now ∧ (changeLine l s).micros = s.micros
    ∧ (changeLine l s).joinedAt = s.joinedAt ∧ (changeLine l s).rstLow = s.rstLow
    ∧ (changeLine l s).pst = s.pst ∧ (changeLine l s).pending = s.pending
    ∧ (changeLine l s).rsq.levelHold = s.rsq.levelHold ∧ (changeLine l s).rsq.speed = s.rsq.speed
    ∧ (changeLine l s).rsq.stack = s.rsq.stack ∧ (changeLine l s).rsq.handbackAt = s.rsq.handbackAt
    ∧ (changeLine l s).rsq.tickPhase = s.rsq.tickPhase
    ∧ (changeLine l s).rsq.tickTaken = s.rsq.tickTaken ∧ (changeLine l s).dbu.limit = s.dbu.limit
    ∧ (changeLine l s).dbu.epoch = s.dbu.epoch ∧ (changeLine l s).dbu.phase = s.dbu.phase
    ∧ (changeLine l s).dbu.learned = s.dbu.learned ∧ (changeLine l s).dbu.mismatch = s.dbu.mismatch
    ∧ (changeLine l s).dbu.lastSettled = s.dbu.lastSettled
    ∧ (changeLine l s).ssu.lastSettled = s.ssu.lastSettled
    ∧ (changeLine l s).ssu.clearPending = s.ssu.clearPending
    ∧ (changeLine l s).pvu.peers = s.pvu.peers ∧ (changeLine l s).lnc.tx = s.lnc.tx
    ∧ (changeLine l s).lnc.listenAt = s.lnc.listenAt
    ∧ (changeLine l s).lnc.silenceAt = s.lnc.silenceAt
    ∧ (changeLine l s).lnc.sequence = s.lnc.sequence
    ∧ (changeLine l s).lnc.deafCount = s.lnc.deafCount ∧ (changeLine l s).lnc.quiet = s.lnc.quiet
    ∧ (changeLine l s).lnc.charLeft = s.lnc.charLeft ∧ (changeLine l s).lnc.synced = s.lnc.synced
    ∧ (changeLine l s).spu = s.spu ∧ (changeLine l s).cpn.spi = s.cpn.spi
    ∧ (changeLine l s).cpn.reply = s.cpn.reply ∧ (changeLine l s).cpn.ring = s.cpn.ring
    ∧ (changeLine l s).cpn.straps = s.cpn.straps ∧ (changeLine l s).cpn.strapDone = s.cpn.strapDone
    ∧ (changeLine l s).cpn.strapSampler = s.cpn.strapSampler := by
  unfold changeLine
  simp

@[simp] theorem goDeaf_keeps (d : Nat) (s : State) :
    (goDeaf d s).now = s.now ∧ (goDeaf d s).micros = s.micros ∧ (goDeaf d s).joinedAt = s.joinedAt
    ∧ (goDeaf d s).rstLow = s.rstLow ∧ (goDeaf d s).pst = s.pst ∧ (goDeaf d s).pending = s.pending
    ∧ (goDeaf d s).rsq.levelHold = s.rsq.levelHold ∧ (goDeaf d s).rsq.speed = s.rsq.speed
    ∧ (goDeaf d s).rsq.stack = s.rsq.stack ∧ (goDeaf d s).rsq.handbackAt = s.rsq.handbackAt
    ∧ (goDeaf d s).rsq.tickPhase = s.rsq.tickPhase ∧ (goDeaf d s).rsq.tickTaken = s.rsq.tickTaken
    ∧ (goDeaf d s).dbu.limit = s.dbu.limit ∧ (goDeaf d s).dbu.epoch = s.dbu.epoch
    ∧ (goDeaf d s).dbu.phase = s.dbu.phase ∧ (goDeaf d s).dbu.learned = s.dbu.learned
    ∧ (goDeaf d s).dbu.mismatch = s.dbu.mismatch ∧ (goDeaf d s).dbu.lastSettled = s.dbu.lastSettled
    ∧ (goDeaf d s).ssu.lastSettled = s.ssu.lastSettled
    ∧ (goDeaf d s).ssu.clearPending = s.ssu.clearPending ∧ (goDeaf d s).pvu.peers = s.pvu.peers
    ∧ (goDeaf d s).lnc.tx = s.lnc.tx ∧ (goDeaf d s).lnc.listenAt = s.lnc.listenAt
    ∧ (goDeaf d s).lnc.silenceAt = s.lnc.silenceAt ∧ (goDeaf d s).lnc.sequence = s.lnc.sequence
    ∧ (goDeaf d s).lnc.deafCount = s.lnc.deafCount ∧ (goDeaf d s).lnc.quiet = s.lnc.quiet
    ∧ (goDeaf d s).lnc.charLeft = s.lnc.charLeft ∧ (goDeaf d s).lnc.synced = s.lnc.synced
    ∧ (goDeaf d s).spu = s.spu ∧ (goDeaf d s).cpn.spi = s.cpn.spi
    ∧ (goDeaf d s).cpn.reply = s.cpn.reply ∧ (goDeaf d s).cpn.ring = s.cpn.ring
    ∧ (goDeaf d s).cpn.straps = s.cpn.straps ∧ (goDeaf d s).cpn.strapDone = s.cpn.strapDone
    ∧ (goDeaf d s).cpn.strapSampler = s.cpn.strapSampler := by
  unfold goDeaf
  simp

@[simp] theorem answer_keeps (c : Byte) (st : Status) (d : List Byte) (s : State) :
    (answer c st d s).now = s.now ∧ (answer c st d s).micros = s.micros
    ∧ (answer c st d s).joinedAt = s.joinedAt ∧ (answer c st d s).rstLow = s.rstLow
    ∧ (answer c st d s).pst = s.pst ∧ (answer c st d s).pending = s.pending
    ∧ (answer c st d s).rsq = s.rsq ∧ (answer c st d s).dbu = s.dbu ∧ (answer c st d s).ssu = s.ssu
    ∧ (answer c st d s).pvu = s.pvu ∧ (answer c st d s).lnc = s.lnc ∧ (answer c st d s).spu = s.spu
    ∧ (answer c st d s).cpn.events = s.cpn.events ∧ (answer c st d s).cpn.fault = s.cpn.fault
    ∧ (answer c st d s).cpn.ring = s.cpn.ring ∧ (answer c st d s).cpn.straps = s.cpn.straps
    ∧ (answer c st d s).cpn.strapDone = s.cpn.strapDone
    ∧ (answer c st d s).cpn.strapSampler = s.cpn.strapSampler := by
  unfold answer
  simp

end Sys2Proof.Machine
end

