-- ==== Sys2Proof/Laws/State.lean ====
section
/-! SUPPORT. The small lemmas of the named updates of State's parts, one for each field an update sets or
keeps, so that no later proof unfolds a record update. -/

namespace Sys2Proof.Machine

/-! ### Values by cause and by input -/

@[simp] theorem PerCause.get_set_same {α : Type} (p : PerCause α) (c : Cause) (v : α) :
    (p.set c v).get c = v := by cases c <;> rfl

@[simp] theorem PerCause.get_set_ne {α : Type} (p : PerCause α) {c d : Cause} (v : α) (h : d ≠ c) :
    (p.set c v).get d = p.get d := by
  cases c <;> cases d <;> first | rfl | exact absurd rfl h

theorem PerCause.get_ext {α : Type} {p q : PerCause α} (h : ∀ c, p.get c = q.get c) : p = q := by
  have hd := h .dip
  have ht := h .tundish
  have hb := h .breakout
  have hh := h .hold
  cases p
  cases q
  simp_all [PerCause.get]

@[simp] theorem PendingSet.empty_get (c : Cause) : PendingSet.empty.get c = none := by cases c <;> rfl

@[simp] theorem inputGet_inputSet_same {α : Type} (p : PerInput α) (i : Input) (v : α) :
    inputGet (inputSet p i v) i = v := by cases i <;> rfl

@[simp] theorem inputGet_inputSet_ne {α : Type} (p : PerInput α) {i j : Input} (v : α) (h : j ≠ i) :
    inputGet (inputSet p i v) j = inputGet p j := by
  cases i <;> cases j <;> first | rfl | exact absurd rfl h

/-! ### The sequencer without authority (R3) -/

@[simp] theorem Rsq.withoutAuthority_state (r : Rsq) (q : SeqState) :
    (r.withoutAuthority q).state = q := rfl
@[simp] theorem Rsq.withoutAuthority_pendingSet (r : Rsq) (q : SeqState) :
    (r.withoutAuthority q).pendingSet = PendingSet.empty := rfl
@[simp] theorem Rsq.withoutAuthority_currentCause (r : Rsq) (q : SeqState) :
    (r.withoutAuthority q).currentCause = none := rfl
@[simp] theorem Rsq.withoutAuthority_step (r : Rsq) (q : SeqState) :
    (r.withoutAuthority q).step = 0 := rfl
@[simp] theorem Rsq.withoutAuthority_dwell (r : Rsq) (q : SeqState) :
    (r.withoutAuthority q).dwell = 0 := rfl
@[simp] theorem Rsq.withoutAuthority_levelHold (r : Rsq) (q : SeqState) :
    (r.withoutAuthority q).levelHold = false := rfl
@[simp] theorem Rsq.withoutAuthority_speed (r : Rsq) (q : SeqState) :
    (r.withoutAuthority q).speed = 0 := rfl
@[simp] theorem Rsq.withoutAuthority_stack (r : Rsq) (q : SeqState) :
    (r.withoutAuthority q).stack = [] := rfl
@[simp] theorem Rsq.withoutAuthority_carried (r : Rsq) (q : SeqState) :
    (r.withoutAuthority q).carried = none := rfl
@[simp] theorem Rsq.withoutAuthority_counters (r : Rsq) (q : SeqState) :
    (r.withoutAuthority q).counters = Counters.start := rfl
@[simp] theorem Rsq.withoutAuthority_handbackAt (r : Rsq) (q : SeqState) :
    (r.withoutAuthority q).handbackAt = none := rfl
@[simp] theorem Rsq.withoutAuthority_runReq (r : Rsq) (q : SeqState) :
    (r.withoutAuthority q).runReq = false := rfl
@[simp] theorem Rsq.withoutAuthority_urgency (r : Rsq) (q : SeqState) :
    (r.withoutAuthority q).urgency = r.urgency := rfl
@[simp] theorem Rsq.withoutAuthority_tickPhase (r : Rsq) (q : SeqState) :
    (r.withoutAuthority q).tickPhase = r.tickPhase := rfl
@[simp] theorem Rsq.withoutAuthority_tickTaken (r : Rsq) (q : SeqState) :
    (r.withoutAuthority q).tickTaken = r.tickTaken := rfl

/-! ### Entry to RAMPING (R18) -/

@[simp] theorem Rsq.rampingFrom_state (r : Rsq) (m : Moment) (b d : Nat) :
    (r.rampingFrom m b d).state = .ramping := rfl
@[simp] theorem Rsq.rampingFrom_pendingSet (r : Rsq) (m : Moment) (b d : Nat) :
    (r.rampingFrom m b d).pendingSet = PendingSet.empty := rfl
@[simp] theorem Rsq.rampingFrom_currentCause (r : Rsq) (m : Moment) (b d : Nat) :
    (r.rampingFrom m b d).currentCause = r.pendingSet.profile := rfl
@[simp] theorem Rsq.rampingFrom_carried (r : Rsq) (m : Moment) (b d : Nat) :
    (r.rampingFrom m b d).carried = earliestDeadline m ((pendingDeadlines r.pendingSet).map (·.2)) := rfl
@[simp] theorem Rsq.rampingFrom_baseUrgency (r : Rsq) (m : Moment) (b d : Nat) :
    (r.rampingFrom m b d).baseUrgency = b := rfl
@[simp] theorem Rsq.rampingFrom_urgencyBase (r : Rsq) (m : Moment) (b d : Nat) :
    (r.rampingFrom m b d).urgencyBase = b := rfl
@[simp] theorem Rsq.rampingFrom_step (r : Rsq) (m : Moment) (b d : Nat) :
    (r.rampingFrom m b d).step = 0 := rfl
@[simp] theorem Rsq.rampingFrom_dwell (r : Rsq) (m : Moment) (b d : Nat) :
    (r.rampingFrom m b d).dwell = d := rfl
@[simp] theorem Rsq.rampingFrom_levelHoldTime (r : Rsq) (m : Moment) (b d : Nat) :
    (r.rampingFrom m b d).levelHoldTime = 0 := rfl
@[simp] theorem Rsq.rampingFrom_levelHold (r : Rsq) (m : Moment) (b d : Nat) :
    (r.rampingFrom m b d).levelHold = r.levelHold := rfl
@[simp] theorem Rsq.rampingFrom_speed (r : Rsq) (m : Moment) (b d : Nat) :
    (r.rampingFrom m b d).speed = r.speed := rfl
@[simp] theorem Rsq.rampingFrom_stack (r : Rsq) (m : Moment) (b d : Nat) :
    (r.rampingFrom m b d).stack = r.stack := rfl
@[simp] theorem Rsq.rampingFrom_runReq (r : Rsq) (m : Moment) (b d : Nat) :
    (r.rampingFrom m b d).runReq = r.runReq := rfl
@[simp] theorem Rsq.rampingFrom_urgency (r : Rsq) (m : Moment) (b d : Nat) :
    (r.rampingFrom m b d).urgency = r.urgency := rfl
@[simp] theorem Rsq.rampingFrom_handbackAt (r : Rsq) (m : Moment) (b d : Nat) :
    (r.rampingFrom m b d).handbackAt = r.handbackAt := rfl
@[simp] theorem Rsq.rampingFrom_tickPhase (r : Rsq) (m : Moment) (b d : Nat) :
    (r.rampingFrom m b d).tickPhase = r.tickPhase := rfl
@[simp] theorem Rsq.rampingFrom_tickTaken (r : Rsq) (m : Moment) (b d : Nat) :
    (r.rampingFrom m b d).tickTaken = r.tickTaken := rfl

/-! ### Contexts and counters (R66, R67) -/

@[simp] theorem Rsq.context_cause (r : Rsq) : r.context.cause = r.currentCause := rfl
@[simp] theorem Rsq.context_step (r : Rsq) : r.context.step = r.step := rfl
@[simp] theorem Rsq.context_resumeSpeed (r : Rsq) : r.context.resumeSpeed = r.speed := rfl
@[simp] theorem Rsq.context_dwell (r : Rsq) : r.context.dwell = r.dwell := rfl
@[simp] theorem Rsq.context_levelHoldTime (r : Rsq) : r.context.levelHoldTime = r.levelHoldTime := rfl
@[simp] theorem Rsq.context_unmetDeadline (r : Rsq) : r.context.unmetDeadline = r.carried := rfl
@[simp] theorem Rsq.context_baseUrgency (r : Rsq) : r.context.baseUrgency = r.baseUrgency := rfl
@[simp] theorem Rsq.context_counters (r : Rsq) : r.context.counters = r.counters := rfl
@[simp] theorem Counters.interrupted_timesInterrupted (c : Counters) :
    c.interrupted.timesInterrupted = sat255 (c.timesInterrupted + 1) := rfl
@[simp] theorem Counters.interrupted_creepMoment (c : Counters) :
    c.interrupted.creepMoment = c.creepMoment := rfl

/-! ### Event notices and the fault record (R181, R182) -/

/-- A raised notice is present, and the others are as they were. -/
theorem EventNotices.raise_cases (e : EventNotices) (n : EventNotice) :
    ((e.raise n).stopTaken = (e.stopTaken || decide (n = .stopTaken)))
    ∧ ((e.raise n).rampStarted = (e.rampStarted || decide (n = .rampStarted)))
    ∧ ((e.raise n).reportReady = (e.reportReady || decide (n = .reportReady)))
    ∧ ((e.raise n).limitChanged = (e.limitChanged || decide (n = .limitChanged)))
    ∧ ((e.raise n).lineChanged = (e.lineChanged || decide (n = .lineChanged))) := by
  cases n <;> simp [EventNotices.raise]

@[simp] theorem FaultRecord.capture_locked (r : FaultRecord) (k : FaultKind) (d : Nat) (q : SeqState)
    (c : Option Cause) (n m : Nat) : (r.capture k d q c n m).locked = true := by
  unfold FaultRecord.capture
  split <;> simp_all

theorem FaultRecord.capture_of_locked {r : FaultRecord} (h : r.locked = true) (k : FaultKind) (d : Nat)
    (q : SeqState) (c : Option Cause) (n m : Nat) :
    r.capture k d q c n m = { r with multiple := true, later := min 255 (r.later + 1) } := by
  simp [FaultRecord.capture, h]

theorem FaultRecord.capture_of_unlocked {r : FaultRecord} (h : r.locked = false) (k : FaultKind)
    (d : Nat) (q : SeqState) (c : Option Cause) (n m : Nat) :
    r.capture k d q c n m = { locked := true, kind := some k, state := q, cause := c, step := n,
                              time := m, detail := d, multiple := false, later := 0 } := by
  simp [FaultRecord.capture, h]

/-! ### Filters and held samples (R157, R161) -/

@[simp] theorem FilterState.sample_raw (f : FilterState) (n : Nat) (raw : Bool) :
    (f.sample n raw).raw = raw := by
  unfold FilterState.sample
  repeat' split
  all_goals rfl

/-- The three cases of R157. -/
theorem FilterState.sample_cases (f : FilterState) (n : Nat) (raw : Bool) :
    (raw = f.filtered ∧ f.sample n raw = { f with raw := raw, count := 0 })
    ∨ (raw ≠ f.filtered ∧ f.count < n ∧ f.sample n raw = { f with raw := raw, count := f.count + 1 })
    ∨ (raw ≠ f.filtered ∧ n ≤ f.count
      ∧ f.sample n raw = { raw := raw, filtered := raw, count := 0 }) := by
  unfold FilterState.sample
  split
  · next h => exact .inl ⟨h, rfl⟩
  · next h =>
    split
    · next hc => exact .inr (.inl ⟨h, hc, rfl⟩)
    · next hc => exact .inr (.inr ⟨h, Nat.le_of_not_lt hc, rfl⟩)

@[simp] theorem Spu.hold_inputs (p : Spu) (now : Moment) (f l : Nat) : (p.hold now f l).inputs = p.inputs := rfl
@[simp] theorem Spu.hold_feedback (p : Spu) (now : Moment) (f l : Nat) :
    (p.hold now f l).feedback = { value := min f Config.maxSpeed, takenAt := some now, fresh := true } := rfl
@[simp] theorem Spu.hold_level (p : Spu) (now : Moment) (f l : Nat) :
    (p.hold now f l).level = { value := min l Config.gaugeFault, takenAt := some now, fresh := true } := rfl
@[simp] theorem Spu.hold_refSequence (p : Spu) (now : Moment) (f l : Nat) :
    (p.hold now f l).refSequence = p.refSequence := rfl

/-! ### Release latches (R27) -/

@[simp] theorem PendingRecord.latched_stopTime (r : PendingRecord) : r.latched.stopTime = r.stopTime := rfl
@[simp] theorem PendingRecord.latched_deadline (r : PendingRecord) : r.latched.deadline = r.deadline := rfl
@[simp] theorem PendingRecord.latched_epoch (r : PendingRecord) : r.latched.epoch = r.epoch := rfl
@[simp] theorem PendingRecord.latched_latch (r : PendingRecord) : r.latched.latch = some true := rfl
@[simp] theorem latchAll_dip (p : PendingSet) : (latchAll p).dip = p.dip := rfl
@[simp] theorem latchAll_tundish (p : PendingSet) : (latchAll p).tundish = p.tundish := rfl

/-! ### Moments (R30) -/

@[simp] theorem ageAt_self (t : Moment) : ageAt t t = 0 := by simp [ageAt]

@[simp] theorem timeLeft_self (t : Moment) : timeLeft t t = 0 := by simp [timeLeft, ahead]

theorem reached_iff (now t : Moment) : reached now t = true ↔ timeLeft now t = 0 := by simp [reached]

/-- As 1 ms passes, a moment still ahead comes 1 ms nearer. -/
theorem timeLeft_later_one {now t : Moment} (h : timeLeft now t ≠ 0) :
    timeLeft (later now 1) t = timeLeft now t - 1 := by
  have e : (t - later now 1) = (t - now) - 1 := by
    unfold later
    bv_omega
  unfold timeLeft ahead at *
  rw [e]
  generalize t - now = d at *
  have h1 : (d - 1).toNat = (d.toNat + (2 ^ 32 - 1)) % 2 ^ 32 := by
    simp only [BitVec.toNat_sub]
    rw [Nat.add_comm]
    rfl
  simp only [BitVec.toInt_eq_toNat_cond, h1] at *
  have hd := d.isLt
  split at h <;> split <;> omega

/-! ### The line by bit times (R137, R138, R140) -/

@[simp] theorem Lnc.atFrameEnd_quiet (l : Lnc) : l.atFrameEnd.quiet = some 10 := rfl
@[simp] theorem Lnc.atFrameEnd_charLeft (l : Lnc) : l.atFrameEnd.charLeft = 0 := rfl
@[simp] theorem Lnc.atFrameEnd_synced (l : Lnc) : l.atFrameEnd.synced = true := rfl
@[simp] theorem Lnc.atFrameEnd_line (l : Lnc) : l.atFrameEnd.line = l.line := rfl
@[simp] theorem Lnc.atFrameEnd_queue (l : Lnc) : l.atFrameEnd.queue = l.queue := rfl
@[simp] theorem Lnc.atFrameEnd_beacon (l : Lnc) : l.atFrameEnd.beacon = l.beacon := rfl
@[simp] theorem Lnc.atFrameEnd_tx (l : Lnc) : l.atFrameEnd.tx = l.tx := rfl
@[simp] theorem Lnc.atFrameEnd_deafCount (l : Lnc) : l.atFrameEnd.deafCount = l.deafCount := rfl

/-- Reading a level touches the quiet time, the character and the search for quiet alone. -/
theorem Lnc.readBit_does (l : Lnc) (recessive : Bool) :
    l.readBit recessive = { l with
      quiet := (l.readBit recessive).quiet, charLeft := (l.readBit recessive).charLeft
      synced := (l.readBit recessive).synced } := by
  unfold Lnc.readBit
  repeat' split
  all_goals rfl

@[simp] theorem Lnc.readBit_keeps (l : Lnc) (recessive : Bool) :
    (l.readBit recessive).line = l.line ∧ (l.readBit recessive).queue = l.queue
    ∧ (l.readBit recessive).beacon = l.beacon ∧ (l.readBit recessive).tx = l.tx
    ∧ (l.readBit recessive).beaconAt = l.beaconAt ∧ (l.readBit recessive).listenAt = l.listenAt
    ∧ (l.readBit recessive).silenceAt = l.silenceAt ∧ (l.readBit recessive).sequence = l.sequence
    ∧ (l.readBit recessive).deafCount = l.deafCount := by
  rw [Lnc.readBit_does]
  simp

/-- A run of levels touches no more than one level does. -/
@[simp] theorem Lnc.readBits_keeps (l : Lnc) (levels : List Bool) :
    (levels.foldl Lnc.readBit l).line = l.line ∧ (levels.foldl Lnc.readBit l).queue = l.queue
    ∧ (levels.foldl Lnc.readBit l).beacon = l.beacon ∧ (levels.foldl Lnc.readBit l).tx = l.tx
    ∧ (levels.foldl Lnc.readBit l).beaconAt = l.beaconAt
    ∧ (levels.foldl Lnc.readBit l).listenAt = l.listenAt
    ∧ (levels.foldl Lnc.readBit l).silenceAt = l.silenceAt
    ∧ (levels.foldl Lnc.readBit l).sequence = l.sequence
    ∧ (levels.foldl Lnc.readBit l).deafCount = l.deafCount := by
  induction levels generalizing l with
  | nil => simp
  | cons level rest ih => simpa using ih (l.readBit level)

/-! ### The passing of a ms (R30, R52, R157) -/

@[simp] theorem nextMs_now (s : State) : (nextMs s).now = later s.now 1 := rfl
@[simp] theorem nextMs_micros (s : State) : (nextMs s).micros = 0 := rfl
@[simp] theorem nextMs_tickTaken (s : State) : (nextMs s).rsq.tickTaken = false := rfl
@[simp] theorem nextMs_sampled (s : State) : (nextMs s).spu.sampled = false := rfl
@[simp] theorem nextMs_strapTaken (s : State) : (nextMs s).cpn.strapSampler.taken = false := rfl
@[simp] theorem nextMs_state (s : State) : (nextMs s).rsq.state = s.rsq.state := rfl
@[simp] theorem nextMs_urgency (s : State) : (nextMs s).rsq.urgency = s.rsq.urgency := rfl
@[simp] theorem nextMs_inputs (s : State) : (nextMs s).spu.inputs = s.spu.inputs := rfl
@[simp] theorem nextMs_keeps (s : State) :
    (nextMs s).rstLow = s.rstLow ∧ (nextMs s).joinedAt = s.joinedAt ∧ (nextMs s).pst = s.pst
    ∧ (nextMs s).dbu = s.dbu ∧ (nextMs s).ssu = s.ssu ∧ (nextMs s).pvu = s.pvu
    ∧ (nextMs s).lnc = s.lnc ∧ (nextMs s).cpn.spi = s.cpn.spi ∧ (nextMs s).cpn.reply = s.cpn.reply
    ∧ (nextMs s).cpn.events = s.cpn.events ∧ (nextMs s).cpn.fault = s.cpn.fault
    ∧ (nextMs s).cpn.ring = s.cpn.ring ∧ (nextMs s).cpn.straps = s.cpn.straps
    ∧ (nextMs s).cpn.strapDone = s.cpn.strapDone ∧ (nextMs s).pending = s.pending := by
  simp [nextMs]

/-! ### The sample receiver after a reset (R156) -/

@[simp] theorem Spu.srxIdle_inputs (n : Nat) (p : Spu) : (p.srxIdle n).inputs = p.inputs := rfl
@[simp] theorem Spu.srxIdle_sampled (n : Nat) (p : Spu) : (p.srxIdle n).sampled = p.sampled := rfl
@[simp] theorem Spu.srxIdle_feedback (n : Nat) (p : Spu) : (p.srxIdle n).feedback = p.feedback := rfl
@[simp] theorem Spu.srxIdle_level (n : Nat) (p : Spu) : (p.srxIdle n).level = p.level := rfl
@[simp] theorem Spu.srxIdle_refTx (n : Nat) (p : Spu) : (p.srxIdle n).refTx = p.refTx := rfl
@[simp] theorem Spu.srxIdle_refWaiting (n : Nat) (p : Spu) :
    (p.srxIdle n).refWaiting = p.refWaiting := rfl

/-- A receiver that has found its idle stays so (R156). -/
@[simp] theorem Spu.srxIdle_found (n : Nat) {p : Spu} (h : p.search = none) : p.srxIdle n = p := by
  obtain ⟨⟩ := p
  cases h
  rfl

@[simp] theorem State.recordLost_found (n : Nat) {s : State} (h : s.spu.search = none) :
    s.recordLost n = false := by simp [State.recordLost, h]

/-! ### RST_N and the strap pins (R178, R179) -/

@[simp] theorem rstFall_rstLow (s : State) : (rstFall s).rstLow = true := rfl
@[simp] theorem rstFall_pending (s : State) : (rstFall s).pending = s.pending := rfl
@[simp] theorem rstFall_csLow (s : State) : (rstFall s).cpn.spi.csLow = s.cpn.spi.csLow := rfl
@[simp] theorem rstFall_strapPins (s : State) :
    (rstFall s).cpn.strapSampler.pins = s.cpn.strapSampler.pins := rfl
@[simp] theorem rstRise_rstLow (raw : InputLevels) (s : State) : (rstRise raw s).rstLow = false := rfl
@[simp] theorem rstRise_spu (raw : InputLevels) (s : State) :
    (rstRise raw s).spu = Spu.reset raw := rfl
@[simp] theorem rstRise_spi (raw : InputLevels) (s : State) :
    (rstRise raw s).cpn.spi = s.cpn.spi.atRelease := rfl
@[simp] theorem rstRise_strapSampler (raw : InputLevels) (s : State) :
    (rstRise raw s).cpn.strapSampler = s.cpn.strapSampler := rfl
@[simp] theorem strapsShow_pins (pins : StrapPins) (s : State) :
    (strapsShow pins s).cpn.strapSampler.pins = pins := rfl
@[simp] theorem strapsShow_last (pins : StrapPins) (s : State) :
    (strapsShow pins s).cpn.strapSampler.last = s.cpn.strapSampler.last := rfl
@[simp] theorem strapsShow_straps (pins : StrapPins) (s : State) :
    (strapsShow pins s).cpn.straps = s.cpn.straps := rfl

/-! ### The SPI side of the command port (R168) -/

@[simp] theorem csFall_pending (s : State) : (csFall s).pending = s.pending := by
  unfold csFall
  split <;> rfl
@[simp] theorem csFall_csLow (s : State) : (csFall s).cpn.spi.csLow = true := by
  unfold csFall
  split
  · assumption
  · rfl
@[simp] theorem sclkRise_pending (b : Bool) (s : State) : (sclkRise b s).pending = s.pending := by
  unfold sclkRise
  split <;> rfl
@[simp] theorem sclkRise_reply (b : Bool) (s : State) : (sclkRise b s).cpn.reply = s.cpn.reply := by
  unfold sclkRise
  split <;> rfl
@[simp] theorem sclkFall_pending (s : State) : (sclkFall s).pending = s.pending := by
  unfold sclkFall
  split <;> rfl
@[simp] theorem sclkFall_reply (s : State) : (sclkFall s).cpn.reply = s.cpn.reply := by
  unfold sclkFall
  split <;> rfl
@[simp] theorem csFall_rstLow (s : State) : (csFall s).rstLow = s.rstLow := by
  unfold csFall
  split <;> rfl
@[simp] theorem sclkRise_rstLow (b : Bool) (s : State) : (sclkRise b s).rstLow = s.rstLow := by
  unfold sclkRise
  split <;> rfl
@[simp] theorem sclkFall_rstLow (s : State) : (sclkFall s).rstLow = s.rstLow := by
  unfold sclkFall
  split <;> rfl

/-- With RST_N low no frame is queued as CS_N rises (R168). -/
theorem csRise_inert (raw : InputLevels) {s : State} (h : s.rstLow = true) :
    (csRise raw s).pending = s.pending := by simp [csRise, h]

/-- With RST_N low SDO is high impedance (R168). -/
theorem State.sdo_inert {s : State} (h : s.rstLow = true) : s.sdo = none := by simp [State.sdo, h]

@[simp] theorem csRise_csLow (raw : InputLevels) (s : State) : (csRise raw s).cpn.spi.csLow = false := by
  unfold csRise
  dsimp only
  split <;> rfl

end Sys2Proof.Machine
end

