-- ==== Sys2Proof/Laws/Effects.lean ====
section
/-! SUPPORT. What each shared operation does: the values of the fields it sets, said once (`…_does` and
`…_<field>`). Beside the lemmas of Laws/Keeps.lean a proof about a meaning cites these. -/

namespace Sys2Proof.Machine

/-! ### Outcomes -/

theorem occur_next (f : State → State) (s : State) : occur f s = .next (stampFault s (f s)) := rfl

/-- With RST_N high a row has its effect (R179). -/
@[simp] theorem released_high {s : State} (o : Host.Outcome State Fault Refusal) (h : s.rstLow = false) :
    released s o = o := by simp [released, h]

/-- With RST_N low no row but PIN_RESET changes anything (R179). -/
@[simp] theorem released_low {s : State} (o : Host.Outcome State Fault Refusal) (h : s.rstLow = true) :
    released s o = .next s := by simp [released, h]

@[simp] theorem whenever_true (f : State → State) (s : State) : whenever true f s = f s := rfl

@[simp] theorem whenever_false (f : State → State) (s : State) : whenever false f s = s := rfl

/-- An occurrence that captures nothing new is its effect. -/
theorem stampFault_of_locked_eq {before after : State}
    (h : after.cpn.fault.locked = before.cpn.fault.locked) : stampFault before after = after := by
  unfold stampFault
  rw [h]
  cases before.cpn.fault.locked <;> rfl

/-- Beside the fault record an occurrence is its effect. -/
theorem stampFault_does (before after : State) :
    stampFault before after
      = { after with cpn := { after.cpn with fault := (stampFault before after).cpn.fault } } := by
  unfold stampFault
  split <;> rfl

/-- The fault record after an occurrence: kind, time, detail and counts are those captured. -/
theorem stampFault_fault (before after : State) :
    (stampFault before after).cpn.fault = after.cpn.fault
    ∨ (before.cpn.fault.locked = false ∧ after.cpn.fault.locked = true
      ∧ (stampFault before after).cpn.fault = { after.cpn.fault with
          state := before.rsq.state, cause := before.restartCause, step := before.rsq.step }) := by
  unfold stampFault
  split
  · next h =>
    right
    simp only [Bool.and_eq_true, Bool.not_eq_true'] at h
    exact ⟨h.1, h.2, rfl⟩
  · exact .inl rfl

/-! ### Urgency -/

/-- The urgency called for rests on these parts of the state alone (R36). -/
theorem State.computeUrgency_congr {s t : State} (hs : t.rsq.state = s.rsq.state)
    (hp : t.rsq.pendingSet = s.rsq.pendingSet) (hk : t.rsq.stack = s.rsq.stack)
    (hc : t.rsq.carried = s.rsq.carried) (hcc : t.rsq.currentCause = s.rsq.currentCause)
    (hb : t.rsq.urgencyBase = s.rsq.urgencyBase) (hn : t.now = s.now) (hpst : t.pst = s.pst) :
    t.computeUrgency = s.computeUrgency := by
  have hd : t.deadlineInForce = s.deadlineInForce := by
    unfold State.deadlineInForce State.deadlines
    rw [hs, hp, hk, hc, hcc, hn]
  have hg : t.governingCause = s.governingCause := by
    unfold State.governingCause
    rw [hs, hp, hcc]
  have hm : t.marginInUse = s.marginInUse := by
    unfold State.marginInUse
    rw [hg, hpst]
  have hcr : t.critical = s.critical := by
    unfold State.critical
    rw [hd, hm, hn]
  have hpb : t.pendingBase = s.pendingBase := by
    unfold State.pendingBase
    rw [hp, hpst]
  unfold State.computeUrgency
  rw [hs, hcr, hpb, hb]

@[simp] theorem refreshUrgency_urgency (s : State) : (refreshUrgency s).rsq.urgency = s.computeUrgency := by
  unfold refreshUrgency
  split
  · next h => exact h.symm
  · split <;> simp

/-! ### Draw and limit -/

@[simp] theorem evalOvercommit_overcommit (s : State) :
    (evalOvercommit s).dbu.overcommit = s.overcommitted := by
  unfold evalOvercommit
  split <;> simp

@[simp] theorem setGranted_granted (g : Nat) (s : State) : (setGranted g s).dbu.granted = g := by
  simp [setGranted]

@[simp] theorem setLimit_limit (l : Nat) (s : State) : (setLimit l s).dbu.limit = l := by
  unfold setLimit
  split
  · assumption
  · simp

@[simp] theorem drawWithdraw_claim (s : State) : (drawWithdraw s).dbu.claim = .none := by
  unfold drawWithdraw
  split <;> first | assumption | rfl

/-- The number of a new claim is never the last settled one, and fits four bits (R92). -/
theorem nextNumber_fresh (n last : Nat) : nextNumber n last ≠ last ∧ nextNumber n last < 16 := by
  unfold nextNumber
  dsimp only
  split <;> omega

/-! ### The start slot -/

@[simp] theorem repeatStart_claim (s : State) : (repeatStart s).ssu.claim = .sent := rfl

@[simp] theorem setHolder_holder (v : Option Nat) (s : State) : (setHolder v s).ssu.holder = v := by
  unfold setHolder
  split
  · assumption
  · simp

@[simp] theorem withdrawStart_does (s : State) :
    (withdrawStart s).ssu.claim = .none ∧ (withdrawStart s).ssu.settleAt = none
    ∧ (withdrawStart s).ssu.clearSent = false := by
  unfold withdrawStart
  simp

@[simp] theorem endTenure_tenure (r : ReleaseReason) (s : State) : (endTenure r s).ssu.tenure = false := by
  unfold endTenure
  split
  · dsimp only
    split <;> simp
  · simp_all

/-- At the end of a tenure a view of the own station is none, and any other view stands (R114). -/
theorem endTenure_holder (r : ReleaseReason) (s : State) :
    (endTenure r s).ssu.holder
      = if s.ssu.tenure = true ∧ s.ssu.holder = some s.ownStation then none else s.ssu.holder := by
  unfold endTenure
  by_cases ht : s.ssu.tenure = true <;> by_cases hh : s.ssu.holder = some s.ownStation <;> simp [ht, hh]

/-! ### Line and transmit queue -/

theorem requestBeacon_beacon {s : State} (h : s.lnc.line.allowsBeacon = true) :
    (requestBeacon s).lnc.beacon ≠ .empty := by
  unfold requestBeacon Lnc.requestBeacon
  simp only [h, Bool.true_and]
  split
  · simp
  · next hb => simpa using hb

theorem putFrame_mem (f : QueuedFrame) (q : List QueuedFrame) : f ∈ putFrame f q := by
  unfold putFrame
  split
  · next h =>
    obtain ⟨g, hg, he⟩ := List.any_eq_true.mp h
    exact List.mem_map.mpr ⟨g, hg, by simp_all⟩
  · simp

/-- A frame placed in its slot leaves every other slot alone (R142, R143). -/
theorem putFrame_other {f g : QueuedFrame} {q : List QueuedFrame} (h : g.slot ≠ f.slot) :
    g ∈ putFrame f q ↔ g ∈ q := by
  unfold putFrame
  split
  · simp only [List.mem_map]
    constructor
    · rintro ⟨x, hx, rfl⟩
      split at h
      · exact absurd rfl h
      · next hne => simpa [hne] using hx
    · intro hg
      exact ⟨g, hg, by simp [h]⟩
  · simp only [List.mem_append, List.mem_singleton, or_iff_left_iff_imp]
    rintro rfl
    exact absurd rfl h

@[simp] theorem changeLine_line (new : LineState) (s : State) : (changeLine new s).lnc.line = new := by
  unfold changeLine
  simp

/-! ### Reports and the stack -/

@[simp] theorem writeReport_ring (r : Report) (s : State) :
    (writeReport r s).cpn.ring = pushReport s.cpn.ring r := by
  simp [writeReport]

@[simp] theorem clearStack_stack (o : ReportOutcome) (s : State) : (clearStack o s).rsq.stack = [] := rfl

/-! ### The sequencer's transitions -/

@[simp] theorem giveUpAuthority_does (q : SeqState) (s : State) :
    (giveUpAuthority q s).rsq.state = q ∧ (giveUpAuthority q s).rsq.speed = 0
    ∧ (giveUpAuthority q s).rsq.runReq = false ∧ (giveUpAuthority q s).rsq.stack = []
    ∧ (giveUpAuthority q s).rsq.pendingSet = PendingSet.empty
    ∧ (giveUpAuthority q s).rsq.currentCause = none ∧ (giveUpAuthority q s).rsq.carried = none
    ∧ (giveUpAuthority q s).rsq.handbackAt = none := by
  unfold giveUpAuthority Rsq.withoutAuthority
  simp

@[simp] theorem enterAbandoned_does (s : State) :
    (enterAbandoned s).rsq.state = .abandoned ∧ (enterAbandoned s).rsq.speed = 0
    ∧ (enterAbandoned s).rsq.runReq = false ∧ (enterAbandoned s).rsq.stack = []
    ∧ (enterAbandoned s).rsq.pendingSet = PendingSet.empty
    ∧ (enterAbandoned s).rsq.currentCause = s.restartCause
    ∧ (enterAbandoned s).rsq.carried = none ∧ (enterAbandoned s).dbu.granted = 0 := by
  unfold enterAbandoned
  simp

@[simp] theorem enterHandback_does (s : State) :
    (enterHandback s).rsq.state = .handback ∧ (enterHandback s).rsq.carried = none := by
  unfold enterHandback
  simp

/-- Stop entry sets S to the profile cause's hold speed and G to its draw (R7). -/
theorem stopEntry_does (c : Cause) (before s : State) :
    (stopEntry c before s).rsq.speed = (s.entryOf s.rsq.pendingSet.profile).holdSpeed
    ∧ (stopEntry c before s).dbu.granted
        = s.drawOf (s.entryOf s.rsq.pendingSet.profile).holdSpeed
    ∧ (stopEntry c before s).rsq.runReq = (s.rsq.runReq && decide (c ≠ .dip))
    ∧ (stopEntry c before s).rsq.state = s.rsq.state
    ∧ (stopEntry c before s).rsq.pendingSet = s.rsq.pendingSet := by
  unfold stopEntry
  simp [State.drawOf]

/-! ### Input samples and frames on the line -/

/-- The filter of an input whose change the sample accepts (R157). -/
theorem State.sampledFilter_accepts {s : State} {i : Input} {raw : Bool} (h : Accepts s i raw) :
    s.sampledFilter i raw = { raw := raw, filtered := raw, count := 0 } := by
  unfold State.sampledFilter FilterState.sample
  exact (if_neg h.1).trans (if_neg (Nat.not_lt.mpr h.2))

/-- The filter of an input whose sample accepts no change (R157). -/
theorem State.sampledFilter_counts {s : State} {i : Input} {raw : Bool} (h : ¬ Accepts s i raw) :
    s.sampledFilter i raw = { raw := raw, filtered := s.filtered i
                              count := if raw = s.filtered i then 0
                                else (inputGet s.spu.inputs i).count + 1 } := by
  unfold State.sampledFilter FilterState.sample State.filtered
  split
  · rfl
  · next hr => rw [if_pos (Nat.not_le.mp fun hc => h ⟨hr, hc⟩)]

/-- INPUT_EDGE_ACCEPTED acts exactly where its sample accepts the change (R157; entry 2). -/
theorem State.edgeReady_iff (s : State) (i : Input) (raw : Bool) :
    s.edgeReady i raw = true ↔ Accepts s i raw := by
  unfold State.edgeReady
  rw [decide_eq_true_iff]
  by_cases h : Accepts s i raw
  · rw [State.sampledFilter_accepts h]
    exact ⟨fun _ => h, fun _ => h.1⟩
  · rw [State.sampledFilter_counts h]
    exact ⟨fun hn => absurd rfl hn, fun ha => absurd ha h⟩

/-- A sample that accepts a change gives its edge, as an occurrence of its own (R157, R158). -/
theorem sampleInput_accepts {i : Input} {raw : Bool} {s : State} (h : Accepts s i raw) :
    sampleInput i raw s = stampFault s (giveEdge i raw (s.withInput i raw)) := by
  unfold sampleInput
  simp only [State.sampledFilter_accepts h, if_neg h.1]
  rfl

/-- A sample that accepts no change moves the count alone (R157). -/
theorem sampleInput_counts {i : Input} {raw : Bool} {s : State} (h : ¬ Accepts s i raw) :
    sampleInput i raw s = s.countInput i raw := by
  unfold sampleInput
  simp only [State.sampledFilter_counts h, if_true]
  rfl

/-- What a strap sample does: the sampler keeps it, and the latch takes it where it agrees with the sample
before it (R178). -/
theorem sampleStraps_does (pins : StrapPins) (s : State) :
    sampleStraps pins s = { s with cpn := { s.cpn with
      straps := if s.cpn.strapSampler.last = some pins then pins else s.cpn.straps
      strapDone := s.cpn.strapDone || decide (s.cpn.strapSampler.last = some pins)
      strapSampler := { pins := pins, last := some pins, taken := true } } } := by
  unfold sampleStraps
  by_cases h : s.cpn.strapSampler.last = some pins <;> simp [h]

/-- A record whose start the receiver had not found is lost, and its end is the idle it looked for
(R156). -/
theorem recordEnd_lost {bytes : List Byte} {ff : Bool} {s : State}
    (h : s.recordLost bytes.length = true) :
    recordEnd bytes ff s = { s with spu := { s.spu with search := none } } := by
  unfold recordEnd
  exact if_pos h

/-- A record that fails a check is discarded (R160). -/
theorem recordEnd_discarded {bytes : List Byte} {ff : Bool} {s : State} (h : readSample bytes ff = none) :
    recordEnd bytes ff s = { s with spu := { s.spu with search := none } } := by
  unfold recordEnd
  simp [h]

/-- A valid record whose start was found is held and given (R161). -/
theorem recordEnd_taken {bytes : List Byte} {ff : Bool} {f level : Nat} {s : State}
    (hl : s.recordLost bytes.length = false) (h : readSample bytes ff = some (f, level)) :
    recordEnd bytes ff s = giveFeedback { s with
      spu := Spu.hold { s.spu with search := none } s.now f level } := by
  unfold recordEnd
  simp [hl, h]

/-- A frame that ends after the receiver has seen its quiet is taken (R138). -/
theorem frameTaken_synced {f : State → State} {s : State} (h : s.lnc.synced = true) :
    frameTaken f s = f s := by simp [frameTaken, h]

/-- A frame under way at JOIN is not taken; its end is the quiet the receiver looked for (R138). -/
theorem frameTaken_searching {f : State → State} {s : State} (h : s.lnc.synced = false) :
    frameTaken f s = { s with lnc := s.lnc.atFrameEnd } := by simp [frameTaken, h]

/-! ### The end of the own claims -/

/-- What a withdrawal asked of LNC leaves of the line controller (R97, R111, R142, R143). -/
theorem queueFrame_withdraw (s : State) (k : ClaimKind) (number : Nat) :
    s.lnc.queueFrame (.withdraw k number)
      = { s.lnc with queue := s.withdrawnFrom k number s.lnc.queue } := by
  have ha : s.lnc.line.allows (.withdraw k number) = s.lnc.line.allowsBeacon := by
    cases s.lnc.line <;> rfl
  unfold Lnc.queueFrame State.withdrawnFrom Lnc.queueWithdraw
  cases hb : s.lnc.line.allowsBeacon
  · simp [ha, hb]
  · cases hq : s.lnc.queue.any (QueuedFrame.isClaim k number)
    · have hf : s.lnc.queue.filter (fun f => !f.isClaim k number) = s.lnc.queue := by
        simp only [List.filter_eq_self]
        intro f hm
        simpa using List.any_eq_false.mp hq f hm
      simp only [ha, hb, hf, hq, if_true, if_false, Bool.false_eq_true, Bool.true_eq_false, false_and]
    · cases ht : s.lnc.sendingClaim k number <;>
        simp only [ha, hb, hq, ht, if_true, if_false, Bool.false_eq_true, Bool.true_eq_false, and_self,
          and_false]

/-- What the RELEASE of a running tenure leaves of the line controller (R114, R142). -/
theorem queueFrame_release (s : State) (reason : ReleaseReason) (h : s.ssu.tenure = true) :
    s.lnc.queueFrame (.release reason)
      = { s.lnc with queue := s.releaseQueued reason s.lnc.queue } := by
  have ha : s.lnc.line.allows (.release reason) = s.lnc.line.allowsBeacon := by
    cases s.lnc.line <;> rfl
  unfold Lnc.queueFrame State.releaseQueued
  cases hb : s.lnc.line.allowsBeacon <;> simp [ha, hb, h]

/-- What ending the own DRAW claim does (R97). -/
theorem drawWithdraw_ends (s : State) :
    drawWithdraw s = { s with
      dbu := { s.dbu with
        claim := .none
        need := if s.dbu.claim = .none then s.dbu.need else none
        settleAt := if s.dbu.claim.outstanding then none else s.dbu.settleAt }
      pvu := if s.dbu.claim.outstanding then s.pvu.removeOwn .draw else s.pvu
      lnc := { s.lnc with
        queue := if s.dbu.claim.outstanding then s.withdrawnFrom .draw s.dbu.claimNumber s.lnc.queue
          else s.lnc.queue } } := by
  have hq := queueFrame_withdraw s .draw s.dbu.claimNumber
  obtain ⟨_, _, _, _, _, _, ⟨_, _, _, _, _, _, claim, _, _, _, _, _, _, _⟩, _, _, _, _, _, _⟩ := s
  cases claim <;> simp [drawWithdraw, DrawStatus.outstanding]
  all_goals exact hq

/-- What ending the own START claim does (R111). -/
theorem withdrawStart_ends (s : State) :
    withdrawStart s = { s with
      ssu := { s.ssu with claim := .none, settleAt := none, clearSent := false }
      pvu := s.pvu.removeOwn .start
      lnc := { s.lnc with
        queue := (if s.ssu.claim = .none then s.lnc.queue
          else s.withdrawnFrom .start s.ssu.claimNumber s.lnc.queue).filter
            fun f => decide (f.slot ≠ .clear) } } := by
  unfold withdrawStart Lnc.dropClear
  by_cases h : s.ssu.claim = .none <;> simp [h, queueFrame_withdraw]

/-- A frame of another slot is put in a queue after a slot has been emptied as before it. -/
theorem putFrame_filter {f : QueuedFrame} (c : Slot) (h : f.slot ≠ c) (q : List QueuedFrame) :
    (putFrame f q).filter (fun g => decide (g.slot ≠ c))
      = putFrame f (q.filter fun g => decide (g.slot ≠ c)) := by
  have hany : (q.filter fun g => decide (g.slot ≠ c)).any (fun g => decide (g.slot = f.slot))
      = q.any (fun g => decide (g.slot = f.slot)) := by
    rw [Bool.eq_iff_iff]
    simp only [List.any_eq_true, List.mem_filter, decide_eq_true_eq]
    exact ⟨fun ⟨g, ⟨hm, _⟩, hs⟩ => ⟨g, hm, hs⟩, fun ⟨g, hm, hs⟩ => ⟨g, ⟨hm, hs ▸ h⟩, hs⟩⟩
  have hmap : (q.map fun g => if g.slot = f.slot then f else g).filter (fun g => decide (g.slot ≠ c))
      = (q.filter fun g => decide (g.slot ≠ c)).map fun g => if g.slot = f.slot then f else g := by
    clear hany
    induction q with
    | nil => rfl
    | cons g q ih =>
      simp only [List.map_cons, List.filter_cons]
      by_cases hs : g.slot = f.slot
      · by_cases hc : g.slot = c
        · exact absurd (hs.symm.trans hc) h
        · simpa [hs, h] using ih
      · by_cases hc : g.slot = c
        · simpa [show c ≠ f.slot from fun e => h e.symm, hc] using ih
        · simpa only [hs, hc, if_false, ne_eq, not_false_iff, decide_true, if_true, List.map_cons,
            List.cons.injEq, true_and] using ih
  unfold putFrame
  rw [hany]
  split
  · exact hmap
  · simp [List.filter_append, h]

/-- Without an own START claim the end of a tenure sets its own fields, the holder view and the line
controller, and nothing else (R102, R114). -/
theorem endTenure_ends (reason : ReleaseReason) (s : State) (h : s.ssu.claim = .none) :
    endTenure reason s = { s with
      ssu := { s.ssu with
        tenure := false
        tenureAt := if s.ssu.tenure then none else s.ssu.tenureAt
        clearPending := s.ssu.clearPending && !s.ssu.tenure
        holder :=
          if s.ssu.tenure = true ∧ s.ssu.holder = some s.ownStation then none else s.ssu.holder
        clearSent := s.ssu.clearSent
          && !decide (s.ssu.tenure = true ∧ s.ssu.holder = some s.ownStation) }
      lnc := if s.ssu.tenure then
          { s.lnc.requestBeacon with
            queue := if s.ssu.holder = some s.ownStation then
                (s.releaseQueued reason s.lnc.queue).filter fun f => decide (f.slot ≠ .clear)
              else s.releaseQueued reason s.lnc.queue }
        else s.lnc } := by
  unfold endTenure
  cases ht : s.ssu.tenure
  · obtain ⟨_, _, _, _, _, _, _, ⟨⟩, _⟩ := s
    simp_all
  · by_cases hh : s.ssu.holder = some s.ownStation
    · simp [ht, hh, setHolder, retestStart, clearTest, h, queueFrame_release, requestBeacon,
        Lnc.requestBeacon, Lnc.dropClear]
      split <;> rfl
    · simp [ht, hh, h, queueFrame_release, requestBeacon, Lnc.requestBeacon]
      split <;> rfl

/-- Ending the own claims, the request and the tenure does all that the statements say of it (R3, R7, R97,
R111, R114). -/
theorem withdrawClaims_ends (s : State) : OwnClaimsGone s (withdrawClaims s) := by
  show OwnClaimsGone s (endTenure .stopped (withdrawStart
    { drawWithdraw s with ssu := { (drawWithdraw s).ssu with request := false } }))
  rw [drawWithdraw_ends, withdrawStart_ends, endTenure_ends _ _ rfl]
  refine ⟨rfl, rfl, rfl, rfl, ?_, ?_, ?_⟩
  · cases h : s.dbu.claim.outstanding <;> simp [Pvu.removeOwn]
  · unfold State.claimsWithoutOwn
    cases h : s.dbu.claim.outstanding <;> simp only [Pvu.removeOwn, List.filter_filter, if_true]
    · simp
    · congr 1
      funext e
      cases e.isOwn <;> cases e.kind <;> rfl
  · change (if s.ssu.tenure = true then _ else _ : Lnc).queue = _
    split
    · change (if s.ssu.holder = some s.ownStation then
        (s.releaseQueued .stopped (s.claimsWithdrawn s.lnc.queue)).filter _
        else s.releaseQueued .stopped (s.claimsWithdrawn s.lnc.queue)) = _
      split
      · unfold State.releaseQueued State.claimsWithdrawn
        split
        · rw [putFrame_filter .clear (by decide)]; simp
        · simp
      · rfl
    · rename_i h
      change s.claimsWithdrawn s.lnc.queue = s.releaseQueued .stopped (s.claimsWithdrawn s.lnc.queue)
      simp [State.releaseQueued, h]

end Sys2Proof.Machine
end

