-- ==== Sys2Proof/Tests/Slice0.lean ====
section
/-! SUPPORT. Tests: an ill-formed term for each check of `Instr.wf`, the data book's worked values, and for
every statement with hypotheses a witness that meets them. Expected values are the data book's. -/

namespace Sys2Proof.Tests

open Sys2Proof Sys2Proof.Machine

/-! ### Ill-formed operands -/

/-- A well-formed beacon. -/
def aBeacon : BeaconFields :=
  { sequence := 255, periodCode := 255, state := .ramping, cause := some .dip, urgency := 3
    draw := 65535, speed := 65535, deadline := 65535, auth := true, slotHeld := true, deaf := false
    limitLocal := false, phaseReady := true, settledDraw := 15, settledStart := 15, epoch := 255
    limit := 65535 }

/-- A claim at the edges of its fields. -/
def aClaim : ClaimFields :=
  { kind := .draw, number := 15, urgency := 3, deadline := 65535, amount := 65535, settle := 255 }

theorem test_wf_accepts : (Instr.beaconReceived 7 aBeacon).wf = true
    ∧ (Instr.claimReceived 7 aClaim).wf = true ∧ (Instr.withdrawReceived 7 .start 15).wf = true
    ∧ (Instr.clearReceived 7 255).wf = true ∧ (Instr.eventBeginReceived 7 255).wf = true
    ∧ (Instr.eventReadyReceived 7 255 65535).wf = true := by decide

theorem test_wf_refuses_beacon_fields :
    ({ aBeacon with sequence := 256 }).wf = false ∧ ({ aBeacon with periodCode := 256 }).wf = false
    ∧ ({ aBeacon with urgency := 4 }).wf = false ∧ ({ aBeacon with draw := 65536 }).wf = false
    ∧ ({ aBeacon with speed := 65536 }).wf = false ∧ ({ aBeacon with deadline := 65536 }).wf = false
    ∧ ({ aBeacon with settledDraw := 16 }).wf = false
    ∧ ({ aBeacon with settledStart := 16 }).wf = false ∧ ({ aBeacon with epoch := 256 }).wf = false
    ∧ ({ aBeacon with limit := 65536 }).wf = false := by decide

theorem test_wf_refuses_claim_fields :
    ({ aClaim with number := 16 }).wf = false ∧ ({ aClaim with urgency := 4 }).wf = false
    ∧ ({ aClaim with deadline := 65536 }).wf = false ∧ ({ aClaim with amount := 65536 }).wf = false
    ∧ ({ aClaim with settle := 256 }).wf = false := by decide

theorem test_wf_refuses_operands :
    (Instr.commandRecordRejected []).wf = false ∧ (Instr.beaconReceived 8 aBeacon).wf = false
    ∧ (Instr.beaconReceived 7 { aBeacon with limit := 65536 }).wf = false
    ∧ (Instr.claimReceived 8 aClaim).wf = false
    ∧ (Instr.claimReceived 7 { aClaim with settle := 256 }).wf = false
    ∧ (Instr.withdrawReceived 8 .draw 0).wf = false ∧ (Instr.withdrawReceived 7 .draw 16).wf = false
    ∧ (Instr.releaseReceived 8 .creep).wf = false ∧ (Instr.clearReceived 8 0).wf = false
    ∧ (Instr.clearReceived 7 256).wf = false ∧ (Instr.eventBeginReceived 8 0).wf = false
    ∧ (Instr.eventBeginReceived 7 256).wf = false ∧ (Instr.eventReadyReceived 8 0 0).wf = false
    ∧ (Instr.eventReadyReceived 7 256 0).wf = false
      ∧ (Instr.eventReadyReceived 7 0 65536).wf = false
    ∧ (Instr.peerSuspect 8).wf = false ∧ (Instr.peerLost 8).wf = false
    ∧ (Instr.claimLifetimeExpiry 8 .draw).wf = false := by decide

/-! ### Worked values of the data book -/

/-- R139: the line CRC of the digits 1 to 9 is 29B1h. R160: their strand link check is F4h. -/
theorem test_checks_of_the_digits :
    crc16 [0x31, 0x32, 0x33, 0x34, 0x35, 0x36, 0x37, 0x38, 0x39] = 0x29B1#16
    ∧ crc8 [0x31, 0x32, 0x33, 0x34, 0x35, 0x36, 0x37, 0x38, 0x39] = 0xF4#8 := by decide +kernel

/-- Formats, One Exchange: 31h 01h 03h CBh asks for peer 3. -/
theorem test_get_peer_record :
    commandRecord 0x31 [0x03] = [0x31, 0x01, 0x03, 0xCB]
    ∧ commandOfFrame InputLevels.allLow [0x31, 0x01, 0x03, 0xCB] = .getPeer 0x03
    ∧ commandOfFrame InputLevels.allLow [0x31, 0x01, 0x09, 0xC5] = .getPeer 0x09 := by decide

/-- Formats, One Exchange: k of 9 is refused with 02h 31h 00h CDh. -/
theorem test_refused_reply :
    ({ status := .refusedParam, code := 0x31, data := [] } : Reply).bytes = [0x02, 0x31, 0x00, 0xCD]
    ∧ Reply.powerUp.bytes = [0x06, 0x00, 0x00, 0xFA] := by decide

/-- Freeze Windows, Decodes Worked. -/
theorem test_durations_worked :
    [4, 20, 40, 96, 120, 121, 180, 240, 241, 250, 254, 255].map durationMs
      = [1000, 5000, 10000, 24000, 30000, 31000, 90000, 150000, 180000, 450000, 570000, 900000].map
          some := by decide

/-- R81: the epochs of the table, compared with 254. -/
theorem test_epochs_of_the_table :
    [254, 255, 3, 125, 126, 200, 253].map (newerEpoch · 254)
      = [false, true, true, true, false, false, false] := by decide

/-- Ramps, A Ramp Under Draw Limits: draws and highest speeds with M of 158 kg/m. -/
theorem test_draws_worked :
    [600, 3200, 2800].map (drawOf 158) = [95, 506, 443]
    ∧ [95, 245, 300, 450, 506].map (speedMax 158) = [601, 1550, 1898, 2848, 3202] := by decide

/-- A peer's START claim of the ranking example. -/
def rankedClaim (station urgency : Nat) (deadline : Option Moment) : ClaimEntry :=
  { station := station, kind := .start, number := 0, amount := 0, origin := .peer urgency deadline 0 }

/-- Freeze Windows, Ranking a Claim List: the order is 4, 1, 6, 0 at moments 80,000 and 90,000. -/
theorem test_ranking_worked :
    let claims := [rankedClaim 0 2 none, rankedClaim 1 2 (some 88000), rankedClaim 4 3 (some 83000),
      rankedClaim 6 2 (some 88000)]
    [80000, 90000].map (fun now =>
      { State.reset with now := now, pvu := { Pvu.reset with claims := claims } }.rankedClaims.map
        ClaimEntry.station) = [[4, 1, 6, 0], [4, 1, 6, 0]] := by decide

/-- Freeze Windows, Ranking a Claim List: with expiry 87,000 station 6 leads station 1 until both have
passed. -/
theorem test_ranking_after_expiry :
    let claims := [rankedClaim 6 2 (some 87000), rankedClaim 1 2 (some 88000)]
    [80000, 88000].map (fun now =>
      { State.reset with now := now, pvu := { Pvu.reset with claims := claims } }.rankedClaims.map
        ClaimEntry.station) = [[6, 1], [1, 6]] := by decide

/-! ### Concrete states -/

/-- The state a command leads to. -/
def after (c : Instr) (s : State) : State :=
  match exec c s with
  | .next t => t
  | .fault _ | .refused _ => s

/-- The station 2 of 4: joined 9 s ago, in WATCH on an ACTIVE line, one ramp of two points for every
cause, M 158 kg/m. -/
def station : State :=
  let points := (Vector.replicate 8 Point.reset).set 0
    { target := 600, slew := 150, dwell := 0, levelGate := false, last := false }
  let slice := points.set 1
    { target := 1000, slew := 150, dwell := 1, levelGate := true, last := true }
  let entry := { CauseEntry.reset with
    freezeCode := 80, marginCode := 20, levelTarget := 1600, bandHalf := 100, levelHoldCode := 1 }
  { State.reset with
    now := 10000
    joinedAt := some 1000
    rsq := { Rsq.reset with state := .watch }
    pst := { Pst.reset with
      slices := Pst.reset.slices.set 0 slice
      causes := { dip := entry, tundish := entry, breakout := { entry with freezeCode := 0 }
                  hold := entry }
      strand := { StrandRecord.reset with mass := 158, initialLimit := 1000, soloAllowance := 90 }
      rampLength := { dip := 2, tundish := 2, breakout := 2, hold := 2 } }
    dbu := { Dbu.reset with granted := 79, limit := 1000 }
    lnc := { Lnc.reset with line := .active, quiet := some 100, synced := true }
    spu := { Spu.reset { supplyOk := true, drvReady := true, brkIn := false, dummyIn := false } with
      search := none
      feedback := { value := 49, takenAt := some 9900, fresh := true }
      level := { value := 1800, takenAt := some 9900, fresh := true } }
    cpn := { Cpn.reset with
      straps := { station := 2, count := 3, lrate := true }
      strapDone := true } }

/-- `s` with the sequencer changed. -/
def onRsq (s : State) (f : Rsq → Rsq) : State := { s with rsq := f s.rsq }

/-- `s` with the draw unit changed. -/
def onDbu (s : State) (f : Dbu → Dbu) : State := { s with dbu := f s.dbu }

/-- `s` with the start slot unit changed. -/
def onSsu (s : State) (f : Ssu → Ssu) : State := { s with ssu := f s.ssu }

/-- `s` with the line controller changed. -/
def onLnc (s : State) (f : Lnc → Lnc) : State := { s with lnc := f s.lnc }

/-- `s` with the strand port changed. -/
def onSpu (s : State) (f : Spu → Spu) : State := { s with spu := f s.spu }

/-- `s` in another sequencer state. -/
def inState (q : SeqState) (s : State) : State := onRsq s fun r => { r with state := q }

/-- The station in RAMPING at 500 mm/min for a dip, with G = D(500). -/
def restart : State := onRsq (inState .ramping station) fun r =>
  { r with currentCause := some .dip, speed := 500, runReq := true, carried := some 40000 }

/-- The station waiting at its gated last point, the level out of band. -/
def gated : State := onRsq restart fun r => { r with step := 1, speed := 1000, dwell := 1 }

/-- A pending record. -/
def aRecord : PendingRecord :=
  { stopTime := 9000, deadline := some 29000, epoch := none, latch := none }

/-- The station stopped by a hold, SUPPLY_OK asserted. -/
def stopped : State := onRsq (inState .stopped restart) fun r =>
  let hold := { aRecord with latch := some false }
  { r with currentCause := none, pendingSet := { PendingSet.empty with hold := some hold } }

/-- `s` with its held samples at the stale time. -/
def staleNow (s : State) : State := onSpu s fun p =>
  { p with feedback := { p.feedback with takenAt := some 9800 } }

/-- `s` with the stability count of one input at its filter time. -/
def counted (i : Input) (s : State) : State := onSpu s fun p =>
  { p with inputs := inputSet p.inputs i { inputGet p.inputs i with count := 5 } }

/-- The station stopped by a breakout whose latch is set. -/
def latched : State := onRsq stopped fun r =>
  let breakout := { aRecord with latch := some true }
  { r with pendingSet := { PendingSet.empty with breakout := some breakout } }

/-- `s` with the dummy bar in place. -/
def dummyPlaced (s : State) : State := onSpu s fun p =>
  { p with inputs := { p.inputs with dummyIn := FilterState.reset true } }

/-- `s` with the epoch learned. -/
def learned (s : State) : State := onDbu s fun d => { d with learned := true }

/-- `s` with a WAITING own START claim. -/
def waits (s : State) : State := onSsu s fun u => { u with claim := .waiting }

/-- The station on a line of which it has not yet seen 10 bit times of quiet. -/
def searching : State := onLnc station fun l => { l with synced := false }

/-- The bytes of a sample record. -/
def sampleBytes (f level : Nat) : List Byte :=
  let content := 0x53#8 :: bytes16 f ++ bytes16 level
  content ++ [crc8 content]

/-- `s` with an own DRAW claim whose settle timer has run out. -/
def contended (s : State) : State := onDbu s fun d =>
  { d with
    claim := .contending, claimNumber := 15, amount := 79, need := some 79, settleAt := some 10000 }

/-- `s` with DRV_READY deasserted. -/
def notReady (s : State) : State := onSpu s fun p =>
  { p with inputs := { p.inputs with drvReady := FilterState.reset false } }

/-- A QUEUED station on a DEAF line whose start request meets the critical margin. -/
def inDanger : State :=
  let dip := { aRecord with deadline := some 14999 }
  let queued := onRsq (inState .queued (notReady restart)) fun r =>
    { r with runReq := false, pendingSet := { PendingSet.empty with dip := some dip } }
  onSsu (onLnc queued fun l => { l with line := .deaf }) fun u => { u with request := true }

/-- A QUEUED station whose START claim's settle timer has run out. -/
def rival : State := onSsu (inState .queued restart) fun u =>
  { u with claim := .contending, claimNumber := 15, settleAt := some 10000 }

/-- The station holding the slot, its tenure timer run out. -/
def holding : State := onSsu restart fun u =>
  { u with holder := some 2, tenure := true, tenureAt := some 10000, attempts := 1 }

/-- The station with a frame in the transmitter. -/
def sending (body : FrameBody) : State := onLnc station fun l =>
  { l with tx := some { frame := { station := 2, body := body }, sent := 9 } }

/-- A CLAIM on the line with urgency 1 and 30 s left, the station's urgency risen to 3 since its
start. -/
def aborting (f : Lnc → Lnc) : State :=
  let body := QueuedFrame.body 1 300 (.claim .draw 15 65535 255)
  onLnc (onRsq (sending body) fun r => { r with urgency := 3 }) f

/-- `s` with a START claim of station 3 in the list, at the end of its lifetime. -/
def listed (s : State) : State :=
  let entry : ClaimEntry :=
    { station := 3, kind := .start, number := 15, amount := 0, origin := .peer 0 none 10000 }
  { s with pvu := { s.pvu with claims := [entry] } }

/-- The station with an entry of station 3 of the reset period, last heard at `at'`. -/
def heardFrom (status : PeerStatus) (at' : Moment) : State :=
  let entry := { PeerEntry.reset with status := status, lastBeacon := some at', periodCode := 20 }
  { station with pvu := { station.pvu with peers := station.pvu.peers.set 3 entry } }

/-- Ramps, A Ramp Under Draw Limits, tick 43: blocked at S_max(95) with a need of 411 and a claim of
150. -/
theorem test_blocked_tick_claims :
    let ramp := (Vector.replicate 8 Point.reset).set 0
      { target := 3200, slew := 40, dwell := 30, levelGate := false, last := true }
    let s := { onDbu (onRsq restart fun r => { r with speed := 600 }) fun d =>
        { d with granted := 95, limit := 5000 } with
      pst := { restart.pst with
        slices := restart.pst.slices.set 0 ramp, strand := { restart.pst.strand with chunk := 150 } } }
    let t := after .rampTick s
    t.rsq.speed = 601 ∧ t.dbu.need = some 411 ∧ t.dbu.amount = 150
      ∧ t.dbu.claim = .sent := by decide

/-- The Strand Port, R157: with filter time 0 a change is accepted on the first sample that shows
it, and with filter time 1 on the second. -/
theorem test_filter_times_zero_and_one :
    (FilterState.reset false).sample 0 true = { raw := true, filtered := true, count := 0 }
    ∧ (FilterState.reset false).sample 1 true = { raw := true, filtered := false, count := 1 }
    ∧ ((FilterState.reset false).sample 1 true).sample 1 true
      = { raw := true, filtered := true, count := 0 } := by decide

/-- Freeze Windows, R30: the age of a moment is the difference modulo 2^32. -/
theorem test_ages_wrap :
    ageAt 5 0xFFFFFFFE = 7 ∧ later 0xFFFFFFFE 7 = 5 ∧ timeLeft 0xFFFFFFFE 5 = 7 := by decide

/-- The Restart Line, R137 and R140: the quiet time runs from the end of the last stop bit, whatever the
bits of the character. -/
theorem test_quiet_time_runs_from_the_stop_bit :
    (frameBits [0xFF] ++ [true, true, true]).foldl Lnc.readBit station.lnc
      = { station.lnc with quiet := some 3 } := by decide

/-- The Restart Line, R138: after JOIN the receiver looks for 10 recessive bit times in a row. -/
theorem test_search_after_join :
    let bits := List.replicate 9 true ++ [false] ++ List.replicate 10 true
    (bits.foldl Lnc.readBit { Lnc.reset with quiet := some 0 }).synced = true
    ∧ (bits.dropLast.foldl Lnc.readBit { Lnc.reset with quiet := some 0 }).synced = false := by decide

/-- The Restart Line, R143: a WITHDRAW removes the CLAIM that has not started, and nothing is sent. -/
theorem test_withdraw_removes_unstarted_claim :
    (({ Lnc.reset with line := .active, queue := [.claim .draw 3 100 40] }).queueFrame
      (.withdraw .draw 3)).queue = [] := by decide

/-- Command Port, R178: with the pins at station 2 of 4 the first sample of them is kept, the second
latches them, and a third of other pins changes nothing. -/
theorem test_straps_latch_at_two_equal_samples :
    let pins : StrapPins := { station := 2, count := 3, lrate := true }
    let other : StrapPins := { pins with station := 1 }
    let first := after (.strapLatched pins) State.reset
    first.cpn.strapDone = false ∧ (after (.strapLatched other) first).cpn.strapDone = false
    ∧ (after (.strapLatched pins) first).cpn.straps = pins
    ∧ (after (.strapLatched pins) first).cpn.strapDone = true
    ∧ after (.strapLatched other) (after (.strapLatched pins) first)
      = after (.strapLatched pins) first := by decide

/-- The Strand Port, R156: a record that began before 10 idle bit times had passed since a reset is
lost, and the next record is taken. -/
theorem test_record_under_way_at_a_reset_is_lost :
    let record := Instr.sampleRecord (sampleBytes 50 1600) false
    (after record State.reset).spu.feedback.value = 0
    ∧ (after record (after record State.reset)).spu.feedback.value = 50 := by decide +kernel

/-- Command Port, R179: with RST_N low a station in RAMPING has AUTH and RUN_REQ low and takes no
row; the release makes it UNJOINED with the reply POWER_UP. -/
theorem test_rst_n_low_holds_the_blocks :
    let low := rstFall restart
    low.auth = false ∧ low.rsq.runReq = false ∧ low.sdo = none
    ∧ after .take low = low ∧ (after (.pinReset InputLevels.allLow) low).rstLow = false
    ∧ (after (.pinReset InputLevels.allLow) low).cpn.reply = Reply.powerUp := by decide

/-- The Restart Line, R140: station 2 waits 16 bit times for a frame and 34 for a BEACON. -/
theorem test_gaps_of_station_two :
    headGap 2 (.frame (.release .creep)) = 16 ∧ headGap 2 .beacon = 34 := by decide

/-! ### Witnesses of the statements over every step and every command -/

theorem station_sound : Sound station :=
  ⟨by decide, by decide, by decide, by decide, by decide, by decide, by decide, by decide, by decide,
    by decide, by decide, by decide, by decide, by decide, by decide⟩

theorem restart_sound : Sound restart :=
  ⟨by decide, by decide, by decide, by decide, by decide, by decide, by decide, by decide, by decide,
    by decide, by decide, by decide, by decide, by decide, by decide⟩

/-- The premises of every invariant hold in RAMPING before a tick, and the tick is taken. -/
theorem witness_invariants : Sound restart
  ∧ ∃ t, step { restart with pending := [.rampTick] } = .next t :=
  ⟨restart_sound, _, rfl⟩

/-- A locked fault record at the top of its count takes a capture. -/
theorem witness_first_fault_is_kept :
    ∃ s t : State, exec .freezeExpiry s = .next t ∧ s.cpn.fault.locked = true
      ∧ s.cpn.fault.later ≤ 255 :=
  ⟨{ onRsq restart fun r => { r with carried := some 10000 } with
      cpn := { restart.cpn with fault :=
        { FaultRecord.clear with locked := true, kind := some .overcommit, later := 255 } } },
    _, rfl, by decide⟩

/-- RUN_REQ rises with the slot. -/
theorem witness_run_request_rises_only_with_the_slot :
    SlotPlaced inDanger ∧ inDanger.rsq.runReq = false
    ∧ ∃ t, exec .marginTimerExpiry inDanger = .next t ∧ t.rsq.runReq = true := by
  refine ⟨by decide, by decide, _, rfl, by decide⟩

/-- The premises with RST_N high and with RST_N low. -/
theorem witness_resets_return_every_block :
    station.rstLow = false ∧ (rstFall station).rstLow = true := by decide

/-- A command other than RESET is taken with RST_N high. -/
theorem witness_replies_echo_and_refusals_change_nothing :
    station.rstLow = false ∧ hostCommand .nop = some (0x01, [])
    ∧ ∃ t, exec .nop station = .next t ∧ t.cpn.reply.status = .ok := by
  refine ⟨by decide, by decide, _, rfl, by decide⟩

/-- A step on the empty queue takes the tick that falls now, and after it a bit time passes. -/
theorem witness_step_on_empty_queue :
    (rstFall station).rstLow = true ∧ (rstFall station).pending = []
    ∧ station.rstLow = false ∧ station.pending = [] ∧ station.firstDue = some .rampTick
    ∧ { onRsq station fun r => { r with tickTaken := true } with
        pst := { station.pst with strand := { station.pst.strand with staleTime := 500 } } }.firstDue
      = none := by decide

/-! ### Witnesses of the encodings and the arithmetic -/

/-- The clauses: a command, a RESET with its levels, and a frame of 2 bytes and 7 more bits. -/
theorem witness_command_record_round_trip :
    hostCommand (.tundishReady 65535) = some (0x29, [0xFF, 0xFF])
    ∧ hostCommand (.softReset InputLevels.allLow) = some (0x3F, [])
    ∧ station.rstLow = false ∧ station.cpn.spi.csLow = false ∧ (List.replicate 7 true).length < 8
    ∧ (clockIn (([0x41, 0x42] : List Byte).flatMap spiBits ++ List.replicate 7 true)
        (csFall station)).received = [0x41, 0x42] := by decide +kernel

theorem witness_line_frame_round_trip :
    ({ station := 7, body := .beacon aBeacon } : LineFrame).wf = true ∧ 7 < 8
    ∧ (sending (.clear 3)).lnc.tx.isSome = true ∧ station.lnc.tx = none
    ∧ station.lnc.quiet = some 100 ∧ station.lnc.synced = true ∧ station.lnc.charLeft = 0
    ∧ (onLnc searching fun l => { l with quiet := some 0 }).lnc.quiet = some 0
    ∧ searching.lnc.synced = false := by decide

/-- The Restart Line, R137: LTXEN is asserted from the first start bit to the end of the last stop
bit. -/
theorem test_ltxen_ends_with_the_last_stop_bit :
    let bits := 10 * frameLength .clear
    [0, bits - 1, bits].map (fun sent =>
        (onLnc station fun l => { l with
          tx := some { frame := { station := 2, body := .clear 3 }, sent := sent } }).ltxen)
      = [true, true, false] := by decide

theorem witness_sample_record_is_read_exactly :
    readSample (sampleBytes 65535 65535) false = some (65535, 65535) := by decide +kernel

theorem witness_duration_codes_decode :
    durationMs 1 = some 250 ∧ durationMs 121 = some 31000 ∧ durationMs 254 = some 570000
    ∧ timeLeft 7 (later 7 (2 ^ 31 - 1)) = 2 ^ 31 - 1 := by decide

theorem witness_draw_and_highest_speed_agree :
    speedMax 20 160 = 8000 ∧ speedMax 2000 1 = 0 ∧ drawOf 2000 8000 = 16000 := by decide

theorem witness_epochs_compare_modulo_256 :
    newerEpoch 126 255 = true ∧ newerEpoch 255 126 = false ∧ newerEpoch 127 255 = false
    ∧ newerEpoch 255 127 = false := by decide

theorem witness_rank_is_a_total_order_in_a_kind :
    station.outranks (rankedClaim 1 2 none) (rankedClaim 2 2 none) = true
    ∧ station.outranks (rankedClaim 2 2 none) (rankedClaim 0 1 (some 10000)) = true := by decide

/-! ### Witnesses of the configuration commands -/

/-- The station before JOIN, its tables loaded and its straps latched. -/
def loaded : State := { station with
  rsq := Rsq.reset, joinedAt := none, dbu := Dbu.reset, lnc := Lnc.reset }

/-- LOAD_STRAND's parameters with every field at an end of its range. -/
def strandParams : Vector Byte 25 :=
  #v[0x00, 0x14, 0xFF, 0xFF, 0x01, 0x64, 0xFA, 0x02, 0x60, 0x3E, 0x80, 0x01, 0xF4, 0x00, 0x0A, 0x00,
    0x0A, 0xFF, 0x00, 0x07, 0xD0, 0x0F, 0x00, 0x0F, 0x00]

theorem witness_load_strand_is_taken_in_range :
    loaded.rstLow = false ∧ loaded.rsq.state = .unjoined ∧ (readStrand strandParams).isSome = true
    ∧ readStrand (strandParams.set 1 0x13) = none := by decide

/-- LOAD_CAUSE's parameters for HOLD at the ends of their ranges. -/
def causeParams : Vector Byte 13 :=
  #v[0x04, 0x17, 0xFF, 0x1F, 0x40, 0xFF, 0xFE, 0x02, 0x0F, 0xFE, 0x0F, 0xFE, 0xFF]

theorem witness_load_cause_is_taken_in_range :
    loaded.rstLow = false ∧ loaded.rsq.state = .unjoined
    ∧ (readCauseEntry causeParams).isSome = true ∧ readCauseEntry (causeParams.set 0 0x00) = none
    ∧ readCauseEntry (causeParams.set 0 0x01) = none := by decide

/-- LOAD_SLICE's parameters for slice 23 with every point at target 8000. -/
def sliceParams : Vector Byte 41 :=
  Vector.ofFn fun i => if i.val = 0 then 0x17 else
    if i.val % 5 = 1 then 0x1F else if i.val % 5 = 2 then 0x40 else if i.val % 5 = 0 then 0x03 else 0x01

theorem witness_load_slice_is_taken_in_range :
    loaded.rstLow = false ∧ loaded.rsq.state = .unjoined
    ∧ (readSlice sliceParams).isSome = true ∧ readSlice (sliceParams.set 0 0x18) = none
    ∧ readSlice (sliceParams.set 40 0x04) = none := by decide

/-- The point of the loaded ramp that carries LAST. -/
def lastPoint : Point := { target := 1000, slew := 150, dwell := 1, levelGate := true, last := true }

theorem witness_join_moves_the_station_onto_the_line :
    loaded.rstLow = false ∧ loaded.rsq.state = .unjoined ∧ loaded.cpn.strapDone = true
      ∧ loaded.cpn.straps.count ≠ 0
    ∧ loaded.ownStation < loaded.strandCount ∧ 20 ≤ loaded.pst.strand.mass
    ∧ (∀ c, loaded.pst.point (loaded.pst.causes.get c) 1 = some lastPoint ∧ lastPoint.last = true
        ∧ loaded.pst.strand.creepThreshold ≤ lastPoint.target
        ∧ ∀ j q, j < 1 → loaded.pst.point (loaded.pst.causes.get c) j = some q → q.last = false)
    ∧ ∀ c, (loaded.pst.causes.get c).freezeCode ≠ 0 →
        (loaded.pst.causes.get c).marginCode < (loaded.pst.causes.get c).freezeCode := by
  refine ⟨by decide, by decide, by decide, by decide, by decide, by decide, fun c => ⟨?_, by decide, by decide, ?_⟩,
    fun c => by cases c <;> decide⟩
  · cases c <;> decide
  · intro j q hj hq
    obtain rfl : j = 0 := by omega
    cases c <;> (cases hq; rfl)

/-- The station before JOIN with its Profile Store changed. -/
def onPst (f : Pst → Pst) : State := { loaded with pst := f loaded.pst }

theorem witness_join_names_the_first_failing_check :
    station.rsq.state ≠ .unjoined ∧ (onPst id).rstLow = false
    ∧ { loaded with cpn := Cpn.reset }.joinFailure = some (1, none)
    ∧ (onPst fun _ => Pst.reset).joinFailure = some (2, none)
    ∧ (onPst fun p =>
        let endless := Vector.replicate 8 { lastPoint with last := false }
        { p with slices := p.slices.set 0 endless }).joinFailure
      = some (3, some .dip)
    ∧ (onPst fun p => { p with strand := { p.strand with creepThreshold := 1001 } }).joinFailure
      = some (4, some .dip)
    ∧ (onPst fun p =>
        let hold := { p.causes.hold with marginCode := 80 }
        { p with causes := { p.causes with hold := hold } }).joinFailure
      = some (5, some .hold) := by decide

theorem witness_rejected_records_name_their_check :
    recordFailure [0x01] = some .badLength ∧ recordFailure [0x01, 0x00, 0xFE] = some .badCheck
    ∧ recordFailure [0x03, 0x00, 0xFD] = some .unknown
    ∧ recordFailure [0x01, 0x01, 0x00, 0xFE] = some .badLength := by decide

theorem witness_absent_peer_and_tick_equations :
    (station.peer 7).status = .absent ∧ (station.peer 7).lastBeacon = none
    ∧ restart.rsq.stack = [] ∧ restart.rsq.speed < restart.target := by decide

theorem witness_present_peer : ((heardFrom .live 9699).peer 3).status ≠ .absent := by decide

/-- Entry to QUEUED with RUN_REQ clear on an ACTIVE line, at a RELEASE and at an input edge. -/
theorem witness_queued_with_claim :
    let free (s : State) := onRsq s fun r => { r with runReq := false }
    (free stopped).afterRelease.allMet = true ∧ (free stopped).lnc.line = .active
    ∧ (free latched).rsq.state = .stopped ∧ ((free latched).withInput .dummyIn true).allMet = true
    ∧ (free latched).ssu.tenure = false ∧ (free latched).ssu.claim = .none
    ∧ (free latched).dbu.claim.outstanding = false
      ∧ Accepts (counted .dummyIn latched) .dummyIn true
    ∧ rival.ssu.claim ≠ .none ∧ rival.rsq.state = .queued ∧ rival.rsq.runReq = true := by decide

/-- A line lost with an outstanding DRAW claim and its need, no slot to take and no drive in QUEUED. -/
theorem witness_claims_lost :
    LineLostQuiet (contended restart) ∧ (contended restart).dbu.claim.outstanding = true
    ∧ (contended restart).lnc.line = .active := by decide

/-- DWELL_END and LEVEL_HOLD_TIMEOUT: a dwell of 1 at target, and a level-hold time about to pass
250 ms. -/
theorem witness_at_target_equations :
    gated.rsq.dwell = 1 ∧ gated.rsq.speed = gated.target ∧ TickNow gated
    ∧ durationMs (gated.entryOf gated.rsq.currentCause).levelHoldCode = some 250 := by decide

/-- Free slots beside a frame of another slot: an aborted CLEAR, and the own CLAIMs at their end. -/
theorem witness_own_frames_beside_another_slot :
    let queued (s : State) := onLnc s fun l => { l with queue := [.release .creep] }
    let draw := queued (onDbu (sending (.claim aClaim)) fun d =>
      { d with claim := .sent, claimNumber := 15 })
    let start := queued (onSsu (sending (.claim { aClaim with kind := .start })) fun u =>
      { u with claim := .sent, claimNumber := 15 })
    (∀ g ∈ (queued (sending (.clear 3))).lnc.queue, g.slot ≠ QueuedFrame.slot (.clear 3))
    ∧ draw.dbu.claim = .sent ∧ (∀ g ∈ draw.lnc.queue, g.slot ≠ .drawClaim)
    ∧ start.ssu.claim = .sent ∧ (∀ g ∈ start.lnc.queue, g.slot ≠ .startClaim)
    ∧ draw.lnc.queue ≠ [] ∧ (sending (.clear 3)).lnc.queue = [] := by decide

/-- No gap is reached with nothing queued, and none by a receiver that still searches. -/
theorem witness_own_frames_before_the_gap :
    let searchingNow := onLnc searching fun l => { l with beacon := .queued, quiet := some 9 }
    station.lnc.tx = none ∧ station.lnc.head = none
    ∧ searchingNow.lnc.tx = none ∧ searchingNow.lnc.head = some .beacon
    ∧ searchingNow.lnc.synced = false ∧ searchingNow.lnc.quiet = some 9
    ∧ 9 < headGap searchingNow.ownStation .beacon := by decide

/-- Freeze Windows, R36 and Contexts, R67: a pop restores the saved base urgency, and the urgency
stands on the one configured for the restored cause. -/
theorem test_pop_restores_and_configures_the_base :
    let context := { restart.rsq.context with baseUrgency := 2 }
    (popContext context [] restart).rsq.baseUrgency = 2
    ∧ (popContext context [] restart).rsq.urgencyBase = 0
    ∧ (popContext context [] restart).rsq.urgency = 0
    ∧ (popContext context [] restart).rsq.currentCause = some .dip := by decide

/-! ### Witnesses of the clauses, in the order of the statements -/

theorem witness_queries_only_answer : station.rstLow = false := by decide

theorem witness_get_status_returns_status_and_clears_events : station.rstLow = false := by decide

theorem witness_get_peer_and_get_report_take_an_index :
    (∃ (k : Byte) (s : State), s.rstLow = false ∧ k.toNat ≤ 7)
    ∧ (∃ (k : Byte) (s : State), s.rstLow = false ∧ 7 < k.toNat)
    ∧ (∃ (k : Byte) (s : State), s.rstLow = false ∧ 3 < k.toNat) :=
  ⟨⟨7, station, by decide⟩,
   ⟨8, station, by decide⟩,
   ⟨4, station, by decide⟩⟩

theorem witness_loads_and_cast_need_their_state :
    (∃ (s : State), s.rstLow = false ∧ s.rsq.state = .parked)
    ∧ (∃ (s : State), s.rstLow = false ∧ s.rsq.state ≠ .parked)
    ∧ (∃ (s : State), s.rstLow = false ∧ s.rsq.state = .watch)
    ∧ (∃ (s : State), s.rstLow = false ∧ s.rsq.state ≠ .unjoined)
    ∧ (∃ (s : State), s.rstLow = false ∧ s.rsq.state ≠ .unjoined)
    ∧ (∃ (s : State), s.rstLow = false ∧ s.rsq.state ≠ .unjoined)
    ∧ (∃ (s : State),
        s.rstLow = false ∧ s.rsq.state ≠ .watch ∧ s.rsq.state ≠ .stopped
          ∧ s.rsq.state ≠ .abandoned) :=
  ⟨⟨inState .parked station, by decide⟩,
   ⟨station, by decide⟩,
   ⟨station, by decide⟩,
   ⟨inState .parked station, by decide⟩,
   ⟨inState .parked station, by decide⟩,
   ⟨inState .parked station, by decide⟩,
   ⟨restart, by decide⟩⟩

theorem witness_stop_in_watch_takes_authority :
    ∃ (c : Cause) (code : Byte) (s : State),
        s.rstLow = false ∧ s.rsq.state = .watch
        ∧ ((c = .breakout ∧ code = 0x03) ∨ (c = .hold ∧ code = 0x04)) :=
  ⟨.hold, 0x04, station, by decide⟩

theorem witness_stop_in_ramping_pushes_the_restart :
    ∃ (c : Cause) (code : Byte) (s : State),
        s.rstLow = false ∧ s.rsq.state = .ramping ∧ s.rsq.pendingSet = PendingSet.empty
        ∧ s.rsq.stack.length ≤ 3 ∧ ((c = .breakout ∧ code = 0x03) ∨ (c = .hold ∧ code = 0x04)) :=
  ⟨.breakout, 0x03, onRsq restart fun r => { r with stack := [r.context, r.context, r.context] },
      by decide⟩

theorem witness_stop_merges_and_needs_its_state :
    (∃ (c : Cause) (code : Byte) (s : State),
        s.rstLow = false ∧ (s.rsq.state = .stopped ∨ s.rsq.state = .queued)
        ∧ ((c = .breakout ∧ code = 0x03) ∨ (c = .hold ∧ code = 0x04)))
    ∧ (∃ (c : Cause) (code : Byte) (s : State),
        s.rstLow = false ∧ s.rsq.state = .handback
        ∧ ((c = .breakout ∧ code = 0x03) ∨ (c = .hold ∧ code = 0x04)))
    ∧ (∃ (s : State),
        s.rstLow = false
        ∧ (s.rsq.state = .unjoined ∨ s.rsq.state = .parked ∨ s.rsq.state = .abandoned))
    ∧ (∃ (code : Byte) (s : State),
        s.rstLow = false ∧ s.rsq.state ≠ .unjoined ∧ s.rsq.state ≠ .parked
        ∧ s.rsq.state ≠ .abandoned ∧ code ≠ 0x03 ∧ code ≠ 0x04) :=
  ⟨⟨.hold, 0x04, stopped, by decide⟩,
   ⟨.breakout, 0x03, inState .handback restart, by decide⟩,
   ⟨inState .parked station, by decide⟩,
   ⟨0x02, station, by decide⟩⟩

theorem witness_release_sets_the_latches :
    (∃ (s : State),
        s.rstLow = false ∧ s.rsq.state = .stopped
        ∧ (s.rsq.pendingSet.hold.isSome = true ∨ s.rsq.pendingSet.breakout.isSome = true)
        ∧ s.afterRelease.allMet = false)
    ∧ (∃ (s : State),
        s.rstLow = false ∧ s.rsq.state = .stopped
        ∧ (s.rsq.pendingSet.hold.isSome = true ∨ s.rsq.pendingSet.breakout.isSome = true)
        ∧ s.afterRelease.allMet = true)
    ∧ (∃ (s : State),
        s.rstLow = false ∧ s.rsq.state = .queued
        ∧ (s.rsq.pendingSet.hold.isSome = true ∨ s.rsq.pendingSet.breakout.isSome = true)
        ∧ s.afterRelease.allMet = true)
    ∧ (∃ (s : State),
        s.rstLow = false ∧ s.rsq.state = .queued
        ∧ (s.rsq.pendingSet.hold.isSome = true ∨ s.rsq.pendingSet.breakout.isSome = true)
        ∧ s.afterRelease.allMet = false)
    ∧ (∃ (s : State),
        s.rstLow = false
        ∧ (¬ ((s.rsq.state = .stopped ∨ s.rsq.state = .queued)
          ∧ (s.rsq.pendingSet.hold.isSome = true ∨ s.rsq.pendingSet.breakout.isSome = true)))) :=
  ⟨⟨onRsq stopped fun r => { r with pendingSet := { r.pendingSet with breakout := some aRecord } },
      by decide⟩,
   ⟨stopped, by decide⟩,
   ⟨inState .queued stopped, by decide⟩,
   ⟨onRsq (inState .queued stopped) fun r =>
      { r with pendingSet := { r.pendingSet with breakout := some aRecord } },
      by decide⟩,
   ⟨station, by decide⟩⟩

theorem witness_take_and_park_give_up_authority :
    (∃ (s : State),
        s.rstLow = false ∧ (s.rsq.state = .stopped ∨ s.rsq.state = .queued
          ∨ s.rsq.state = .ramping))
    ∧ (∃ (s : State), s.rstLow = false ∧ s.rsq.state = .handback)
    ∧ (∃ (s : State), s.rstLow = false ∧ s.rsq.state = .abandoned)
    ∧ (∃ (s : State), s.rstLow = false ∧ s.rsq.state = .stopped)
    ∧ (∃ (s : State), s.rstLow = false ∧ s.rsq.state = .abandoned)
    ∧ (∃ (s : State),
        s.rstLow = false ∧ (s.rsq.state = .unjoined ∨ s.rsq.state = .parked
          ∨ s.rsq.state = .watch)) :=
  ⟨⟨restart, by decide⟩,
   ⟨inState .handback restart, by decide⟩,
   ⟨inState .abandoned restart, by decide⟩,
   ⟨stopped, by decide⟩,
   ⟨inState .abandoned restart, by decide⟩,
   ⟨station, by decide⟩⟩

theorem witness_tundish_commands_queue_their_event :
    (∃ (s : State), s.rstLow = false ∧ s.lnc.line = .active)
    ∧ (∃ (s : State), s.rstLow = false ∧ s.lnc.line ≠ .active)
    ∧ (∃ (s : State), s.rstLow = false ∧ s.lnc.line = .active ∧ s.dbu.phase = .opened)
    ∧ (∃ (s : State), s.rstLow = false ∧ (s.lnc.line ≠ .active ∨ s.dbu.phase = .ready)) :=
  ⟨⟨station, by decide⟩,
   ⟨onLnc station fun l => { l with line := .deaf }, by decide⟩,
   ⟨onDbu station fun d => { d with phase := .opened }, by decide⟩,
   ⟨station, by decide⟩⟩

theorem witness_strand_port_samples_and_records :
    (∃ (raw : InputLevels) (s : State),
        s.rstLow = false ∧ (∀ i, ¬ Accepts s i (inputGet raw i)))
    ∧ (∃ (a : Moment) (s : State),
        s.rstLow = false ∧ s.spu.feedback.fresh = true ∧ s.spu.feedback.takenAt = some a
        ∧ s.pst.strand.staleTime ≤ ageAt s.now a ∧ s.auth = true ∧ s.spu.staleMark = false)
    ∧ (∃ (a : Moment) (s : State),
        s.rstLow = false ∧ s.spu.feedback.fresh = true ∧ s.spu.feedback.takenAt = some a
        ∧ s.pst.strand.staleTime ≤ ageAt s.now a ∧ (s.auth = false ∨ s.spu.staleMark = true))
    ∧ (∃ (s : State), s.rstLow = false ∧ s.spu.refWaiting = true ∧ s.spu.refTx = none)
    ∧ (∃ (r : ReferenceRecord) (s : State), s.rstLow = false ∧ s.spu.refTx = some r) :=
  ⟨⟨{ InputLevels.allLow with drvReady := true, brkIn := true }, station,
      by decide, fun i => by cases i <;> decide⟩,
   ⟨9800, staleNow restart, by decide⟩,
   ⟨9800, staleNow station, by decide⟩,
   ⟨onSpu station fun p => { p with refWaiting := true }, by decide⟩,
   ⟨station.referenceRecord, onSpu station fun p => { p with refTx := some station.referenceRecord },
      by decide⟩⟩

theorem witness_input_edges_reach_their_blocks :
    (∃ (i : Input) (raw : Bool) (s : State), s.rstLow = false ∧ Accepts s i raw)
    ∧ (∃ (i : Input) (raw : Bool) (s : State), s.rstLow = false ∧ ¬ Accepts s i raw)
    ∧ (∃ (i : Input) (raw : Bool) (c : Cause) (s : State),
        s.rstLow = false ∧ s.rsq.state = .watch ∧ Accepts s i raw
        ∧ ((i = .supplyOk ∧ raw = false ∧ c = .dip) ∨ (i = .brkIn ∧ raw = true ∧ c = .breakout)))
    ∧ (∃ (i : Input) (raw : Bool) (c : Cause) (s : State),
        s.rstLow = false ∧ (s.rsq.state = .stopped ∨ s.rsq.state = .queued) ∧ Accepts s i raw
        ∧ ((i = .supplyOk ∧ raw = false ∧ c = .dip) ∨ (i = .brkIn ∧ raw = true ∧ c = .breakout)))
    ∧ (∃ (i : Input) (raw : Bool) (c : Cause) (s : State),
        s.rstLow = false ∧ s.rsq.state = .ramping ∧ s.rsq.pendingSet = PendingSet.empty
        ∧ s.rsq.stack.length ≤ 3 ∧ Accepts s i raw
        ∧ ((i = .supplyOk ∧ raw = false ∧ c = .dip) ∨ (i = .brkIn ∧ raw = true ∧ c = .breakout)))
    ∧ (∃ (i : Input) (raw : Bool) (c : Cause) (s : State),
        s.rstLow = false ∧ s.rsq.state = .handback ∧ Accepts s i raw
        ∧ ((i = .supplyOk ∧ raw = false ∧ c = .dip) ∨ (i = .brkIn ∧ raw = true ∧ c = .breakout)))
    ∧ (∃ (s : State),
        s.rstLow = false
        ∧ (s.rsq.state = .stopped ∨ s.rsq.state = .queued ∨ s.rsq.state = .ramping
          ∨ s.rsq.state = .handback)
        ∧ Accepts s .drvReady false ∧ s.rsq.runReq = true ∧ s.filtered .supplyOk = true
        ∧ s.rsq.stack.length ≤ 3)
    ∧ (∃ (s : State),
        s.rstLow = false ∧ s.rsq.state = .queued ∧ Accepts s .drvReady true ∧ s.rsq.runReq = true)
    ∧ (∃ (raw : Bool) (s : State),
        s.rstLow = false ∧ Accepts s .drvReady raw
        ∧ ((raw = false ∧ (s.rsq.runReq = false ∨ s.filtered .supplyOk = false)) ∨ (raw = true
          ∧ (s.rsq.state ≠ .queued ∨ s.rsq.runReq = false) ∧ (s.ssu.tenure = false
          ∨ s.ssu.clearPending = false))))
    ∧ (∃ (i : Input) (raw : Bool) (s : State),
        s.rstLow = false ∧ Accepts s i raw ∧ ((i = .supplyOk ∧ raw = true) ∨ i = .dummyIn)
        ∧ ((s.rsq.state ≠ .stopped ∧ s.rsq.state ≠ .queued) ∨ (s.rsq.state = .stopped
          ∧ (s.withInput i raw).allMet = false) ∨ (s.rsq.state = .queued
          ∧ (s.withInput i raw).allMet = true)))
    ∧ (∃ (i : Input) (raw : Bool) (s : State),
        s.rstLow = false ∧ Accepts s i raw ∧ ((i = .supplyOk ∧ raw = true) ∨ i = .dummyIn)
        ∧ s.rsq.state = .stopped ∧ (s.withInput i raw).allMet = true)
    ∧ (∃ (i : Input) (raw : Bool) (s : State),
        s.rstLow = false ∧ Accepts s i raw ∧ ((i = .supplyOk ∧ raw = true) ∨ i = .dummyIn)
        ∧ s.rsq.state = .queued ∧ (s.withInput i raw).allMet = false)
    ∧ (∃ (i : Input) (raw : Bool) (s : State),
        s.rstLow = false ∧ Accepts s i raw
        ∧ ((i = .brkIn ∧ raw = false) ∨ ((s.rsq.state = .unjoined ∨ s.rsq.state = .parked
          ∨ s.rsq.state = .abandoned) ∧ (i ≠ .drvReady ∨ raw = false)))) :=
  ⟨⟨.dummyIn, true, counted .dummyIn station, by decide⟩,
   ⟨.dummyIn, true, station, by decide⟩,
   ⟨.supplyOk, false, .dip, counted .supplyOk station, by decide⟩,
   ⟨.brkIn, true, .breakout, counted .brkIn stopped, by decide⟩,
   ⟨.supplyOk, false, .dip, counted .supplyOk restart, by decide⟩,
   ⟨.brkIn, true, .breakout, counted .brkIn (inState .handback restart), by decide⟩,
   ⟨counted .drvReady (inState .queued restart), by decide⟩,
   ⟨counted .drvReady (notReady (inState .queued restart)), by decide⟩,
   ⟨false, counted .drvReady station, by decide⟩,
   ⟨.dummyIn, true, counted .dummyIn restart, by decide⟩,
   ⟨.dummyIn, true, counted .dummyIn latched, by decide⟩,
   ⟨.dummyIn, false, counted .dummyIn (dummyPlaced (inState .queued latched)), by decide⟩,
   ⟨.supplyOk, false, counted .supplyOk (inState .parked station), by decide⟩⟩

theorem witness_a_sample_record_is_held_and_given :
    (∃ (bytes : List Byte) (fault : Bool) (f : Nat) (level : Nat) (s : State),
        s.rstLow = false ∧ readSample bytes fault = some (f, level) ∧ Found s
        ∧ 0 < s.pst.strand.staleTime ∧ (s.rsq.state = .parked ∨ s.rsq.state = .watch)
        ∧ s.ssu.tenure = false)
    ∧ (∃ (bytes : List Byte) (fault : Bool) (f : Nat) (level : Nat) (s : State),
        s.rstLow = false ∧ readSample bytes fault = some (f, level) ∧ Found s
        ∧ 0 < s.pst.strand.staleTime ∧ s.rsq.state = .ramping
        ∧ s.pst.strand.creepThreshold ≤ min f 8000
        ∧ (s.rsq.counters.creepMoment = none ∨ s.rsq.carried.isSome = true))
    ∧ (∃ (bytes : List Byte) (fault : Bool) (f : Nat) (level : Nat) (s : State),
        s.rstLow = false ∧ readSample bytes fault = some (f, level) ∧ Found s
        ∧ s.rsq.state ≠ .parked ∧ s.rsq.state ≠ .watch
        ∧ (min f 8000 < s.pst.strand.creepThreshold ∨ (s.ssu.tenure = false
          ∧ (s.rsq.state ≠ .ramping ∨ (s.rsq.counters.creepMoment ≠ none ∧ s.rsq.carried = none)))))
    ∧ (∃ (bytes : List Byte) (fault : Bool) (f : Nat) (level : Nat) (s : State),
        s.rstLow = false ∧ readSample bytes fault = some (f, level) ∧ Found s
        ∧ 0 < s.pst.strand.staleTime ∧ s.rsq.state ≠ .parked ∧ s.rsq.state ≠ .watch
        ∧ s.pst.strand.creepThreshold ≤ min f 8000 ∧ s.ssu.tenure = true ∧ s.ssu.claim = .none
        ∧ (s.rsq.state ≠ .ramping ∨ (s.rsq.counters.creepMoment ≠ none ∧ s.rsq.carried = none)))
    ∧ (∃ (bytes : List Byte) (fault : Bool) (s : State),
        s.rstLow = false ∧ bytes ≠ [] ∧ (readSample bytes fault = none
          ∨ Searching s bytes.length)) :=
  ⟨⟨sampleBytes 8001 4096, false, 8001, 4096, station, by decide +kernel⟩,
   ⟨sampleBytes 50 1600, false, 50, 1600, restart, by decide +kernel⟩,
   ⟨sampleBytes 49 1600, false, 49, 1600, restart, by decide +kernel⟩,
   ⟨sampleBytes 50 1600, false, 50, 1600, onRsq holding fun r =>
      { r with carried := none, counters := { r.counters with creepMoment := some 9000 } },
      by decide +kernel⟩,
   ⟨[0x53], false, station, by decide +kernel⟩⟩

theorem witness_ramp_tick_moves_the_speed :
    (∃ (s : State),
        s.rstLow = false ∧ s.rsq.state ≠ .unjoined ∧ s.rsq.state ≠ .ramping ∧ TickNow s)
    ∧ (∃ (s : State),
        s.rstLow = false ∧ s.rsq.state = .ramping ∧ TickNow s ∧ s.rsq.speed < s.target
        ∧ (let new := min (s.rsq.speed + s.currentPoint.slew) (min s.target s.speedMax)
        new < s.speedMax ∨ new = s.target))
    ∧ (∃ (s : State),
        s.rstLow = false ∧ s.rsq.state = .ramping ∧ TickNow s ∧ s.target < s.rsq.speed) :=
  ⟨⟨station, by decide⟩,
   ⟨onDbu restart fun d => { d with granted := 316 }, by decide⟩,
   ⟨onRsq restart fun r => { r with speed := 601 }, by decide⟩⟩

theorem witness_a_blocked_tick_gives_a_draw_need :
    (∃ (s : State),
        s.rstLow = false ∧ s.rsq.state = .ramping ∧ TickNow s ∧ s.rsq.speed < s.target
        ∧ s.speedMax < s.target ∧ s.speedMax ≤ s.rsq.speed + s.currentPoint.slew
        ∧ s.dbu.claim.outstanding = true)
    ∧ (∃ (s : State),
        s.rstLow = false ∧ s.rsq.state = .ramping ∧ TickNow s ∧ s.rsq.speed < s.target
        ∧ s.speedMax < s.target ∧ s.speedMax ≤ s.rsq.speed + s.currentPoint.slew
        ∧ s.lnc.line = .active ∧ (s.dbu.claim = .none ∨ s.dbu.claim = .waiting))
    ∧ (∃ (s : State),
        s.rstLow = false ∧ s.rsq.state = .ramping ∧ TickNow s ∧ s.rsq.speed < s.target
        ∧ s.speedMax < s.target ∧ s.speedMax ≤ s.rsq.speed + s.currentPoint.slew
        ∧ ((s.lnc.line = .active ∧ s.dbu.claim = .holdoff) ∨ (s.lnc.line = .listen
          ∧ s.dbu.claim.outstanding = false)))
    ∧ (∃ (s : State),
        s.rstLow = false ∧ s.rsq.state = .ramping ∧ TickNow s ∧ s.rsq.speed < s.target
        ∧ s.speedMax < s.target ∧ s.speedMax ≤ s.rsq.speed + s.currentPoint.slew
        ∧ (s.lnc.line = .deaf ∨ s.lnc.line = .barred) ∧ s.dbu.claim.outstanding = false) :=
  ⟨⟨onDbu restart fun d => { d with claim := .sent }, by decide⟩,
   ⟨restart, by decide⟩,
   ⟨onLnc restart fun l => { l with line := .listen }, by decide⟩,
   ⟨onLnc restart fun l => { l with line := .deaf }, by decide⟩⟩

theorem witness_at_target_ticks_count_dwell_and_level_hold :
    (∃ (s : State),
        s.rstLow = false ∧ s.rsq.state = .ramping ∧ TickNow s ∧ s.rsq.speed = s.target
        ∧ 1 < s.rsq.dwell)
    ∧ (∃ (s : State),
        s.rstLow = false ∧ s.rsq.state = .ramping ∧ TickNow s ∧ s.rsq.speed = s.target
        ∧ s.rsq.dwell ≤ 1 ∧ s.currentPoint.levelGate = true
        ∧ s.levelInBand (s.entryOf s.rsq.currentCause) = false
        ∧ (∀ m, durationMs (s.entryOf s.rsq.currentCause).levelHoldCode = some m → m < s.rsq.levelHoldTime ∨ s.rsq.levelHoldTime + 100 ≤ m))
    ∧ (∃ (s : State),
        s.rstLow = false ∧ s.rsq.state = .ramping ∧ TickNow s ∧ s.rsq.speed = s.target
        ∧ s.rsq.dwell ≤ 1 ∧ s.currentPoint.levelGate = true
        ∧ s.levelInBand (s.entryOf s.rsq.currentCause) = false
        ∧ (∃ m, durationMs (s.entryOf s.rsq.currentCause).levelHoldCode = some m
          ∧ s.rsq.levelHoldTime ≤ m ∧ m < s.rsq.levelHoldTime + 100)) :=
  ⟨⟨onRsq gated fun r => { r with dwell := 2 }, by decide⟩,
   ⟨gated,
      by decide, by decide, by decide, by decide, by decide, by decide, by decide, fun m h => by injection h with h; subst h; decide⟩,
   ⟨onRsq gated fun r => { r with levelHoldTime := 250 },
      by decide, by decide, by decide, by decide, by decide, by decide, by decide, ⟨_, rfl, by decide⟩⟩⟩

theorem witness_a_completed_point_advances_pops_or_hands_back :
    (∃ (s : State),
        s.rstLow = false ∧ s.rsq.state = .ramping ∧ TickNow s ∧ s.rsq.speed = s.target
        ∧ s.rsq.dwell ≤ 1
        ∧ (s.currentPoint.levelGate = false ∨ s.levelInBand (s.entryOf s.rsq.currentCause) = true)
        ∧ ((s.rsq.stack = [] ∧ s.currentPoint.last = false) ∨ ∃ c rest, s.rsq.stack = c :: rest
          ∧ s.rsq.speed ≠ c.resumeSpeed ∧ s.currentPoint.last = false))
    ∧ (∃ (s : State),
        s.rstLow = false ∧ s.rsq.state = .ramping ∧ TickNow s ∧ s.rsq.speed = s.target
        ∧ s.rsq.dwell ≤ 1
        ∧ (s.currentPoint.levelGate = false ∨ s.levelInBand (s.entryOf s.rsq.currentCause) = true)
        ∧ s.rsq.stack = [] ∧ s.currentPoint.last = true)
    ∧ (∃ (c : Context) (rest : List Context) (s : State),
        s.rstLow = false ∧ s.rsq.state = .ramping ∧ TickNow s ∧ s.rsq.speed = s.target
        ∧ s.rsq.dwell ≤ 1
        ∧ (s.currentPoint.levelGate = false ∨ s.levelInBand (s.entryOf s.rsq.currentCause) = true)
        ∧ s.rsq.stack = c :: rest ∧ (s.rsq.speed = c.resumeSpeed ∨ s.currentPoint.last = true)) :=
  ⟨⟨onRsq restart fun r => { r with speed := 600 },
      by decide, by decide, by decide, by decide, by decide, by decide, .inl (by decide)⟩,
   ⟨onSpu gated fun p => { p with level := { value := 1700, takenAt := some 9801, fresh := true } },
      by decide⟩,
   ⟨restart.rsq.context, [], onRsq restart fun r => { r with speed := 500, stack := [r.context] },
      by decide⟩⟩

theorem witness_deadline_timers_abandon_and_raise_urgency :
    (∃ (d : Moment) (c : Cause) (s : State),
        s.rstLow = false ∧ s.deadlineInForce = some d ∧ timeLeft s.now d = 0
        ∧ s.deadlineCause d = some c)
    ∧ (∃ (s : State),
        s.rstLow = false ∧ s.computeUrgency = 3 ∧ s.rsq.urgency ≠ 3
        ∧ ((s.lnc.line ≠ .deaf ∧ s.lnc.line ≠ .barred) ∨ s.ssu.request = false
          ∨ s.ssu.tenure = true ∨ s.ssu.claim ≠ .none))
    ∧ (∃ (s : State),
        s.rstLow = false ∧ s.computeUrgency = 3 ∧ s.rsq.urgency ≠ 3
        ∧ (s.lnc.line = .deaf ∨ s.lnc.line = .barred) ∧ s.ssu.request = true ∧ s.ssu.tenure = false
        ∧ s.ssu.claim = .none ∧ s.dbu.claim.outstanding = false
        ∧ (s.drvReady = false ∨ s.rsq.state ≠ .queued))
    ∧ (∃ (s : State),
        s.rstLow = false ∧ s.computeUrgency = 3 ∧ s.rsq.urgency ≠ 3
        ∧ (s.lnc.line = .deaf ∨ s.lnc.line = .barred) ∧ s.ssu.request = true ∧ s.ssu.tenure = false
        ∧ s.ssu.claim = .none ∧ s.dbu.claim.outstanding = false ∧ s.drvReady = true
        ∧ s.rsq.state = .queued)
    ∧ (∃ (s : State), s.rstLow = false ∧ s.rsq.state = .handback ∧ RunOut s s.rsq.handbackAt) :=
  ⟨⟨10000, .dip, onRsq restart fun r => { r with carried := some 10000 }, by decide⟩,
   ⟨onRsq restart fun r => { r with carried := some 14999 }, by decide⟩,
   ⟨inDanger, by decide⟩,
   ⟨onSpu inDanger fun p =>
      { p with inputs := { p.inputs with drvReady := FilterState.reset true } },
      by decide⟩,
   ⟨onRsq (inState .handback restart) fun r => { r with handbackAt := some 10000 },
      by decide, by decide, ⟨_, rfl, by decide⟩⟩⟩

theorem witness_a_settled_draw_claim_raises_the_grant :
    (∃ (s : State),
        s.rstLow = false ∧ s.dbu.claim = .contending ∧ RunOut s s.dbu.settleAt
        ∧ (s.rsq.state ≠ .queued ∨ s.driveRunning = false))
    ∧ (∃ (s : State),
        s.rstLow = false ∧ s.dbu.claim = .contending ∧ RunOut s s.dbu.settleAt
        ∧ s.rsq.state = .queued ∧ s.driveRunning = true
        ∧ (s.firstTarget ≤ s.rsq.speed
          ∨ s.rsq.speed < speedMax s.pst.strand.mass (s.dbu.granted + s.dbu.amount)))
    ∧ (∃ (s : State),
        s.rstLow = false ∧ s.dbu.claim = .contending ∧ RunOut s s.dbu.settleAt
        ∧ s.rsq.state = .queued ∧ s.driveRunning = true ∧ s.lnc.line = .active
        ∧ s.rsq.speed < s.firstTarget
        ∧ speedMax s.pst.strand.mass (s.dbu.granted + s.dbu.amount) ≤ s.rsq.speed) :=
  ⟨⟨contended restart, by decide, by decide, ⟨_, rfl, by decide⟩, by decide⟩,
   ⟨contended (inState .queued restart),
      by decide, by decide, ⟨_, rfl, by decide⟩, by decide, by decide, by decide⟩,
   ⟨onDbu (contended (inState .queued restart)) fun d => { d with granted := 40, amount := 39 },
      by decide, by decide, ⟨_, rfl, by decide⟩, by decide, by decide, by decide, by decide, by decide⟩⟩

theorem witness_start_settle_takes_the_slot_or_waits :
    (∃ (s : State),
        s.rstLow = false ∧ s.ssu.claim = .contending ∧ RunOut s s.ssu.settleAt ∧ s.ssu.holder = none
        ∧ s.startTopRanked = true ∧ (s.drvReady = false ∨ s.rsq.state ≠ .queued))
    ∧ (∃ (s : State),
        s.rstLow = false ∧ s.ssu.claim = .contending ∧ RunOut s s.ssu.settleAt ∧ s.ssu.holder = none
        ∧ s.startTopRanked = true ∧ s.drvReady = true ∧ s.rsq.state = .queued)
    ∧ (∃ (s : State),
        s.rstLow = false ∧ s.ssu.claim = .contending ∧ RunOut s s.ssu.settleAt
        ∧ (s.ssu.holder ≠ none ∨ s.startTopRanked = false)) :=
  ⟨⟨onSpu rival fun p => { p with inputs := { p.inputs with drvReady := FilterState.reset false } },
      by decide, by decide, ⟨_, rfl, by decide⟩, by decide, by decide, by decide⟩,
   ⟨rival,
      by decide, by decide, ⟨_, rfl, by decide⟩, by decide, by decide, by decide, by decide⟩,
   ⟨onSsu rival fun u => { u with holder := some 3 },
      by decide, by decide, ⟨_, rfl, by decide⟩, by decide⟩⟩

theorem witness_tenure_timer_releases_or_counts_a_timeout :
    (∃ (s : State),
        s.rstLow = false ∧ s.ssu.tenure = true ∧ RunOut s s.ssu.tenureAt ∧ s.drvReady = true
        ∧ s.ssu.claim = .none)
    ∧ (∃ (s : State),
        s.rstLow = false ∧ s.ssu.tenure = true ∧ RunOut s s.ssu.tenureAt ∧ s.drvReady = false
        ∧ s.ssu.attempts = 1 ∧ s.ssu.claim = .none
        ∧ (s.ssu.request = false ∨ (s.lnc.line ≠ .active ∧ ((s.lnc.line ≠ .deaf
          ∧ s.lnc.line ≠ .barred) ∨ s.rsq.urgency ≠ 3))))
    ∧ (∃ (s : State),
        s.rstLow = false ∧ s.ssu.tenure = true ∧ RunOut s s.ssu.tenureAt ∧ s.drvReady = false
        ∧ s.ssu.attempts = 1 ∧ s.ssu.claim = .none ∧ s.ssu.request = true ∧ s.lnc.line = .active)
    ∧ (∃ (s : State),
        s.rstLow = false ∧ s.ssu.tenure = true ∧ RunOut s s.ssu.tenureAt ∧ s.drvReady = false
        ∧ s.ssu.attempts = 1 ∧ s.ssu.claim = .none ∧ s.ssu.request = true
        ∧ (s.lnc.line = .deaf ∨ s.lnc.line = .barred) ∧ s.rsq.urgency = 3)
    ∧ (∃ (s : State),
        s.rstLow = false ∧ s.ssu.tenure = true ∧ RunOut s s.ssu.tenureAt ∧ s.drvReady = false
        ∧ s.ssu.attempts = 2) :=
  ⟨⟨holding, by decide, by decide, ⟨_, rfl, by decide⟩, by decide, by decide⟩,
   ⟨notReady holding,
      by decide, by decide, ⟨_, rfl, by decide⟩, by decide, by decide, by decide, by decide⟩,
   ⟨onSsu (notReady holding) fun u => { u with request := true },
      by decide, by decide, ⟨_, rfl, by decide⟩, by decide, by decide, by decide, by decide, by decide⟩,
   ⟨onRsq (onLnc (onSsu (notReady holding) fun u => { u with request := true }) fun l =>
      { l with line := .deaf }) fun r => { r with urgency := 3 },
      by decide, by decide, ⟨_, rfl, by decide⟩, by decide, by decide, by decide, by decide, by decide, by decide⟩,
   ⟨onSsu (notReady holding) fun u => { u with attempts := 2 },
      by decide, by decide, ⟨_, rfl, by decide⟩, by decide, by decide⟩⟩

theorem witness_line_timers_queue_beacons_and_change_state :
    (∃ (s : State),
        s.rstLow = false ∧ (s.lnc.line = .active ∨ s.lnc.line = .deaf) ∧ RunOut s s.lnc.beaconAt)
    ∧ (∃ (s : State),
        s.rstLow = false ∧ s.lnc.line = .listen ∧ RunOut s s.lnc.listenAt
        ∧ s.lnc.deafCount < s.pst.strand.deafThreshold ∧ s.dbu.claim = .none ∧ s.dbu.need = none
        ∧ s.ssu.claim = .none ∧ s.ssu.request = false ∧ s.rsq.state ≠ .queued)
    ∧ (∃ (s : State),
        s.rstLow = false ∧ s.lnc.line = .listen ∧ RunOut s s.lnc.listenAt
        ∧ s.lnc.deafCount < s.pst.strand.deafThreshold ∧ s.ssu.request = true ∧ s.ssu.claim = .none
        ∧ s.ssu.tenure = false ∧ s.driveRunning = false ∧ s.dbu.claim.outstanding = false)
    ∧ (∃ (s : State),
        s.rstLow = false ∧ s.lnc.line = .listen ∧ RunOut s s.lnc.listenAt
        ∧ s.pst.strand.deafThreshold ≤ s.lnc.deafCount ∧ s.dbu.claim = .none ∧ s.dbu.need = none
        ∧ s.ssu.claim = .none ∧ s.ssu.request = false ∧ s.rsq.state ≠ .queued)
    ∧ (∃ (k : Nat) (target : Nat) (s : State),
        s.rstLow = false ∧ s.lnc.line = .deaf ∧ s.lnc.deafCount ≤ 1 ∧ Heard s k
        ∧ target ≠ s.ownStation ∧ s.dbu.claim = .none ∧ s.dbu.need = none ∧ s.ssu.claim = .none
        ∧ s.ssu.request = false ∧ s.rsq.state ≠ .queued)
    ∧ (∃ (c : Instr) (k : Nat) (s : State),
        s.rstLow = false ∧ frameSender c = some k ∧ Heard s k ∧ s.lnc.line = .deaf
        ∧ s.lnc.deafCount ≤ 1)
    ∧ (∃ (k : Nat) (s : State),
        s.rstLow = false ∧ s.lnc.line = .deaf ∧ s.lnc.deafCount ≤ 1 ∧ Heard s k
        ∧ s.ssu.request = true ∧ s.ssu.claim = .none ∧ s.ssu.tenure = false ∧ s.driveRunning = false
        ∧ s.dbu.claim.outstanding = false)
    ∧ (∃ (s : State), s.rstLow = false ∧ s.lnc.line = .active ∧ RunOut s s.lnc.silenceAt)
    ∧ (∃ (s : State),
        s.rstLow = false ∧ s.lnc.line = .active ∧ RunOut s s.lnc.silenceAt ∧ s.dbu.claim = .none
        ∧ s.dbu.need = none ∧ s.ssu.claim = .none ∧ s.ssu.request = false ∧ s.rsq.state ≠ .queued)
    ∧ (∃ (s : State),
        s.rstLow = false ∧ s.lnc.line = .active ∧ RunOut s s.lnc.silenceAt ∧ s.ssu.request = true
        ∧ s.rsq.urgency = 3 ∧ s.ssu.tenure = false ∧ s.drvReady = false ∧ s.dbu.claim = .none
        ∧ s.dbu.need = none) :=
  ⟨⟨onLnc station fun l => { l with beaconAt := some 10000 },
      by decide, by decide, ⟨_, rfl, by decide⟩⟩,
   ⟨onLnc station fun l => { l with line := .listen, listenAt := some 10000, deafCount := 31 },
      by decide, by decide, ⟨_, rfl, by decide⟩, by decide, by decide, by decide, by decide, by decide, by decide⟩,
   ⟨onSsu (onLnc (inState .queued (notReady restart)) fun l =>
      { l with line := .listen, listenAt := some 10000 }) fun u => { u with request := true },
      by decide, by decide, ⟨_, rfl, by decide⟩, by decide, by decide, by decide, by decide, by decide, by decide⟩,
   ⟨onLnc station fun l => { l with line := .listen, listenAt := some 10000, deafCount := 32 },
      by decide, by decide, ⟨_, rfl, by decide⟩, by decide, by decide, by decide, by decide, by decide, by decide⟩,
   ⟨3, 0, onLnc station fun l => { l with line := .deaf, deafCount := 1 }, by decide⟩,
   ⟨.eventBeginReceived 3 1, 3, onLnc station fun l => { l with line := .deaf, deafCount := 1 },
      by decide⟩,
   ⟨3, onSsu (onLnc (inState .queued (notReady restart)) fun l =>
      { l with line := .deaf, deafCount := 0 }) fun u => { u with request := true },
      by decide⟩,
   ⟨onLnc (contended restart) fun l => { l with silenceAt := some 10000 },
      by decide, by decide, ⟨_, rfl, by decide⟩⟩,
   ⟨onLnc station fun l => { l with silenceAt := some 10000 },
      by decide, by decide, ⟨_, rfl, by decide⟩, by decide, by decide, by decide, by decide, by decide⟩,
   ⟨onRsq (onLnc inDanger fun l => { l with line := .active, silenceAt := some 10000 }) fun r =>
      { r with urgency := 3 },
      by decide, by decide, ⟨_, rfl, by decide⟩, by decide, by decide, by decide, by decide, by decide, by decide⟩⟩

theorem witness_own_frames_start_abort_and_end :
    (∃ (levels : List Bool) (q : Nat) (s : State),
        s.rstLow = false ∧ s.lnc.tx = none ∧ s.lnc.head = some .beacon
        ∧ (levels.foldl Lnc.readBit s.lnc).quiet = some q ∧ 30 + 2 * s.ownStation ≤ q)
    ∧ (∃ (levels : List Bool) (q : Nat) (f : QueuedFrame) (s : State),
        s.rstLow = false ∧ s.lnc.tx = none ∧ s.lnc.head = some (.frame f)
        ∧ (levels.foldl Lnc.readBit s.lnc).quiet = some q ∧ 12 + 2 * s.ownStation ≤ q)
    ∧ (∃ (levels : List Bool) (s : State),
        s.rstLow = false ∧ s.lnc.tx = none
        ∧ (∀ h, s.lnc.head = some h → ∀ q, (levels.foldl Lnc.readBit s.lnc).quiet = some q → q < (match h with | .beacon => 30 | .frame _ => 12) + 2 * s.ownStation))
    ∧ (∃ (x : Transmission) (s : State), s.rstLow = false ∧ s.lnc.tx = some x)
    ∧ (∃ (b : BeaconFields) (m : Nat) (s : State),
        s.rstLow = false
        ∧ s.lnc.tx = some { sent := m, frame := { station := s.ownStation, body := .beacon b } })
    ∧ (∃ (f : QueuedFrame) (urgency : Nat) (deadline : Nat) (m : Nat) (s : State),
        s.rstLow = false
        ∧ s.lnc.tx = some { sent := m, frame := { station := s.ownStation, body := f.body urgency deadline } }
        ∧ (∀ g ∈ s.lnc.queue, g.slot ≠ f.slot))
    ∧ (∃ (k : ClaimKind) (number : Nat) (amount : Nat) (settle : Nat) (urgency : Nat) (deadline : Nat) (m : Nat) (s : State),
        s.rstLow = false
        ∧ s.lnc.tx = some { sent := m, frame := { station := s.ownStation, body := QueuedFrame.body urgency deadline (.claim k number amount settle) } }
        ∧ .withdraw k number ∈ s.lnc.queue ∧ SlotsDistinct s)
    ∧ (∃ (f : QueuedFrame) (g : QueuedFrame) (urgency : Nat) (deadline : Nat) (m : Nat) (s : State),
        s.rstLow = false
        ∧ s.lnc.tx = some { sent := m, frame := { station := s.ownStation, body := f.body urgency deadline } }
        ∧ g ∈ s.lnc.queue ∧ g.slot = f.slot ∧ SlotsDistinct s ∧ withdraws g f = false)
    ∧ (∃ (b : BeaconFields) (m : Nat) (n : Nat) (s : State),
        s.rstLow = false
        ∧ s.lnc.tx = some { sent := m, frame := { station := n, body := .beacon b } })
    ∧ (∃ (c : ClaimFields) (m : Nat) (n : Nat) (s : State),
        s.rstLow = false
        ∧ s.lnc.tx = some { sent := m, frame := { station := n, body := .claim c } }
        ∧ c.kind = .draw ∧ s.dbu.claim = .sent ∧ s.dbu.claimNumber = c.number
        ∧ (∀ g ∈ s.lnc.queue, g.slot ≠ .drawClaim))
    ∧ (∃ (c : ClaimFields) (m : Nat) (n : Nat) (s : State),
        s.rstLow = false
        ∧ s.lnc.tx = some { sent := m, frame := { station := n, body := .claim c } }
        ∧ c.kind = .start ∧ s.ssu.claim = .sent ∧ s.ssu.claimNumber = c.number
        ∧ (∀ g ∈ s.lnc.queue, g.slot ≠ .startClaim))
    ∧ (∃ (c : ClaimFields) (m : Nat) (n : Nat) (s : State),
        s.rstLow = false
        ∧ s.lnc.tx = some { sent := m, frame := { station := n, body := .claim c } }
        ∧ ((c.kind = .draw ∧ (s.dbu.claim ≠ .sent ∨ s.dbu.claimNumber ≠ c.number
          ∨ s.lnc.slotFull .drawClaim = true)) ∨ (c.kind = .start ∧ (s.ssu.claim ≠ .sent
          ∨ s.ssu.claimNumber ≠ c.number ∨ s.lnc.slotFull .startClaim = true))))
    ∧ (∃ (x : Transmission) (s : State),
        s.rstLow = false ∧ s.lnc.tx = some x
        ∧ (x.frame.body.frameKind = .withdraw ∨ x.frame.body.frameKind = .release
          ∨ x.frame.body.frameKind = .clear)) :=
  ⟨⟨[true, true], 34, onLnc station fun l => { l with beacon := .queued, quiet := some 32 },
      by decide⟩,
   ⟨[], 16, .release .creep, onLnc station fun l => { l with queue := [.release .creep], quiet := some 16 },
      by decide⟩,
   ⟨[true], onLnc station fun l => { l with beacon := .queued, quiet := some 32 },
      rfl, rfl, fun h hh q hq => by
      obtain rfl : Head.beacon = h := Option.some.inj hh
      obtain rfl : 33 = q := Option.some.inj hq
      decide⟩,
   ⟨station.transmit (.clear 3), onLnc station fun l => { l with tx := some (station.transmit (.clear 3)) },
      by decide⟩,
   ⟨station.beaconFields, 9, sending (.beacon station.beaconFields), by decide⟩,
   ⟨.clear 3, 0, 0, 9, sending (.clear 3), by decide⟩,
   ⟨.draw, 15, 65535, 255, 1, 300, 9, aborting fun l => { l with queue := [.withdraw .draw 15] },
      by decide⟩,
   ⟨.claim .draw 15 65535 255, .claim .draw 15 65535 255, 1, 300, 9, aborting fun l => { l with queue := [.claim .draw 15 65535 255] },
      by decide⟩,
   ⟨station.beaconFields, 9, 2, sending (.beacon station.beaconFields), by decide⟩,
   ⟨aClaim, 9, 2, onDbu (sending (.claim aClaim)) fun d => { d with claim := .sent, claimNumber := 15 },
      by decide⟩,
   ⟨{ aClaim with kind := .start }, 9, 2, onSsu (sending (.claim { aClaim with kind := .start })) fun u =>
      { u with claim := .sent, claimNumber := 15 },
      by decide⟩,
   ⟨aClaim, 9, 2, onLnc (sending (.claim aClaim)) fun l => { l with queue := [.withdraw .draw 15] },
      by decide⟩,
   ⟨station.transmit (.withdraw .draw 0), onLnc station fun l => { l with tx := some (station.transmit (.withdraw .draw 0)) },
      by decide⟩⟩

theorem witness_a_beacon_updates_its_entry_and_claims :
    (∃ (k : Nat) (s : State), s.rstLow = false ∧ Hears s k ∧ k < 8)
    ∧ (∃ (k : Nat) (b : BeaconFields) (s : State),
        s.rstLow = false ∧ Hears s k ∧ ViewIdle s ∧ s.dbu.learned = true ∧ b.epoch = s.dbu.epoch
        ∧ b.epoch < 256 ∧ (s.dbu.phase = .ready ∨ b.phaseReady = false)
        ∧ (b.limitLocal = true ∨ b.limit = s.dbu.limit
          ∨ s.pst.strand.limitSource = .localSource ∨ s.dbu.mismatch = true
          ∨ b.phaseReady = false ∨ s.dbu.phase = .opened))
    ∧ (∃ (k : Nat) (b : BeaconFields) (s : State),
        s.rstLow = false ∧ Hears s k ∧ ViewIdle s ∧ s.dbu.learned = true ∧ b.epoch = s.dbu.epoch
        ∧ b.epoch < 256 ∧ s.dbu.phase = .ready ∧ b.phaseReady = true ∧ b.limitLocal = false
        ∧ b.limit ≠ s.dbu.limit ∧ s.pst.strand.limitSource = .line ∧ s.dbu.mismatch = false) :=
  ⟨⟨3, station, by decide⟩,
   ⟨0, station.beaconFields, learned station, by decide⟩,
   ⟨0, { station.beaconFields with limit := 999 }, learned station, by decide⟩⟩

theorem witness_tundish_events_and_repairs_move_the_epoch :
    (∃ (k : Nat) (e : Nat) (s : State),
        s.rstLow = false ∧ Hears s k ∧ newerEpoch e s.dbu.epoch = true)
    ∧ (∃ (e : Nat) (n : Nat) (m : Nat) (s : State),
        s.rstLow = false
        ∧ s.lnc.tx = some { sent := m, frame := { station := n, body := .eventBegin e } }
        ∧ newerEpoch e s.dbu.epoch = true)
    ∧ (∃ (k : Nat) (e : Nat) (s : State),
        s.rstLow = false ∧ Hears s k ∧ newerEpoch e s.dbu.epoch = false)
    ∧ (∃ (k : Nat) (e : Nat) (s : State),
        s.rstLow = false ∧ Hears s k ∧ (e = s.dbu.epoch ∨ newerEpoch e s.dbu.epoch = true))
    ∧ (∃ (e : Nat) (l : Nat) (n : Nat) (m : Nat) (s : State),
        s.rstLow = false
        ∧ s.lnc.tx = some { sent := m, frame := { station := n, body := .eventReady e l } }
        ∧ (e = s.dbu.epoch ∨ newerEpoch e s.dbu.epoch = true))
    ∧ (∃ (k : Nat) (e : Nat) (s : State),
        s.rstLow = false ∧ Hears s k ∧ e ≠ s.dbu.epoch ∧ newerEpoch e s.dbu.epoch = false)
    ∧ (∃ (k : Nat) (e : Nat) (b : BeaconFields) (s : State),
        s.rstLow = false ∧ Hears s k ∧ s.dbu.learned = true ∧ newerEpoch e s.dbu.epoch = true
        ∧ b.epoch = e ∧ b.phaseReady = false)
    ∧ (∃ (k : Nat) (s : State), s.rstLow = false ∧ Hears s k ∧ s.dbu.learned = false)
    ∧ (∃ (k : Nat) (b : BeaconFields) (s : State),
        s.rstLow = false ∧ Hears s k ∧ s.dbu.learned = true ∧ b.phaseReady = true
        ∧ (newerEpoch b.epoch s.dbu.epoch = true ∨ (b.epoch = s.dbu.epoch
          ∧ s.dbu.phase = .opened))) :=
  ⟨⟨3, 127, station, by decide⟩,
   ⟨1, 2, 9, sending (.eventBegin 1), by decide⟩,
   ⟨3, 128, station, by decide⟩,
   ⟨3, 0, station, by decide⟩,
   ⟨127, 0, 2, 9, sending (.eventReady 127 0), by decide⟩,
   ⟨3, 255, station, by decide⟩,
   ⟨3, 1, { station.beaconFields with epoch := 1, phaseReady := false }, learned station,
      by decide⟩,
   ⟨3, station, by decide⟩,
   ⟨3, { station.beaconFields with epoch := 1 }, learned station, by decide⟩⟩

theorem witness_peer_claims_are_entered_removed_and_lapse :
    (∃ (k : Nat) (s : State),
        s.rstLow = false ∧ Hears s k
        ∧ (s.dbu.claim = .none ∨ s.dbu.claim = .sent ∨ (s.dbu.claim ≠ .contending
          ∧ s.lnc.line ≠ .active)))
    ∧ (∃ (k : Nat) (s : State), s.rstLow = false ∧ Hears s k ∧ s.dbu.claim = .contending)
    ∧ (∃ (k : Nat) (s : State), s.rstLow = false ∧ Hears s k ∧ ViewIdle s)
    ∧ (∃ (k : Nat) (kind : ClaimKind) (s : State),
        s.rstLow = false ∧ s.pvu.claims.any (lapsed s.now k kind) = true ∧ ViewIdle s)
    ∧ (∃ (k : Nat) (n : Nat) (s : State),
        s.rstLow = false ∧ Hears s k ∧ s.dbu.claim = .none ∧ s.ssu.claim = .waiting
        ∧ s.pvu.claims.any (withdrawnBy k .start n) = true)
    ∧ (∃ (k : Nat) (need : Nat) (s : State),
        s.rstLow = false ∧ Hears s k ∧ s.lnc.line = .active
        ∧ (s.dbu.claim = .waiting ∨ s.dbu.claim = .holdoff) ∧ s.dbu.need = some need)
    ∧ (∃ (k : Nat) (s : State),
        s.rstLow = false ∧ s.pvu.claims.any (lapsed s.now k .start) = true ∧ s.dbu.claim = .none
        ∧ s.ssu.claim = .waiting)
    ∧ (∃ (k : Fin 8) (m : Moment) (s : State),
        s.rstLow = false ∧ s.pvu.peers[k].status = .suspect ∧ s.pvu.peers[k].lastBeacon = some m
        ∧ s.pst.strand.lossCount * (s.pvu.peers[k].periodCode * 10) < ageAt s.now m
        ∧ s.dbu.claim = .none ∧ s.ssu.claim = .waiting
        ∧ (s.ssu.holder = some k.val
          ∨ s.pvu.claims.any (fun e => !e.isOwn && decide (e.station = k.val
          ∧ e.kind = .start)) = true))
    ∧ (∃ (k : Nat) (b : BeaconFields) (s : State),
        s.rstLow = false ∧ Hears s k ∧ s.dbu.claim = .none ∧ s.ssu.claim = .waiting
        ∧ b.slotHeld = false
        ∧ (s.ssu.holder = some k ∨ s.pvu.claims.any (fun e => !e.isOwn && decide (e.station = k
          ∧ e.kind = .start ∧ e.number = b.settledStart)) = true)
        ∧ s.dbu.learned = true ∧ b.epoch = s.dbu.epoch ∧ b.epoch < 256
        ∧ (s.dbu.phase = .ready ∨ b.phaseReady = false)) :=
  ⟨⟨3, station, by decide⟩,
   ⟨3, contended restart, by decide⟩,
   ⟨3, listed station, by decide⟩,
   ⟨3, .start, listed station, by decide⟩,
   ⟨3, 15, waits (listed station), by decide⟩,
   ⟨3, 79, onDbu restart fun d => { d with claim := .holdoff, need := some 79 }, by decide⟩,
   ⟨3, waits (listed station), by decide⟩,
   ⟨3, 9199, onSsu (waits (heardFrom .suspect 9199)) fun u => { u with holder := some 3 },
      by decide⟩,
   ⟨3, { station.beaconFields with settledStart := 15 }, learned (waits (listed station)),
      by decide⟩⟩

theorem witness_release_and_clear_act_on_view_and_tenure :
    (∃ (k : Fin 8) (s : State),
        s.rstLow = false ∧ Hears s k ∧ (s.dbu.claim = .none ∨ s.dbu.claim = .sent)
        ∧ (s.ssu.claim ≠ .waiting ∨ s.ssu.holder ≠ some k.val))
    ∧ (∃ (k : Fin 8) (s : State),
        s.rstLow = false ∧ Hears s k ∧ (s.dbu.claim = .none ∨ s.dbu.claim = .sent)
        ∧ s.ssu.claim = .waiting ∧ s.ssu.holder = some k.val ∧ s.startTopRanked = true)
    ∧ (∃ (k : Nat) (target : Nat) (s : State),
        s.rstLow = false ∧ Hears s k ∧ target = s.ownStation ∧ s.ssu.tenure = true
        ∧ s.drvReady = true ∧ s.ssu.claim = .none)
    ∧ (∃ (k : Nat) (target : Nat) (s : State),
        s.rstLow = false ∧ Hears s k ∧ target = s.ownStation ∧ s.ssu.tenure = true
        ∧ s.drvReady = false)
    ∧ (∃ (k : Nat) (target : Nat) (s : State),
        s.rstLow = false ∧ Hears s k ∧ (target ≠ s.ownStation ∨ s.ssu.tenure = false)) :=
  ⟨⟨3, onSsu station fun u => { u with holder := some 3 }, by decide⟩,
   ⟨3, onSsu station fun u => { u with holder := some 3, claim := .waiting }, by decide⟩,
   ⟨3, 2, holding, by decide⟩,
   ⟨3, 2, notReady holding, by decide⟩,
   ⟨3, 255, holding, by decide⟩⟩

theorem witness_bad_frames_duplicates_and_silent_peers_act :
    (∃ (bytes : List Byte) (fault : Bool) (s : State),
        s.rstLow = false ∧ s.lnc.line ≠ .off ∧ s.lnc.synced = true ∧ bytes ≠ []
        ∧ validFrame s.strandCount bytes fault = none
        ∧ (s.lnc.line ≠ .active ∨ min 255 (s.lnc.deafCount + 4) < s.pst.strand.deafThreshold))
    ∧ (∃ (bytes : List Byte) (fault : Bool) (s : State),
        s.rstLow = false ∧ s.lnc.synced = true ∧ bytes ≠ []
        ∧ validFrame s.strandCount bytes fault = none ∧ s.lnc.line = .active
        ∧ s.pst.strand.deafThreshold ≤ min 255 (s.lnc.deafCount + 4))
    ∧ (∃ (s : State),
        s.rstLow = false ∧ s.lnc.synced = true
        ∧ (s.lnc.line = .listen ∨ s.lnc.line = .active ∨ s.lnc.line = .deaf))
    ∧ (∃ (c : Instr) (k : Nat) (s : State),
        s.rstLow = false ∧ frameSender c = some k ∧ k < s.strandCount ∧ k ≠ s.ownStation
        ∧ s.lnc.line ≠ .off ∧ s.lnc.synced = false)
    ∧ (∃ (bytes : List Byte) (fault : Bool) (s : State),
        s.rstLow = false ∧ s.lnc.line ≠ .off ∧ s.lnc.synced = false ∧ bytes ≠ []
        ∧ validFrame s.strandCount bytes fault = none)
    ∧ (∃ (s : State),
        s.rstLow = false ∧ s.lnc.synced = false
        ∧ (s.lnc.line = .listen ∨ s.lnc.line = .active ∨ s.lnc.line = .deaf))
    ∧ (∃ (k : Fin 8) (m : Moment) (s : State),
        s.rstLow = false ∧ s.pvu.peers[k].status = .live ∧ s.pvu.peers[k].lastBeacon = some m
        ∧ 3 * (s.pvu.peers[k].periodCode * 10) < 2 * (ageAt s.now m)
        ∧ (s.dbu.claim = .none ∨ s.dbu.claim = .sent))
    ∧ (∃ (k : Fin 8) (m : Moment) (s : State),
        s.rstLow = false ∧ s.pvu.peers[k].status = .suspect ∧ s.pvu.peers[k].lastBeacon = some m
        ∧ s.pst.strand.lossCount * (s.pvu.peers[k].periodCode * 10) < ageAt s.now m ∧ ViewIdle s) :=
  ⟨⟨[0x41], false, onLnc station fun l => { l with deafCount := 27 }, by decide⟩,
   ⟨[0x41], false, onLnc station fun l => { l with deafCount := 28 }, by decide⟩,
   ⟨onLnc station fun l => { l with line := .listen }, by decide⟩,
   ⟨.releaseReceived 3 .creep, 3, searching, by decide⟩,
   ⟨[0x41], false, searching, by decide⟩,
   ⟨searching, by decide⟩,
   ⟨3, 9699, heardFrom .live 9699, by decide⟩,
   ⟨3, 9199, heardFrom .suspect 9199, by decide⟩⟩

end Sys2Proof.Tests
end

section
/-! SUPPORT. The draw of a speed and the highest speed of a draw (R49, R50), and the speed law of R51 kept
by every step. Every operation but stop entry, the ramp's two moves and the ends of authority keeps the
speed, AUTH and the Profile Store and lowers no G (`SpeedKept`); stop entry grants the draw of the speed it
sets, the ramp moves S within the draw, and a station at rest obeys the law with any G. -/

namespace Sys2Proof.Machine

/-! ### Draw of a speed (R49, R50) -/

/-- A speed whose draw is granted needs no more than the draw gives, whatever the section mass. -/
theorem mul_le_of_le_speedMax {mass granted speed : Nat} (h : speed ≤ speedMax mass granted) :
    speed * mass ≤ granted * 1000 :=
  Nat.mul_le_of_le_div mass speed (granted * 1000) (h.trans (Nat.min_le_right _ _))

theorem le_speedMax_iff {mass : Nat} (granted : Nat) {speed : Nat} (hm : 0 < mass)
    (hs : speed ≤ Config.maxSpeed) : speed ≤ speedMax mass granted ↔ speed * mass ≤ granted * 1000 := by
  rw [speedMax, Nat.le_min, Nat.le_div_iff_mul_le hm, and_iff_right hs]

theorem speedMax_mono (mass : Nat) {g h : Nat} (hgh : g ≤ h) : speedMax mass g ≤ speedMax mass h := by
  have hdiv : g * 1000 / mass ≤ h * 1000 / mass := Nat.div_le_div_right (Nat.mul_le_mul_right 1000 hgh)
  exact min_le_min_left Config.maxSpeed hdiv

theorem mul_le_drawOf (mass speed : Nat) : speed * mass ≤ drawOf mass speed * 1000 := by
  unfold drawOf
  omega

theorem drawOf_lt (mass speed : Nat) : drawOf mass speed * 1000 < speed * mass + 1000 := by
  unfold drawOf
  omega

theorem drawOf_le_iff (mass speed granted : Nat) :
    drawOf mass speed ≤ granted ↔ speed * mass ≤ granted * 1000 := by
  unfold drawOf
  omega

/-- Settles O8: the quotient of S_max turns S ≤ S_max(G) into S × M ≤ G × 1000, and so does the rounding
up of D for D(S) ≤ G. -/
theorem drawAndHighestSpeedAgree : Obligations.draw_and_highest_speed_agree := by
  intro mass hlow _
  have hm : 0 < mass := by omega
  refine ⟨by simp [speedMax], fun _ => rfl, fun _ _ => speedMax_mono mass, ?_, ?_, ?_⟩
  · exact fun g speed hs => ⟨le_speedMax_iff g hm hs, (drawOf_le_iff mass speed g).symm⟩
  · exact fun speed hs => (le_speedMax_iff _ hm hs).mpr (mul_le_drawOf mass speed)
  · exact fun speed => ⟨drawOf_lt mass speed, mul_le_drawOf mass speed⟩

/-! ### The speed law and what keeps it (R51) -/

/-- The speed law with the range of hold speeds that stop entry needs. -/
structure SpeedSafe (s : State) : Prop where
  law : SpeedLaw s
  holds : HoldSpeedsBounded s

/-- From `s` to `t` the speed, AUTH and the Profile Store stay, and G does not fall. -/
structure SpeedKept (s t : State) : Prop where
  pst : t.pst = s.pst
  speed : t.rsq.speed = s.rsq.speed
  auth : t.auth = s.auth
  granted : s.dbu.granted ≤ t.dbu.granted

theorem State.auth_of_state {s : State} {q : SeqState} (h : s.rsq.state = q) :
    s.auth = hasAuthority q := by
  rw [State.auth, h]

theorem State.auth_congr {s t : State} (h : t.rsq.state = s.rsq.state) : t.auth = s.auth := by
  simp [State.auth, h]

namespace SpeedKept

variable {s t u : State}

theorem refl (s : State) : SpeedKept s s := ⟨rfl, rfl, rfl, Nat.le_refl _⟩

theorem trans (h : SpeedKept s t) (k : SpeedKept t u) : SpeedKept s u :=
  ⟨k.pst.trans h.pst, k.speed.trans h.speed, k.auth.trans h.auth, h.granted.trans k.granted⟩

/-- What touches none of the four fields that the law reads. -/
theorem of_fields (h : t.pst = s.pst ∧ t.rsq.speed = s.rsq.speed ∧ t.rsq.state = s.rsq.state
    ∧ t.dbu.granted = s.dbu.granted) : SpeedKept s t := by
  obtain ⟨hpst, hspeed, hstate, hgranted⟩ := h
  exact ⟨hpst, hspeed, State.auth_congr hstate, hgranted.ge⟩

theorem safe (k : SpeedKept s t) (h : SpeedSafe s) : SpeedSafe t := by
  obtain ⟨⟨hon, hoff, hmax⟩, hholds⟩ := h
  obtain ⟨hpst, hspeed, hauth, hgranted⟩ := k
  refine ⟨⟨fun ha => ?_, fun ha => ?_, ?_⟩, ?_⟩
  · rw [hspeed, hpst]
    exact (hon (hauth ▸ ha)).trans (Nat.mul_le_mul_right 1000 hgranted)
  · rw [hspeed, hoff (hauth ▸ ha)]
  · rwa [hspeed]
  · rwa [HoldSpeedsBounded, hpst]

end SpeedKept

namespace SpeedSafe

variable {s t : State}

/-- What touches none of the four fields that the law reads leaves a safe state safe. -/
theorem of_fields (h : SpeedSafe s)
    (hfields : t.pst = s.pst ∧ t.rsq.speed = s.rsq.speed ∧ t.rsq.state = s.rsq.state
      ∧ t.dbu.granted = s.dbu.granted) : SpeedSafe t :=
  (SpeedKept.of_fields hfields).safe h

/-- A station at rest obeys the law, whatever its state and its G. -/
theorem of_rest (hrest : t.rsq.speed = 0) (h : HoldSpeedsBounded t) : SpeedSafe t :=
  ⟨⟨fun _ => by simp [hrest], fun _ => hrest, by simp [hrest]⟩, h⟩

theorem rest (h : SpeedSafe s) (ha : s.auth = false) : s.rsq.speed = 0 := by
  obtain ⟨-, hoff, -⟩ := h.law
  exact hoff ha

theorem holds_of_pst (h : SpeedSafe s) (hpst : t.pst = s.pst) : HoldSpeedsBounded t := by
  rw [HoldSpeedsBounded, hpst]
  exact h.holds

/-- R53 to R56: with authority S may fall, and may rise as far as S_max(G). -/
theorem withSpeed (h : SpeedSafe s) (ha : s.auth = true) {n : Nat}
    (hn : n ≤ s.rsq.speed ∨ n ≤ s.speedMax) :
    SpeedSafe { s with rsq := { s.rsq with speed := n } } := by
  obtain ⟨⟨hon, -, hmax⟩, hholds⟩ := h
  refine ⟨⟨fun _ => ?_, fun hoff => ?_, ?_⟩, hholds⟩
  · cases hn with
    | inl hfall => exact (Nat.mul_le_mul_right _ hfall).trans (hon ha)
    | inr hrise => exact mul_le_of_le_speedMax hrise
  · exact absurd (ha.symm.trans hoff) (by decide)
  · cases hn with
    | inl hfall => exact hfall.trans hmax
    | inr hrise => exact hrise.trans (Nat.min_le_left _ _)

end SpeedSafe

/-! ### Own claims, the first point and the slot -/

theorem soloRaise_speedKept (need : Nat) (s : State) : SpeedKept s (soloRaise need s) := by
  refine ⟨by simp, by simp, State.auth_congr (by simp), ?_⟩
  unfold soloRaise
  dsimp only
  split
  · next h => simpa using h.le
  · simp

theorem giveNeed_speedKept (need : Nat) (s : State) : SpeedKept s (giveNeed need s) := by
  unfold giveNeed
  split
  case h_1 => split <;> exact .of_fields (by simp)
  case h_2 => exact .of_fields (by simp)
  case h_3 | h_4 => exact soloRaise_speedKept need s
  case h_5 => exact .refl s

theorem drawLineLost_speedKept (s : State) : SpeedKept s (drawLineLost s) := by
  unfold drawLineLost
  dsimp only
  split
  · refine .trans ?_ (soloRaise_speedKept _ _)
    split
    · exact .of_fields (by simp)
    · exact .refl s
  · split <;> exact .of_fields (by simp)

theorem enterRamping_state (s : State) : (enterRamping s).rsq.state = .ramping := by
  unfold enterRamping
  simp

theorem enterRamping_speedKept {s : State} (ha : s.auth = true) : SpeedKept s (enterRamping s) :=
  ⟨by simp, by simp, (State.auth_of_state (enterRamping_state s)).trans ha.symm, by simp⟩

theorem firstPointTest_speedKept (s : State) : SpeedKept s (firstPointTest s) := by
  unfold firstPointTest
  split
  case isFalse => exact .refl s
  case isTrue h =>
    obtain ⟨hqueued, -⟩ := h
    have ha : s.auth = true := State.auth_of_state hqueued
    split
    · exact enterRamping_speedKept ha
    split
    · exact .refl s
    have hneed := giveNeed_speedKept (s.drawOf s.firstTarget - s.dbu.granted) s
    dsimp only
    split
    · exact hneed.trans (enterRamping_speedKept (hneed.auth.trans ha))
    · exact hneed

theorem driveTest_speedKept (s : State) : SpeedKept s (driveTest s) := by
  unfold driveTest
  split
  · exact .trans (.of_fields (by simp)) (firstPointTest_speedKept _)
  · exact .refl s

theorem takeSlot_speedKept (settled : Nat) (s : State) : SpeedKept s (takeSlot settled s) :=
  .trans (.of_fields (by simp)) (driveTest_speedKept _)

theorem actOnRequest_speedKept (s : State) : SpeedKept s (actOnRequest s) := by
  unfold actOnRequest
  split
  case isFalse => exact .refl s
  case isTrue =>
    split
    case h_1 => exact .of_fields (by simp)
    case h_2 | h_3 =>
      split
      · exact takeSlot_speedKept _ s
      · exact .refl s
    case h_4 | h_5 => exact .refl s

theorem selfTakeTest_speedKept (s : State) : SpeedKept s (selfTakeTest s) := by
  unfold selfTakeTest
  split
  case h_1 | h_2 => exact actOnRequest_speedKept s
  case h_3 | h_4 | h_5 => exact .refl s

/-! ### STOPPED, QUEUED and the stop events -/

theorem enterQueued_speedKept {s : State} (ha : s.auth = true) : SpeedKept s (enterQueued s) := by
  have hqueued : SpeedKept s
      (refreshUrgency (requestBeacon { s with rsq := { s.rsq with state := .queued } })) :=
    ⟨by simp, by simp, (State.auth_of_state (q := .queued) (by simp)).trans ha.symm, by simp⟩
  unfold enterQueued
  dsimp only
  split
  · exact hqueued.trans (driveTest_speedKept _)
  · exact hqueued.trans (.trans (.of_fields (by simp)) (actOnRequest_speedKept _))

theorem returnToStopped_speedKept {s : State} (ha : s.auth = true) :
    SpeedKept s (returnToStopped s) := by
  unfold returnToStopped
  exact ⟨by simp, by simp, (State.auth_of_state (q := .stopped) (by simp)).trans ha.symm, by simp⟩

theorem evalPreconditions_speedKept (s : State) : SpeedKept s (evalPreconditions s) := by
  unfold evalPreconditions
  split
  case h_1 hstopped =>
    split
    · exact enterQueued_speedKept (State.auth_of_state hstopped)
    · exact .refl s
  case h_2 hqueued =>
    split
    · exact .refl s
    · exact returnToStopped_speedKept (State.auth_of_state hqueued)
  all_goals exact .refl s

theorem entryOf_holdSpeed_le {s : State} (h : HoldSpeedsBounded s) (c : Option Cause) :
    (s.entryOf c).holdSpeed ≤ Config.maxSpeed := by
  cases c with
  | none => exact Nat.zero_le _
  | some c => exact h c (by cases c <;> decide)

/-- R7: stop entry sets S to a hold speed and G to its draw, so the law holds after it whatever it was
before. -/
theorem stopEntry_speedSafe (c : Cause) (before : State) {s : State} (h : HoldSpeedsBounded s)
    (ha : s.auth = true) : SpeedSafe (stopEntry c before s) := by
  obtain ⟨hspeed, hgranted, -, hstate, -⟩ := stopEntry_does c before s
  have hpst : (stopEntry c before s).pst = s.pst := by simp
  refine ⟨⟨fun _ => ?_, fun hoff => ?_, ?_⟩, ?_⟩
  · rw [hspeed, hgranted, hpst]
    exact mul_le_drawOf _ _
  · rw [State.auth_congr hstate, ha] at hoff
    cases hoff
  · rw [hspeed]
    exact entryOf_holdSpeed_le h _
  · rwa [HoldSpeedsBounded, hpst]

theorem stopEvent_speedSafe (c : Cause) (epoch : Option Nat) {s : State} (h : SpeedSafe s) :
    SpeedSafe (stopEvent c epoch s) := by
  have hstop : ∀ t : State, t.pst = s.pst → t.rsq.state = .stopped →
      SpeedSafe (evalPreconditions (stopEntry c s t)) := fun t hpst hstate =>
    (evalPreconditions_speedKept _).safe
      (stopEntry_speedSafe c s (h.holds_of_pst hpst) (State.auth_of_state hstate))
  unfold stopEvent
  split
  case h_1 | h_2 | h_3 => exact h
  case h_4 | h_5 | h_6 | h_7 | h_8 => exact hstop _ (by simp) rfl

/-! ### Authority given up, ABANDONED and HANDBACK -/

theorem giveUpAuthority_speedSafe (target : SeqState) {s : State} (h : HoldSpeedsBounded s) :
    SpeedSafe (giveUpAuthority target s) := by
  refine .of_rest (by simp) ?_
  simpa [HoldSpeedsBounded] using h

theorem enterAbandoned_speedSafe {s : State} (h : HoldSpeedsBounded s) : SpeedSafe (enterAbandoned s) := by
  refine .of_rest (by simp) ?_
  simpa [HoldSpeedsBounded] using h

theorem enterHandback_speedKept {s : State} (ha : s.auth = true) : SpeedKept s (enterHandback s) :=
  ⟨by simp, by simp, (State.auth_of_state (q := .handback) (by simp)).trans ha.symm, by simp⟩

/-- R78: G follows the metal speed only where the station has no authority and S is 0. -/
theorem trackFeedback_speedSafe {s : State} (h : SpeedSafe s) (ha : s.auth = false) :
    SpeedSafe (trackFeedback s) :=
  .of_rest (by simpa using h.rest ha) (h.holds_of_pst (by simp))

/-! ### The ramp tick -/

theorem completePoint_speedKept {s : State} (ha : s.auth = true) : SpeedKept s (completePoint s) := by
  unfold completePoint
  dsimp only
  split
  · split <;> exact .of_fields (by simp)
  · split
    · exact .trans (.of_fields (by simp)) (enterHandback_speedKept ha)
    · exact .of_fields (by simp)

theorem atTargetStep_speedKept {s : State} (ha : s.auth = true) : SpeedKept s (atTargetStep s) := by
  unfold atTargetStep
  dsimp only
  split
  case isFalse => exact .of_fields (by simp)
  case isTrue =>
    split
    · exact .of_fields (by simp)
    · exact .trans (.of_fields (by simp)) (completePoint_speedKept ha)

/-- R54, R55: the rising step stays at or below S_max(G). -/
theorem risingStep_speedSafe {s : State} (h : SpeedSafe s) (ha : s.auth = true) :
    SpeedSafe (risingStep s) := by
  have hmove := h.withSpeed ha
    (n := min (s.rsq.speed + s.currentPoint.slew) (min s.target s.speedMax))
    (.inr ((Nat.min_le_right _ _).trans (Nat.min_le_right _ _)))
  unfold risingStep
  dsimp only
  split
  · split
    · exact hmove
    · exact (giveNeed_speedKept _ _).safe hmove
  · exact hmove.of_fields (by simp)

/-- R56: the falling step goes down to a target below S. -/
theorem fallingStep_speedSafe {s : State} (h : SpeedSafe s) (ha : s.auth = true)
    (hfall : s.target < s.rsq.speed) : SpeedSafe (fallingStep s) := by
  have hmove := h.withSpeed ha (n := max (s.rsq.speed - s.currentPoint.slew) s.target)
    (.inl (Nat.max_le.mpr ⟨Nat.sub_le _ _, hfall.le⟩))
  unfold fallingStep
  exact hmove.of_fields (by simp)

theorem rampStep_speedSafe {s : State} (h : SpeedSafe s) (ha : s.auth = true) : SpeedSafe (rampStep s) := by
  unfold rampStep
  split
  · exact risingStep_speedSafe h ha
  split
  · next hfall => exact fallingStep_speedSafe h ha hfall
  · have hdrop : SpeedKept s (dropHeldNeed s) := .of_fields (by simp)
    exact (hdrop.trans (atTargetStep_speedKept (hdrop.auth.trans ha))).safe h

theorem takeTick_speedSafe {s : State} (h : SpeedSafe s) : SpeedSafe (takeTick s) := by
  have htaken : SpeedSafe { s with rsq := { s.rsq with tickTaken := true } } := h.of_fields (by simp)
  unfold takeTick
  dsimp only
  split
  · next hramping => exact (rampStep_speedSafe htaken (State.auth_of_state hramping)).of_fields (by simp)
  · exact htaken.of_fields (by simp)

/-! ### Tundish events -/

theorem takeBegin_speedSafe (epoch : Nat) {s : State} (h : SpeedSafe s) :
    SpeedSafe (takeBegin epoch s) := by
  have hopened : SpeedSafe { s with dbu := { s.dbu with
      epoch := epoch, phase := .opened, learned := true, mismatch := false } } := h.of_fields (by simp)
  unfold takeBegin
  split
  · exact (stopEvent_speedSafe .tundish (some epoch) hopened).of_fields (by simp)
  · exact h

theorem takeReady_speedKept (epoch : Nat) (l : Option Nat) (s : State) :
    SpeedKept s (takeReady epoch l s) := by
  unfold takeReady
  split
  · exact .trans (.of_fields (by simp)) (evalPreconditions_speedKept _)
  split
  · exact .trans (.of_fields (by simp)) (evalPreconditions_speedKept _)
  · exact .refl s

theorem takeReadyEvent_speedKept (epoch limit : Nat) (s : State) :
    SpeedKept s (takeReadyEvent epoch limit s) := by
  have hready := takeReady_speedKept epoch (some limit) s
  unfold takeReadyEvent
  dsimp only
  split
  · exact hready
  · exact hready.trans (.of_fields (by simp))

theorem adoptEpoch_speedKept (b : BeaconFields) (s : State) : SpeedKept s (adoptEpoch b s) :=
  .trans (.of_fields (by simp)) (evalPreconditions_speedKept _)

theorem repairTundish_speedSafe (b : BeaconFields) {s : State} (h : SpeedSafe s) :
    SpeedSafe (repairTundish b s) := by
  unfold repairTundish
  split
  · exact (adoptEpoch_speedKept b s).safe h
  split
  · split
    · exact (takeReady_speedKept _ _ s).safe h
    · exact takeBegin_speedSafe _ h
  split
  · exact (takeReady_speedKept _ _ s).safe h
  · exact h

/-! ### The line -/

theorem changeLine_speedKept (new : LineState) (s : State) : SpeedKept s (changeLine new s) := by
  have hdraw : ∀ t : State, SpeedKept t (drawLineChange new t) := fun t => by
    unfold drawLineChange
    split
    case h_1 => exact .of_fields (by simp)
    case h_2 | h_3 => exact drawLineLost_speedKept t
    case h_4 | h_5 => exact .refl t
  have hstart : ∀ t : State, SpeedKept t (startLineChange new t) := fun t => by
    unfold startLineChange
    split
    case h_1 => exact actOnRequest_speedKept t
    case h_2 | h_3 => exact .trans (.of_fields (by simp)) (actOnRequest_speedKept _)
    case h_4 | h_5 => exact .refl t
  have hnotify : SpeedKept s (notify .lineChanged { s with lnc := { s.lnc with line := new } }) :=
    .of_fields (by simp)
  unfold changeLine
  exact hnotify.trans ((hdraw _).trans ((hstart _).trans
    ((firstPointTest_speedKept _).trans (.of_fields (by simp)))))

theorem goDeaf_speedKept (detail : Nat) (s : State) : SpeedKept s (goDeaf detail s) :=
  .trans (.of_fields (by simp)) (changeLine_speedKept .deaf _)

theorem endListen_speedKept (s : State) : SpeedKept s (endListen s) := by
  unfold endListen
  dsimp only
  split
  · exact .trans (.of_fields (by simp)) (goDeaf_speedKept _ _)
  · exact .trans (.of_fields (by simp)) (changeLine_speedKept _ _)

theorem receivePeer_speedKept (s : State) : SpeedKept s (receivePeer s) := by
  unfold receivePeer
  dsimp only
  split
  · exact .of_fields (by simp)
  split
  · exact .trans (.of_fields (by simp)) (changeLine_speedKept _ _)
  · exact .of_fields (by simp)

theorem takeBadFrame_speedKept (s : State) : SpeedKept s (takeBadFrame s) := by
  unfold takeBadFrame
  dsimp only
  split
  · exact .of_fields (by simp)
  split
  · exact .trans (.of_fields (by simp)) (goDeaf_speedKept _ _)
  · exact .of_fields (by simp)

theorem enterBarred_speedKept (kind : FrameKind) (s : State) : SpeedKept s (enterBarred kind s) :=
  .trans (.of_fields (by simp)) (changeLine_speedKept _ _)

theorem takeOwnClaim_speedKept (c : ClaimFields) (s : State) : SpeedKept s (takeOwn (.claim c) s) := by
  obtain ⟨kind, number, _, _, _, _⟩ := c
  cases kind with
  | draw =>
    show SpeedKept s (drawSent number s)
    unfold drawSent
    split <;> exact .of_fields (by simp)
  | start =>
    show SpeedKept s (startSent number s)
    unfold startSent
    split <;> exact .of_fields (by simp)

theorem takeOwn_speedSafe (body : FrameBody) {s : State} (h : SpeedSafe s) :
    SpeedSafe (takeOwn body s) := by
  cases body with
  | beacon _ =>
    unfold takeOwn
    exact h.of_fields (by simp)
  | claim c => exact (takeOwnClaim_speedKept c s).safe h
  | withdraw _ _ | release _ | clear _ => exact h
  | eventBegin epoch => exact takeBegin_speedSafe epoch h
  | eventReady epoch limit => exact (takeReadyEvent_speedKept epoch limit s).safe h

theorem frameTaken_speedSafe {f : State → State} {s : State} (h : SpeedSafe s) (hf : SpeedSafe (f s)) :
    SpeedSafe (frameTaken f s) := by
  unfold frameTaken
  split
  · exact hf
  · exact h.of_fields (by simp)

/-! ### Beacons, peers and claims -/

@[simp] theorem setPeer_keeps (k : Nat) (e : PeerEntry) (s : State) :
    (setPeer k e s).pst = s.pst ∧ (setPeer k e s).rsq = s.rsq ∧ (setPeer k e s).dbu = s.dbu :=
  ⟨rfl, rfl, rfl⟩

@[simp] theorem removeClaims_keeps (gone : ClaimEntry → Bool) (s : State) :
    (removeClaims gone s).pst = s.pst ∧ (removeClaims gone s).rsq = s.rsq
    ∧ (removeClaims gone s).dbu = s.dbu :=
  ⟨rfl, rfl, rfl⟩

theorem takeBeacon_speedSafe (station : Nat) (b : BeaconFields) {s : State} (h : SpeedSafe s) :
    SpeedSafe (takeBeacon station b s) := by
  have hentry : SpeedSafe (takeBeaconEntry station b s) := by
    unfold takeBeaconEntry
    exact h.of_fields (by simp)
  have hholder : SpeedSafe (beaconHolder station b (takeBeaconEntry station b s)) := by
    unfold beaconHolder
    split
    · exact hentry.of_fields (by simp)
    split
    · exact hentry.of_fields (by simp)
    · exact hentry
  have hdraw : ∀ t, SpeedSafe t → SpeedSafe (drawBeacon station b t) := fun t ht => by
    unfold drawBeacon
    exact (repairTundish_speedSafe b ht).of_fields (by simp)
  unfold takeBeacon
  dsimp only
  split
  · exact hdraw _ (hholder.of_fields (by simp))
  · exact hdraw _ hholder

theorem claimsLeave_speedSafe (gone : ClaimEntry → Bool) {s : State} (h : SpeedSafe s) :
    SpeedSafe (claimsLeave gone s) := by
  unfold claimsLeave
  dsimp only
  split <;> exact h.of_fields (by simp)

theorem takeRelease_speedSafe (station : Nat) (reason : ReleaseReason) {s : State} (h : SpeedSafe s) :
    SpeedSafe (takeRelease station reason s) := by
  unfold takeRelease
  dsimp only
  split <;> exact h.of_fields (by simp)

theorem takeClear_speedSafe (target : Nat) {s : State} (h : SpeedSafe s) :
    SpeedSafe (takeClear target s) := by
  unfold takeClear
  split
  · split <;> exact h.of_fields (by simp)
  · exact h

theorem goLost_speedSafe (k : Nat) {s : State} (h : SpeedSafe s) : SpeedSafe (goLost k s) := by
  have hlose : ∀ t, SpeedSafe t → SpeedSafe (loseHolder k t) := fun t ht => by
    unfold loseHolder
    split
    · exact ht.of_fields (by simp)
    · exact ht
  have hholder := hlose (removeClaims (claimOf k) (setPeer k { s.peer k with status := .lost } s))
    (h.of_fields (by simp))
  unfold goLost
  dsimp only
  split <;> exact hholder.of_fields (by simp)

theorem settleDraw_speedKept (s : State) : SpeedKept s (settleDraw s) :=
  ⟨by simp [settleDraw], by simp [settleDraw], State.auth_congr (by simp [settleDraw]),
    by simp [settleDraw]⟩

theorem settleStart_speedKept (s : State) : SpeedKept s (settleStart s) := by
  unfold settleStart startWaits
  split
  · exact takeSlot_speedKept _ s
  · exact .of_fields (by simp)

theorem tenureTimeout_speedSafe {s : State} (h : SpeedSafe s) : SpeedSafe (tenureTimeout s) := by
  have htimeout : ∀ n, SpeedSafe (startTimeout n s) := fun n => by
    unfold startTimeout
    exact h.of_fields (by simp)
  unfold tenureTimeout
  split
  · exact h.of_fields (by simp)
  split
  · exact (actOnRequest_speedKept _).safe (htimeout 1)
  · exact enterAbandoned_speedSafe (htimeout 2).holds

/-! ### Inputs and samples -/

theorem stampFault_speedSafe (before : State) {after : State} (h : SpeedSafe after) :
    SpeedSafe (stampFault before after) := by
  rw [stampFault_does]
  exact h.of_fields (by simp)

theorem giveEdge_speedSafe (i : Input) (rises : Bool) {s : State} (h : SpeedSafe s) :
    SpeedSafe (giveEdge i rises s) := by
  have hdrive : SpeedSafe (drvReadyRise s) := by
    have htest := (driveTest_speedKept s).safe h
    unfold drvReadyRise
    dsimp only
    split
    · exact htest.of_fields (by simp)
    · exact htest
  have heval := (evalPreconditions_speedKept s).safe h
  cases i with
  | supplyOk =>
    cases rises with
    | true => exact heval
    | false => exact stopEvent_speedSafe .dip none h
  | drvReady =>
    cases rises with
    | true => exact hdrive
    | false =>
      show SpeedSafe (if s.rsq.runReq && s.filtered .supplyOk then stopEvent .dip none s else s)
      split
      · exact stopEvent_speedSafe .dip none h
      · exact h
  | brkIn =>
    cases rises with
    | true => exact stopEvent_speedSafe .breakout none h
    | false => exact h
  | dummyIn => exact heval

theorem sampleInput_speedSafe (i : Input) (raw : Bool) {s : State} (h : SpeedSafe s) :
    SpeedSafe (sampleInput i raw s) := by
  unfold sampleInput
  dsimp only
  split
  · exact h.of_fields (by simp)
  · exact stampFault_speedSafe s (giveEdge_speedSafe i raw (h.of_fields (by simp)))

theorem giveFeedback_speedSafe {s : State} (h : SpeedSafe s) : SpeedSafe (giveFeedback s) := by
  have htenure : ∀ t, SpeedSafe t → SpeedSafe (tenureCreepTest t) := fun t ht => by
    unfold tenureCreepTest
    split
    · exact ht.of_fields (by simp)
    · exact ht
  unfold giveFeedback
  split
  case h_1 hs | h_2 hs => exact htenure _ (trackFeedback_speedSafe h (State.auth_of_state hs))
  all_goals exact htenure _ (h.of_fields (by simp))

theorem recordEnd_speedSafe (bytes : List Byte) (framingFault : Bool) {s : State} (h : SpeedSafe s) :
    SpeedSafe (recordEnd bytes framingFault s) := by
  unfold recordEnd
  dsimp only
  split
  · exact h.of_fields (by simp)
  split
  · exact giveFeedback_speedSafe (h.of_fields (by simp))
  · exact h.of_fields (by simp)

theorem goStale_speedSafe {s : State} (h : SpeedSafe s) : SpeedSafe (goStale s) := by
  unfold goStale
  dsimp only
  split <;> exact h.of_fields (by simp)

/-! ### JOIN, the loads and the resets -/

theorem joinLine_speedSafe {s : State} (h : SpeedSafe s) (hs : s.rsq.state = .unjoined) :
    SpeedSafe (joinLine s) := by
  refine .of_rest ?_ ?_
  · simpa [joinLine, State.atJoin] using h.rest (State.auth_of_state hs)
  · simpa [joinLine, State.atJoin, Pst.joined, HoldSpeedsBounded] using h.holds

theorem CauseEntry.holdSpeed_le {e : CauseEntry} {c : Cause} (h : e.inRange c = true) :
    e.holdSpeed ≤ Config.maxSpeed := by
  simp only [CauseEntry.inRange, Bool.and_eq_true, decide_eq_true_eq] at h
  obtain ⟨⟨⟨⟨⟨hhold, -⟩, -⟩, -⟩, -⟩, -⟩ := h
  exact hhold

theorem readCauseEntry_holdSpeed_le {p : Vector Byte 13} {c : Cause} {e : CauseEntry}
    (h : readCauseEntry p = some (c, e)) : e.holdSpeed ≤ Config.maxSpeed := by
  unfold readCauseEntry at h
  dsimp only at h
  split at h
  · split at h
    · next hr =>
      cases h
      exact CauseEntry.holdSpeed_le hr
    · cases h
  · cases h

/-- R45, R174: an entry in range put in the table leaves every hold speed in range. -/
theorem holdSpeeds_set {p : PerCause CauseEntry} {c : Cause} {e : CauseEntry}
    (hp : ∀ d ∈ allCauses, (p.get d).holdSpeed ≤ Config.maxSpeed) (he : e.holdSpeed ≤ Config.maxSpeed) :
    ∀ d ∈ allCauses, ((p.set c e).get d).holdSpeed ≤ Config.maxSpeed := by
  intro d hd
  by_cases hdc : d = c
  · rw [hdc, PerCause.get_set_same]
    exact he
  · rw [PerCause.get_set_ne p e hdc]
    exact hp d hd

theorem holdSpeeds_reset : ∀ c ∈ allCauses, (Pst.reset.causes.get c).holdSpeed ≤ Config.maxSpeed := by
  decide

/-! ### Outcomes -/

/-- Every next state of an outcome is safe. -/
structure SpeedSafeOutcome (o : Host.Outcome State Fault Refusal) : Prop where
  safe : ∀ t, o = .next t → SpeedSafe t

namespace SpeedSafeOutcome

variable {s : State} {code : Byte} {status : Status} {data : List Byte}

theorem next (h : SpeedSafe s) : SpeedSafeOutcome (.next s) := by
  constructor
  rintro t ⟨⟩
  exact h

theorem answer (h : SpeedSafe s) : SpeedSafeOutcome (.next (answer code status data s)) :=
  next (h.of_fields (by simp))

theorem occur {f : State → State} (h : SpeedSafe (f s)) : SpeedSafeOutcome (occur f s) :=
  next (stampFault_speedSafe s h)

/-- An occurrence that a command brings, and the reply to it. -/
theorem occurAnswer {f : State → State} (h : SpeedSafe (f s)) :
    SpeedSafeOutcome (Machine.occur (fun s => Machine.answer code status data (f s)) s) :=
  occur (h.of_fields (by simp))

/-- With RST_N low nothing changes, so only the effect with RST_N high has to be safe. -/
theorem released {o : Host.Outcome State Fault Refusal} (h : SpeedSafe s) (ho : SpeedSafeOutcome o) :
    SpeedSafeOutcome (released s o) := by
  unfold Machine.released
  split
  · exact next h
  · exact ho

end SpeedSafeOutcome

theorem whenever_speedSafe (c : Bool) {f : State → State} {s : State} (h : SpeedSafe s)
    (hf : SpeedSafe (f s)) : SpeedSafe (whenever c f s) := by
  cases c with
  | true => exact hf
  | false => exact h

/-- A row that is one occurrence where its occasion holds. -/
theorem SpeedSafeOutcome.occasion {c : Bool} {f : State → State} {s : State} (h : SpeedSafe s)
    (hf : SpeedSafe (f s)) : SpeedSafeOutcome (Machine.released s (Machine.occur (whenever c f) s)) :=
  .released h (.occur (whenever_speedSafe c h hf))

/-- A row of a line frame that is one occurrence where its occasion holds. -/
theorem SpeedSafeOutcome.frame {c : Bool} {f : State → State} {s : State} (h : SpeedSafe s)
    (hf : SpeedSafe (f s)) :
    SpeedSafeOutcome (Machine.released s (Machine.occur (whenever c (frameTaken f)) s)) :=
  .occasion h (frameTaken_speedSafe h hf)

/-! ### Rows -/

section

variable {s : State}

/-- R43, R176: a load and JOIN act in UNJOINED alone, where AUTH is deasserted and S is 0. -/
theorem SpeedSafeOutcome.unjoinedOnly {code : Byte} {o : Host.Outcome State Fault Refusal} (h : SpeedSafe s)
    (ho : s.rsq.state = .unjoined → SpeedSafeOutcome o) :
    SpeedSafeOutcome (Machine.released s
      (if s.rsq.state ≠ .unjoined then .next (Machine.answer code .refusedState [] s) else o)) := by
  refine .released h ?_
  split
  · exact .answer h
  · next hs => exact ho (not_not.mp hs)

theorem execLoadStrand_speedSafe (p : Vector Byte 25) (h : SpeedSafe s) :
    SpeedSafeOutcome (execLoadStrand p s) := by
  refine .unjoinedOnly h fun hs => ?_
  split
  · exact .answer (.of_rest (h.rest (State.auth_of_state hs)) h.holds)
  · exact .answer h

theorem execLoadCause_speedSafe (p : Vector Byte 13) (h : SpeedSafe s) :
    SpeedSafeOutcome (execLoadCause p s) := by
  refine .unjoinedOnly h fun hs => ?_
  split
  · next hread =>
    exact .answer (.of_rest (h.rest (State.auth_of_state hs))
      (holdSpeeds_set h.holds (readCauseEntry_holdSpeed_le hread)))
  · exact .answer h

theorem execLoadSlice_speedSafe (p : Vector Byte 41) (h : SpeedSafe s) :
    SpeedSafeOutcome (execLoadSlice p s) := by
  refine .unjoinedOnly h fun hs => ?_
  split
  · exact .answer (.of_rest (h.rest (State.auth_of_state hs)) h.holds)
  · exact .answer h

theorem execJoin_speedSafe (h : SpeedSafe s) : SpeedSafeOutcome (execJoin s) := by
  refine .unjoinedOnly h fun hs => ?_
  split
  · exact .answer h
  · exact .occurAnswer (joinLine_speedSafe h hs)

theorem moveIdle_speedSafe {target : SeqState} (h : SpeedSafe s) (ha : s.auth = false) :
    SpeedSafe (moveIdle target s) := by
  unfold moveIdle
  exact .of_rest (by simpa using h.rest ha) (h.holds_of_pst (by simp))

theorem execCast_speedSafe (h : SpeedSafe s) : SpeedSafeOutcome (execCast s) := by
  refine .released h ?_
  split
  · next hs => exact .answer (moveIdle_speedSafe h (State.auth_of_state hs))
  · exact .answer h

theorem execPark_speedSafe (h : SpeedSafe s) : SpeedSafeOutcome (execPark s) := by
  refine .released h ?_
  split
  case h_1 hs => exact .answer (moveIdle_speedSafe h (State.auth_of_state hs))
  case h_2 => exact .occurAnswer (giveUpAuthority_speedSafe .parked (h.holds_of_pst (by simp)))
  case h_3 => exact .occurAnswer (giveUpAuthority_speedSafe .parked h.holds)
  all_goals exact .answer h

theorem execTake_speedSafe (h : SpeedSafe s) : SpeedSafeOutcome (execTake s) := by
  refine .released h ?_
  split
  case h_1 | h_2 | h_3 => exact .occurAnswer (giveUpAuthority_speedSafe .watch (h.holds_of_pst (by simp)))
  case h_4 => exact .occurAnswer (giveUpAuthority_speedSafe .watch h.holds)
  case h_5 => exact .occurAnswer (giveUpAuthority_speedSafe .parked h.holds)
  all_goals exact .answer h

theorem execStop_speedSafe (code : Byte) (h : SpeedSafe s) : SpeedSafeOutcome (execStop code s) := by
  refine .released h ?_
  split
  · split
    · exact .occurAnswer (stopEvent_speedSafe _ none h)
    · exact .answer h
  · exact .answer h

theorem execRelease_speedSafe (h : SpeedSafe s) : SpeedSafeOutcome (execRelease s) := by
  have hlatched : SpeedSafe { s with rsq := { s.rsq with pendingSet := latchAll s.rsq.pendingSet } } :=
    h.of_fields (by simp)
  refine .released h ?_
  split
  · exact .occurAnswer ((evalPreconditions_speedKept _).safe hlatched)
  · exact .answer h

theorem execSoftReset_speedSafe (raw : InputLevels) (h : SpeedSafe s) :
    SpeedSafeOutcome (execSoftReset raw s) :=
  .released h (.next (.of_rest rfl holdSpeeds_reset))

theorem execPinReset_speedSafe (raw : InputLevels) : SpeedSafeOutcome (execPinReset raw s) :=
  .next (.of_rest rfl holdSpeeds_reset)

theorem execInputFilterSample_speedSafe (raw : InputLevels) (h : SpeedSafe s) :
    SpeedSafeOutcome (execInputFilterSample raw s) := by
  have hsampled : SpeedSafe { s with spu := { s.spu with sampled := true } } := h.of_fields (by simp)
  exact .released h (.next (sampleInput_speedSafe _ _ (sampleInput_speedSafe _ _ (sampleInput_speedSafe _ _
    (sampleInput_speedSafe _ _ hsampled)))))

theorem tryStart_speedSafe (h : SpeedSafe s) : SpeedSafe (tryStart s) := by
  unfold tryStart startFrame
  split
  · split <;> exact h.of_fields (by simp)
  · exact h

theorem execTransmissionStart_speedSafe (levels : List Bool) (h : SpeedSafe s) :
    SpeedSafeOutcome (execTransmissionStart levels s) := by
  have hread : SpeedSafe (readLevels levels s) := by
    unfold readLevels
    split
    · exact h
    · exact h.of_fields (by simp)
  exact .released h (.next (tryStart_speedSafe hread))

theorem execTransmissionAbort_speedSafe (h : SpeedSafe s) : SpeedSafeOutcome (execTransmissionAbort s) := by
  refine .released h ?_
  split
  · refine .next ?_
    unfold abortFrame
    split <;> exact h.of_fields (by simp)
  · exact .next h

theorem execOwnFrameEnd_speedSafe (h : SpeedSafe s) : SpeedSafeOutcome (execOwnFrameEnd s) := by
  have hended : SpeedSafe { s with lnc := { s.lnc.atFrameEnd with tx := none } } := h.of_fields (by simp)
  refine .released h ?_
  split
  · exact .occur (takeOwn_speedSafe _ hended)
  · exact .next h

theorem execDrawSettle_speedSafe (h : SpeedSafe s) : SpeedSafeOutcome (execDrawSettle s) := by
  have hsettled := (settleDraw_speedKept s).safe h
  have hcounted : SpeedSafe (requestBeacon (countSettled (settleDraw s))) := by
    unfold countSettled
    split <;> exact hsettled.of_fields (by simp)
  exact .occasion h ((firstPointTest_speedKept _).safe hcounted)

theorem execClaimReceived_speedSafe (station : Nat) (fields : ClaimFields) (h : SpeedSafe s) :
    SpeedSafeOutcome (execClaimReceived station fields s) := by
  have hreceived := (receivePeer_speedKept s).safe h
  refine .frame h ?_
  unfold enterClaim
  exact hreceived.of_fields (by simp)

theorem execPeerSuspect_speedSafe (k : Nat) (h : SpeedSafe s) : SpeedSafeOutcome (execPeerSuspect k s) := by
  refine .occasion h ?_
  unfold goSuspect
  exact h.of_fields (by simp)

theorem execCommandRecordRejected_speedSafe (bytes : List Byte) (h : SpeedSafe s) :
    SpeedSafeOutcome (execCommandRecordRejected bytes s) := by
  refine .released h ?_
  split
  · exact .answer h
  · exact .next h

theorem execGetPeer_speedSafe (k : Byte) (h : SpeedSafe s) : SpeedSafeOutcome (execGetPeer k s) := by
  refine .released h ?_
  split <;> exact .answer h

theorem execGetReport_speedSafe (k : Byte) (h : SpeedSafe s) : SpeedSafeOutcome (execGetReport k s) := by
  refine .released h ?_
  split <;> exact .answer h

theorem execTundishBegin_speedSafe (h : SpeedSafe s) : SpeedSafeOutcome (execTundishBegin s) := by
  refine .released h ?_
  split
  · exact .answer (h.of_fields (by simp))
  · exact .answer h

theorem execTundishReady_speedSafe (limit : BitVec 16) (h : SpeedSafe s) :
    SpeedSafeOutcome (execTundishReady limit s) := by
  refine .released h ?_
  split
  · exact .answer (h.of_fields (by simp))
  · exact .answer h

theorem execStrapLatched_speedSafe (pins : StrapPins) (h : SpeedSafe s) :
    SpeedSafeOutcome (execStrapLatched pins s) := by
  refine .released h (.next (whenever_speedSafe _ h ?_))
  rw [sampleStraps_does]
  exact h.of_fields (by simp)

/-- R51: every row leaves a safe state safe. -/
theorem exec_speedSafe (c : Instr) (h : SpeedSafe s) : SpeedSafeOutcome (exec c s) := by
  cases c with
  | nop | identify | getClaims | getFault => exact .released h (.answer h)
  | loadStrand params => exact execLoadStrand_speedSafe params h
  | loadCause params => exact execLoadCause_speedSafe params h
  | loadSlice params => exact execLoadSlice_speedSafe params h
  | join => exact execJoin_speedSafe h
  | cast => exact execCast_speedSafe h
  | park => exact execPark_speedSafe h
  | stop code => exact execStop_speedSafe code h
  | release => exact execRelease_speedSafe h
  | take => exact execTake_speedSafe h
  | tundishBegin => exact execTundishBegin_speedSafe h
  | tundishReady limit => exact execTundishReady_speedSafe limit h
  | getStatus | clearFault => exact .released h (.answer (h.of_fields (by simp)))
  | getPeer k => exact execGetPeer_speedSafe k h
  | getReport k => exact execGetReport_speedSafe k h
  | softReset raw => exact execSoftReset_speedSafe raw h
  | commandRecordRejected bytes => exact execCommandRecordRejected_speedSafe bytes h
  | emptyFrame => exact .released h (.next h)
  | pinReset raw => exact execPinReset_speedSafe raw
  | strapLatched pins => exact execStrapLatched_speedSafe pins h
  | inputEdgeAccepted edge =>
    exact .released h (.next (whenever_speedSafe _ h (sampleInput_speedSafe edge.input edge.raw h)))
  | sampleRecord bytes framingFault => exact .occasion h (recordEnd_speedSafe bytes framingFault h)
  | samplesGoStale => exact .occasion h (goStale_speedSafe h)
  | referenceRecordStart | referenceRecordEnd | beaconTimerExpiry =>
    exact .released h (.next (whenever_speedSafe _ h (h.of_fields (by simp))))
  | rampTick | dwellEnd | levelHoldTimeout => exact .occasion h (takeTick_speedSafe h)
  | freezeExpiry => exact .occasion h (enterAbandoned_speedSafe (h.holds_of_pst (by simp)))
  | marginTimerExpiry =>
    exact .occasion h ((SpeedKept.trans (.of_fields (by simp)) (selfTakeTest_speedKept _)).safe h)
  | handbackTimerExpiry => exact .occasion h (h.of_fields (by simp))
  | drawSettle => exact execDrawSettle_speedSafe h
  | startSettleExpiry => exact .occasion h ((settleStart_speedKept s).safe h)
  | tenureTimerExpiry => exact .occasion h (tenureTimeout_speedSafe h)
  | listenTimerExpiry => exact .occasion h ((endListen_speedKept s).safe h)
  | silenceTimerExpiry => exact .occasion h ((goDeaf_speedKept _ s).safe h)
  | transmissionStart levels => exact execTransmissionStart_speedSafe levels h
  | transmissionAbort => exact execTransmissionAbort_speedSafe h
  | ownFrameEnd => exact execOwnFrameEnd_speedSafe h
  | beaconReceived station fields =>
    exact .frame h (takeBeacon_speedSafe station fields ((receivePeer_speedKept s).safe h))
  | claimReceived station fields => exact execClaimReceived_speedSafe station fields h
  | withdrawReceived station kind number =>
    exact .frame h (claimsLeave_speedSafe _ ((receivePeer_speedKept s).safe h))
  | releaseReceived station reason =>
    exact .frame h (takeRelease_speedSafe station reason ((receivePeer_speedKept s).safe h))
  | clearReceived station target =>
    exact .frame h (takeClear_speedSafe target ((receivePeer_speedKept s).safe h))
  | eventBeginReceived station epoch =>
    exact .frame h (takeBegin_speedSafe epoch ((receivePeer_speedKept s).safe h))
  | eventReadyReceived station epoch limit =>
    exact .frame h (((receivePeer_speedKept s).trans (takeReadyEvent_speedKept epoch limit _)).safe h)
  | badFrameReceived bytes framingFault => exact .frame h ((takeBadFrame_speedKept s).safe h)
  | duplicateStation kind => exact .frame h ((enterBarred_speedKept kind s).safe h)
  | peerSuspect k => exact execPeerSuspect_speedSafe k h
  | peerLost k => exact .occasion h (goLost_speedSafe k h)
  | claimLifetimeExpiry station kind => exact .occasion h (claimsLeave_speedSafe _ h)
  | inputFilterSample raw => exact execInputFilterSample_speedSafe raw h

end

/-! ### The step -/

/-- The passing of a bit time touches neither speed, state, draw nor store. -/
theorem advance_speedSafe {s : State} (h : SpeedSafe s) : SpeedSafe (advance s) := by
  unfold advance nextMs
  dsimp only
  split
  · exact h
  · split <;> exact h.of_fields (by simp)

theorem step_speedSafe {s : State} (h : SpeedSafe s) : SpeedSafeOutcome (step s) := by
  unfold step
  split
  · exact exec_speedSafe _ (h.of_fields (by simp))
  · split
    · exact exec_speedSafe _ h
    · exact .next (advance_speedSafe h)

/-- A station that ramps for a dip at 500 mm/min on the draw of that speed. -/
def rampingAt500 : State :=
  { State.reset with
    rsq := { Rsq.reset with
      state := .ramping, currentCause := some .dip, speed := 500, runReq := true }
    pst := { Pst.reset with strand := { StrandRecord.reset with mass := 158 } }
    dbu := { Dbu.reset with granted := 79 } }

/-- The premises of O11 hold with AUTH asserted, S above 0 and no draw to spare. -/
theorem rampingAt500_speedSafe :
    SpeedSafe rampingAt500 ∧ rampingAt500.auth = true
      ∧ rampingAt500.rsq.speed * 158 = rampingAt500.dbu.granted * 1000 :=
  ⟨⟨by decide, by decide⟩, by decide⟩

/-- Settles O11: `SpeedSafe` is kept by every row and by the passing of time. -/
theorem everyStepKeepsTheSpeedLaw : Obligations.every_step_keeps_the_speed_law := by
  intro s t hlaw hholds hstep
  have ht : SpeedSafe t := (step_speedSafe ⟨hlaw, hholds⟩).safe t hstep
  exact ⟨ht.law, ht.holds⟩

end Sys2Proof.Machine
end

section
/-! SUPPORT. The configuration loads LOAD_CAUSE and LOAD_SLICE (R43, R173, R174): which parameters each
reader takes and what it makes of them, and the exact outcome of the two commands in UNJOINED. -/

namespace Sys2Proof.Machine

/-! ### Codes and pointers (R174, R187) -/

theorem causeOfCode_eq_some_iff {b : Byte} {c : Cause} :
    causeOfCode b = some (some c) ↔ causeCode (some c) = b := by
  constructor
  · intro h
    unfold causeOfCode at h
    repeat' split at h
    all_goals cases h
    all_goals exact Eq.symm ‹_›
  · rintro rfl
    cases c <;> rfl

theorem exists_causeCode_iff {b : Byte} :
    (∃ c, causeCode (some c) = b) ↔ 1 ≤ b.toNat ∧ b.toNat ≤ 4 := by
  constructor
  · rintro ⟨c, rfl⟩
    cases c <;> decide
  · rintro ⟨hlow, hhigh⟩
    have hcode : b = 1 ∨ b = 2 ∨ b = 3 ∨ b = 4 := by bv_omega
    rcases hcode with rfl | rfl | rfl | rfl
    · exact ⟨.dip, rfl⟩
    · exact ⟨.tundish, rfl⟩
    · exact ⟨.breakout, rfl⟩
    · exact ⟨.hold, rfl⟩

theorem slicePointer_eq_some_iff {b : Byte} {n : Fin 24} :
    slicePointer b = some n ↔ n.val = b.toNat := by
  unfold slicePointer
  split
  · simp [Fin.ext_iff, eq_comm]
  · next hb => exact ⟨nofun, fun hn => absurd (hn ▸ n.isLt) hb⟩

theorem exists_slicePointer_iff {b : Byte} : (∃ n, slicePointer b = some n) ↔ b.toNat ≤ 23 := by
  simp only [slicePointer_eq_some_iff]
  exact ⟨fun ⟨n, hn⟩ => by omega, fun hb => ⟨⟨b.toNat, by omega⟩, rfl⟩⟩

/-- R187: FFh names no second slice, and every other byte is a slice pointer. -/
theorem slicePointerOrNone_eq_some_iff {b : Byte} {q : Option (Fin 24)} :
    slicePointerOrNone b = some q ↔
      (b = 0xFF → q = none) ∧ (b ≠ 0xFF → q.map (·.val) = some b.toNat) := by
  unfold slicePointerOrNone
  split
  · next hb => simp [hb, eq_comm]
  · next hb =>
    have hbyte : b ≠ 255#8 := hb
    cases q <;> simp [hbyte, slicePointer_eq_some_iff]

theorem exists_slicePointerOrNone_iff {b : Byte} :
    (∃ q, slicePointerOrNone b = some q) ↔ b.toNat ≤ 23 ∨ b = 0xFF := by
  unfold slicePointerOrNone
  split
  · next hb => simp [hb]
  · next hb =>
    have hbyte : b ≠ 255#8 := hb
    simp [hbyte, exists_comm (α := Option (Fin 24)), exists_slicePointer_iff]

/-! ### A cause entry's parameters (R174) -/

/-- The entry LOAD_CAUSE's parameters spell out once their two slice pointers are read. -/
def causeFields (p : Vector Byte 13) (p0 : Fin 24) (p1 : Option (Fin 24)) : CauseEntry :=
  { p0 := p0, p1 := p1, holdSpeed := value16 p[3] p[4], freezeCode := p[5].toNat,
    marginCode := p[6].toNat, baseUrgency := p[7].toNat, levelTarget := value16 p[8] p[9],
    bandHalf := value16 p[10] p[11], levelHoldCode := p[12].toNat }

/-- The fields behind the pointers lie in the ranges of R174 for the cause whose code comes first. -/
def CauseFieldsInRange (p : Vector Byte 13) : Prop :=
  value16 p[3] p[4] ≤ 8000 ∧ (p[0] = 1 ∨ p[0] = 3 → value16 p[3] p[4] = 0) ∧ (p[0] = 3 → p[5] = 0)
  ∧ p[7].toNat ≤ 2 ∧ value16 p[8] p[9] ≤ 4094 ∧ value16 p[10] p[11] ≤ 4094

/-- R174 refuses nothing in LOAD_CAUSE's parameters. -/
def CauseParamsAccepted (p : Vector Byte 13) : Prop :=
  (1 ≤ p[0].toNat ∧ p[0].toNat ≤ 4) ∧ p[1].toNat ≤ 23 ∧ (p[2].toNat ≤ 23 ∨ p[2] = 0xFF)
  ∧ CauseFieldsInRange p

theorem CauseEntry.inRange_iff {e : CauseEntry} {c : Cause} :
    e.inRange c = true ↔ e.holdSpeed ≤ 8000 ∧ (c = .dip ∨ c = .breakout → e.holdSpeed = 0)
      ∧ (c = .breakout → e.freezeCode = 0) ∧ e.baseUrgency ≤ 2 ∧ e.levelTarget ≤ 4094
      ∧ e.bandHalf ≤ 4094 := by
  simp only [CauseEntry.inRange, Bool.and_eq_true, Bool.or_eq_true, decide_eq_true_eq, and_assoc]
  cases c <;> simp

/-- The model tests the cause where R174's ranges are read off the code byte. -/
theorem causeFields_inRange_iff {p : Vector Byte 13} {c : Cause} (hc : causeCode (some c) = p[0])
    (p0 : Fin 24) (p1 : Option (Fin 24)) :
    (causeFields p p0 p1).inRange c = true ↔ CauseFieldsInRange p := by
  have hzero : p[5].toNat = 0 ↔ p[5] = 0 := (BitVec.toNat_eq (y := 0)).symm
  rw [CauseEntry.inRange_iff, CauseFieldsInRange, ← hc]
  cases c <;> simp [causeFields, causeCode, hzero]

theorem readCauseEntry_eq_some_iff {p : Vector Byte 13} {c : Cause} {e : CauseEntry} :
    readCauseEntry p = some (c, e) ↔ causeCode (some c) = p[0] ∧ CauseFieldsInRange p
      ∧ ∃ p0 p1, slicePointer p[1] = some p0 ∧ slicePointerOrNone p[2] = some p1
        ∧ causeFields p p0 p1 = e := by
  constructor
  · intro h
    unfold readCauseEntry at h
    dsimp only at h
    split at h
    · next d p0 p1 hd hp0 hp1 =>
      have hcode := causeOfCode_eq_some_iff.mp hd
      split at h
      · next hrange =>
        cases h
        exact ⟨hcode, (causeFields_inRange_iff hcode p0 p1).mp hrange, p0, p1, hp0, hp1, rfl⟩
      · cases h
    · cases h
  · rintro ⟨hcode, hrange, p0, p1, hp0, hp1, rfl⟩
    unfold readCauseEntry
    rw [causeOfCode_eq_some_iff.mpr hcode, hp0, hp1]
    exact if_pos ((causeFields_inRange_iff hcode p0 p1).mpr hrange)

theorem exists_readCauseEntry_iff {p : Vector Byte 13} :
    (∃ c e, readCauseEntry p = some (c, e)) ↔ CauseParamsAccepted p := by
  unfold CauseParamsAccepted
  rw [← exists_causeCode_iff, ← exists_slicePointer_iff, ← exists_slicePointerOrNone_iff]
  simp only [readCauseEntry_eq_some_iff]
  constructor
  · rintro ⟨c, -, hcode, hrange, p0, p1, hp0, hp1, -⟩
    exact ⟨⟨c, hcode⟩, ⟨p0, hp0⟩, ⟨p1, hp1⟩, hrange⟩
  · rintro ⟨⟨c, hcode⟩, ⟨p0, hp0⟩, ⟨p1, hp1⟩, hrange⟩
    exact ⟨c, _, hcode, hrange, p0, p1, hp0, hp1, rfl⟩

/-! ### A slice's parameters (R173) -/

/-- Byte `k` of point `i` in LOAD_SLICE's parameters. -/
def pointByte (p : Vector Byte 41) (i : Fin 8) (k : Nat) : Byte := p.toList.getD (1 + 5 * i.val + k) 0

/-- The point LOAD_SLICE's parameters spell out at index `i`. -/
def pointFields (p : Vector Byte 41) (i : Fin 8) : Point :=
  { target := value16 (pointByte p i 0) (pointByte p i 1), slew := (pointByte p i 2).toNat,
    dwell := (pointByte p i 3).toNat, levelGate := (pointByte p i 4).getLsbD 0,
    last := (pointByte p i 4).getLsbD 1 }

/-- Point `i` lies in the ranges of R173. -/
def PointInRange (p : Vector Byte 41) (i : Fin 8) : Prop :=
  value16 (pointByte p i 0) (pointByte p i 1) ≤ 8000 ∧ pointByte p i 2 ≠ 0
  ∧ (pointByte p i 4).toNat ≤ 3

/-- R173 refuses nothing in LOAD_SLICE's parameters. -/
def SliceParamsAccepted (p : Vector Byte 41) : Prop := p[0].toNat ≤ 23 ∧ ∀ i, PointInRange p i

theorem readPoint_eq_some_iff {p : Vector Byte 41} {i : Fin 8} {q : Point} :
    readPoint p i = some q ↔ PointInRange p i ∧ pointFields p i = q := by
  have hslew : (pointByte p i 2).toNat ≠ 0 ↔ pointByte p i 2 ≠ 0 :=
    not_congr (BitVec.toNat_eq (y := 0)).symm
  have hrange : PointInRange p i ↔ value16 (pointByte p i 0) (pointByte p i 1) ≤ 8000
      ∧ (pointByte p i 2).toNat ≠ 0 ∧ (pointByte p i 4).toNat < 4 := by
    rw [hslew, Nat.lt_succ_iff]
    rfl
  have hread : readPoint p i = if value16 (pointByte p i 0) (pointByte p i 1) ≤ 8000
      ∧ (pointByte p i 2).toNat ≠ 0 ∧ (pointByte p i 4).toNat < 4
      then some (pointFields p i) else none := rfl
  rw [hread, hrange, Option.ite_none_right_eq_some, Option.some_inj]

/-- The slice number and all eight points are read, or nothing is. -/
theorem readSlice_eq_some_iff {p : Vector Byte 41} {n : Fin 24} {slice : Slice} :
    readSlice p = some (n, slice) ↔
      slicePointer p[0] = some n ∧ ∀ i : Fin 8, readPoint p i = some slice[i] := by
  constructor
  · intro h
    unfold readSlice at h
    split at h
    · next hn h0 h1 h2 h3 h4 h5 h6 h7 =>
      cases h
      exact ⟨hn, fun
        | 0 => h0 | 1 => h1 | 2 => h2 | 3 => h3 | 4 => h4 | 5 => h5 | 6 => h6 | 7 => h7⟩
    · cases h
  · rintro ⟨hn, hpoints⟩
    have hslice : #v[slice[(0 : Fin 8)], slice[(1 : Fin 8)], slice[(2 : Fin 8)], slice[(3 : Fin 8)],
        slice[(4 : Fin 8)], slice[(5 : Fin 8)], slice[(6 : Fin 8)], slice[(7 : Fin 8)]] = slice := by
      ext i hi
      interval_cases i <;> rfl
    simp only [readSlice, hn, hpoints, hslice]

theorem exists_readSlice_iff {p : Vector Byte 41} :
    (∃ n slice, readSlice p = some (n, slice)) ↔ SliceParamsAccepted p := by
  unfold SliceParamsAccepted
  rw [← exists_slicePointer_iff]
  simp only [readSlice_eq_some_iff, readPoint_eq_some_iff]
  constructor
  · rintro ⟨n, slice, hn, hpoints⟩
    exact ⟨⟨n, hn⟩, fun i => (hpoints i).1⟩
  · rintro ⟨⟨n, hn⟩, hrange⟩
    exact ⟨n, Vector.ofFn (pointFields p), hn, fun i => ⟨hrange i, by simp⟩⟩

/-! ### The two commands in UNJOINED (R43) -/

section

variable {s : State}

theorem exec_loadCause_taken {p : Vector Byte 13} {c : Cause} {e : CauseEntry} (h : s.rstLow = false)
    (hs : s.rsq.state = .unjoined) (hread : readCauseEntry p = some (c, e)) :
    exec (.loadCause p) s =
      .next (answer 0x11 .ok [] { s with pst := { s.pst with causes := s.pst.causes.set c e } }) := by
  change execLoadCause p s = _
  simp [execLoadCause, h, hs, hread]

theorem exec_loadCause_refused {p : Vector Byte 13} (h : s.rstLow = false)
    (hs : s.rsq.state = .unjoined) (hread : readCauseEntry p = none) :
    exec (.loadCause p) s = .next (answer 0x11 .refusedParam [] s) := by
  change execLoadCause p s = _
  simp [execLoadCause, h, hs, hread]

theorem exec_loadSlice_taken {p : Vector Byte 41} {n : Fin 24} {slice : Slice} (h : s.rstLow = false)
    (hs : s.rsq.state = .unjoined) (hread : readSlice p = some (n, slice)) :
    exec (.loadSlice p) s =
      .next (answer 0x12 .ok [] { s with pst := { s.pst with slices := s.pst.slices.set n slice } }) := by
  change execLoadSlice p s = _
  simp [execLoadSlice, h, hs, hread]

theorem exec_loadSlice_refused {p : Vector Byte 41} (h : s.rstLow = false)
    (hs : s.rsq.state = .unjoined) (hread : readSlice p = none) :
    exec (.loadSlice p) s = .next (answer 0x12 .refusedParam [] s) := by
  change execLoadSlice p s = _
  simp [execLoadSlice, h, hs, hread]

end

/-- Settles O30: the reader answers an entry exactly for the accepted parameters
(`exists_readCauseEntry_iff`), and that entry goes to its cause's place alone. -/
theorem loadCauseIsTakenInRange : Obligations.load_cause_is_taken_in_range := by
  intro p s h hs
  refine ⟨fun haccepted => ?_, fun hrefused => ?_⟩
  · obtain ⟨c, e, hread⟩ := exists_readCauseEntry_iff.mpr haccepted
    obtain ⟨hcode, -, p0, p1, hp0, hp1, rfl⟩ := readCauseEntry_eq_some_iff.mp hread
    obtain ⟨hnone, hsome⟩ := slicePointerOrNone_eq_some_iff.mp hp1
    exact ⟨c, p0, p1, s.pst.causes.set c (causeFields p p0 p1), hcode, slicePointer_eq_some_iff.mp hp0,
      hnone, hsome, PerCause.get_set_same .., fun _ hd => PerCause.get_set_ne _ _ hd,
      exec_loadCause_taken h hs hread⟩
  · refine exec_loadCause_refused h hs (Option.eq_none_iff_forall_ne_some.mpr fun (c, e) hread => ?_)
    exact hrefused (exists_readCauseEntry_iff.mp ⟨c, e, hread⟩)

/-- Settles O31: the reader answers a slice exactly for the accepted parameters
(`exists_readSlice_iff`), and that slice goes to its number's place alone. -/
theorem loadSliceIsTakenInRange : Obligations.load_slice_is_taken_in_range := by
  intro p s h hs
  refine ⟨fun haccepted => ?_, fun hrefused => ?_⟩
  · obtain ⟨n, slice, hread⟩ := exists_readSlice_iff.mpr haccepted
    obtain ⟨hn, hpoints⟩ := readSlice_eq_some_iff.mp hread
    refine ⟨n, s.pst.slices.set n slice, slicePointer_eq_some_iff.mp hn, fun i => ?_, fun m hm => ?_,
      exec_loadSlice_taken h hs hread⟩
    · obtain ⟨-, hfields⟩ := readPoint_eq_some_iff.mp (hpoints i)
      have hget : (s.pst.slices.set n slice)[n] = slice := Vector.getElem_set_self n.isLt
      exact (congrArg (·[i]) hget).trans hfields.symm
    · have hne : n.val ≠ m.val := fun heq => hm (Fin.ext heq.symm)
      simp [Vector.getElem_set_ne, hne]
  · refine exec_loadSlice_refused h hs (Option.eq_none_iff_forall_ne_some.mpr fun (n, slice) hread => ?_)
    exact hrefused (exists_readSlice_iff.mp ⟨n, slice, hread⟩)

end Sys2Proof.Machine
end

section
/-! SUPPORT. The rows of the opcode table reduced to the shared operations, once for every property of a
state. `Kept P` says that each operation a row comes to keeps `P` where the row calls it; `Kept.exec` then
says that every row keeps `P`, but for the five rows that join, reset or clear what the port keeps, which
`KeptBySteps P` adds; `KeptBySteps.step` says it of the step. An invariant is proved operation by operation
and never goes through the rows again. -/

namespace Sys2Proof.Machine

/-! ### What the laws read -/

/-- From `s` to `t` nothing has changed that a law of the station reads: the rest is replies, samples,
speed and draw, counters, timers of the line and of the restart, and the peers' entries. -/
structure Aside (s t : State) : Prop where
  now : t.now = s.now
  pst : t.pst = s.pst
  seq : t.rsq.state = s.rsq.state ∧ t.rsq.pendingSet = s.rsq.pendingSet
    ∧ t.rsq.currentCause = s.rsq.currentCause ∧ t.rsq.stack = s.rsq.stack
    ∧ t.rsq.carried = s.rsq.carried ∧ t.rsq.urgencyBase = s.rsq.urgencyBase
    ∧ t.rsq.runReq = s.rsq.runReq ∧ t.rsq.urgency = s.rsq.urgency
  dbu : t.dbu.limit = s.dbu.limit ∧ t.dbu.epoch = s.dbu.epoch ∧ t.dbu.phase = s.dbu.phase
    ∧ t.dbu.claim = s.dbu.claim ∧ t.dbu.claimNumber = s.dbu.claimNumber
    ∧ t.dbu.amount = s.dbu.amount ∧ t.dbu.need = s.dbu.need ∧ t.dbu.settleAt = s.dbu.settleAt
  ssu : t.ssu.request = s.ssu.request ∧ t.ssu.claim = s.ssu.claim
    ∧ t.ssu.claimNumber = s.ssu.claimNumber ∧ t.ssu.settleAt = s.ssu.settleAt
    ∧ t.ssu.tenure = s.ssu.tenure
  claims : t.pvu.claims = s.pvu.claims
  lnc : t.lnc.line = s.lnc.line ∧ t.lnc.queue = s.lnc.queue ∧ t.lnc.beacon = s.lnc.beacon
    ∧ t.lnc.tx = s.lnc.tx
  inputs : t.spu.inputs = s.spu.inputs
  port : t.cpn.events = s.cpn.events ∧ t.cpn.fault = s.cpn.fault ∧ t.cpn.ring = s.cpn.ring
    ∧ t.cpn.straps = s.cpn.straps ∧ t.cpn.strapDone = s.cpn.strapDone

/-- Every operation that a row comes to keeps `P` where the row calls it. -/
structure Kept (P : State → Prop) : Prop where
  aside : ∀ {s t}, P s → Aside s t → P t
  stamp : ∀ {s t}, P s → P t → P (stampFault s t)
  capture : ∀ {s} k d, P s → P (capture k d s)
  beacon : ∀ {s}, P s → P (requestBeacon s)
  frame : ∀ {s} f, P s → s.lnc.line = .active → P (queueFrame f s)
  removed : ∀ {s} gone, P s → (∀ e, gone e = true → e.isOwn = false) → P (removeClaims gone s)
  entered : ∀ {s} e, P s → e.isOwn = false → e.station < 8 → e.station ≠ s.ownStation →
    P (enterClaim e s)
  drawView : ∀ {s}, P s → P (drawViewChange s)
  holder : ∀ {s} v, P s → P (setHolder v s)
  retest : ∀ {s}, P s → P (retestStart s)
  waits : ∀ {s}, P s → s.ssu.claim = .contending → P (startWaits s)
  tenureEnd : ∀ {s} r, P s → P (endTenure r s)
  urgency : ∀ {s}, P s → P (refreshUrgency s)
  creep : ∀ {s}, P s → P (creepTest s)
  need : ∀ {s} n, P s → s.rsq.state = .ramping → s.dbu.claim.outstanding = false → P (giveNeed n s)
  dropNeed : ∀ {s}, P s → P (dropHeldNeed s)
  firstPoint : ∀ {s}, P s → P (firstPointTest s)
  request : ∀ {s}, P s → P (actOnRequest s)
  slot : ∀ {s} n, P s → s.ssu.claim = .contending → P (takeSlot n s)
  settled : ∀ {s}, P s → s.dbu.claim = .contending → P (settleDraw s)
  drawSent : ∀ {s} n, P s → P (drawSent n s)
  startSent : ∀ {s} n, P s → P (startSent n s)
  timeout : ∀ {s}, P s → s.ssu.tenure = true → P (tenureTimeout s)
  stop : ∀ {s} c e, P s → P (stopEvent c e s)
  begins : ∀ {s} e, P s → P (takeBegin e s)
  ready : ∀ {s} e l, P s → P (takeReady e l s)
  adopt : ∀ {s} b, P s → P (adoptEpoch b s)
  latch : ∀ {s}, P s → s.releasable = true →
    P (evalPreconditions { s with rsq := { s.rsq with pendingSet := latchAll s.rsq.pendingSet } })
  cast : ∀ {s}, P s → s.rsq.state = .parked → P (moveIdle .watch s)
  park : ∀ {s}, P s → s.rsq.state = .watch → P (moveIdle .parked s)
  giveUp : ∀ {s} q, P s → s.auth = true → q = .watch ∨ q = .parked → P (giveUpAuthority q s)
  giveUpAll : ∀ {s} q o, P s → s.auth = true → q = .watch ∨ q = .parked →
    P (giveUpAuthority q (clearStack o s))
  abandon : ∀ {s}, P s → s.auth = true → P (enterAbandoned s)
  point : ∀ {s}, P s → s.rsq.state = .ramping → P (completePoint s)
  line : ∀ {s} q, P s → s.lnc.line ≠ .off → q = .active ∨ q = .deaf → P (changeLine q s)
  bar : ∀ {s} k, P s → s.lnc.line.canBar = true → P (enterBarred k s)
  start : ∀ {s} h, P s → s.startable = some h → P (startFrame h s)
  abort : ∀ {s} t, P s → s.lnc.tx = some t → P (abortFrame t s)
  ended : ∀ {s}, P s → P { s with lnc := { s.lnc.atFrameEnd with tx := none } }
  input : ∀ {s} i raw, P s → P (sampleInput i raw s)
  store : ∀ {s} p f l, P s → s.rsq.state = .unjoined →
    P { s with pst := p, spu := { s.spu with feedback := f, level := l } }
  straps : ∀ {s} pins, P s → s.cpn.strapDone = false → P (sampleStraps pins s)

namespace Kept

variable {P : State → Prop} {s : State}

/-! ### Operations above those of `Kept` -/

theorem overcommit (K : Kept P) (h : P s) : P (evalOvercommit s) := by
  have h1 : P { s with dbu := { s.dbu with overcommit := s.overcommitted } } :=
    K.aside h (by constructor <;> simp)
  unfold evalOvercommit
  dsimp only
  split
  · exact K.capture _ _ h1
  · exact h1

theorem granted (K : Kept P) (g : Nat) (h : P s) : P (setGranted g s) :=
  K.overcommit (K.aside h (by constructor <;> simp))

theorem feedback (K : Kept P) (h : P s) : P (trackFeedback s) := by
  unfold trackFeedback
  split
  · exact K.granted _ h
  · exact h

theorem frameTaken (K : Kept P) {f : State → State} (h : P s) (hf : P (f s)) : P (frameTaken f s) := by
  unfold Machine.frameTaken
  split
  · exact hf
  · exact K.aside h (by constructor <;> simp)

/-- LNC at a valid peer frame (R148, R152). -/
theorem received (K : Kept P) (h : P s) (hline : s.lnc.line ≠ .off) : P (receivePeer s) := by
  unfold receivePeer
  dsimp only
  split
  · exact K.aside h (by constructor <;> simp)
  · have h2 : P { s with lnc := { s.lnc.atFrameEnd with
        deafCount := s.lnc.deafCount - 1
        silenceAt := some (later s.now (3 * s.beaconPeriod)) } } := K.aside h (by constructor <;> simp)
    split
    · exact K.line .active h2 hline (.inl rfl)
    · exact h2

theorem deaf (K : Kept P) (d : Nat) (h : P s) (hline : s.lnc.line ≠ .off) : P (goDeaf d s) :=
  K.line .deaf (K.capture _ _ h) (by simpa using hline) (.inr rfl)

theorem listenEnds (K : Kept P) (h : P s) (hline : s.lnc.line ≠ .off) : P (endListen s) := by
  have h1 : P { s with lnc := { s.lnc with listenAt := none } } := K.aside h (by constructor <;> simp)
  unfold endListen
  dsimp only
  split
  · exact K.deaf _ h1 hline
  · exact K.line .active h1 hline (.inl rfl)

theorem readyEvent (K : Kept P) (e l : Nat) (h : P s) : P (takeReadyEvent e l s) := by
  unfold takeReadyEvent
  dsimp only
  split
  · exact K.ready e _ h
  · exact K.drawView (K.ready e _ h)

/-- The own blocks take the own frame (R145). -/
theorem own (K : Kept P) (body : FrameBody) (h : P s) : P (takeOwn body s) := by
  cases body with
  | beacon fields =>
    exact K.aside (t := { s with lnc := { s.lnc with sequence := (s.lnc.sequence + 1) % 256 } }) h
      (by constructor <;> simp)
  | claim c =>
    unfold takeOwn
    dsimp only
    split
    · exact K.drawSent _ h
    · exact K.startSent _ h
  | withdraw | release | clear => exact h
  | eventBegin e => exact K.begins e h
  | eventReady e l => exact K.readyEvent e l h

theorem badFrame (K : Kept P) (h : P s) (hline : s.lnc.line ≠ .off) : P (takeBadFrame s) := by
  unfold takeBadFrame
  dsimp only
  split
  · exact K.aside h (by constructor <;> simp)
  · have h2 : P { s with lnc := { s.lnc.atFrameEnd with
        deafCount := sat255 (s.lnc.deafCount + Config.badFrameWeight) } } :=
      K.aside h (by constructor <;> simp)
    split
    · exact K.deaf _ h2 hline
    · exact h2

/-! ### Peers -/

theorem peer (K : Kept P) (k : Nat) (e : PeerEntry) (h : P s) : P (setPeer k e s) :=
  K.aside h (by constructor <;> simp [setPeer])

theorem mismatch (K : Kept P) (k : Nat) (b : BeaconFields) (h : P s) : P (mismatchTest k b s) := by
  unfold mismatchTest
  split
  · exact K.capture _ _ (K.aside h (by constructor <;> simp))
  · exact h

theorem repair (K : Kept P) (b : BeaconFields) (h : P s) : P (repairTundish b s) := by
  unfold repairTundish
  split
  · exact K.adopt b h
  · split
    · split
      · exact K.ready _ _ h
      · exact K.begins _ h
    · split
      · exact K.ready _ _ h
      · exact h

theorem beaconHeld (K : Kept P) (k : Nat) (b : BeaconFields) (h : P s) : P (beaconHolder k b s) := by
  unfold beaconHolder
  split
  · exact K.holder _ h
  · split
    · exact K.holder _ h
    · exact h

theorem finishedBy_peer {k : Nat} {b : BeaconFields} {e : ClaimEntry} (h : finishedBy k b e = true) :
    e.isOwn = false := by
  simp only [finishedBy, Bool.and_eq_true, Bool.not_eq_true'] at h
  exact h.1.1

theorem takesBeacon (K : Kept P) (k : Nat) (b : BeaconFields) (h : P s) : P (takeBeacon k b s) := by
  have h1 : P (beaconHolder k b (takeBeaconEntry k b s)) :=
    K.beaconHeld k b (K.removed _ (K.peer k _ h) fun _ => finishedBy_peer)
  unfold takeBeacon drawBeacon
  dsimp only
  split
  · exact K.drawView (K.overcommit (K.mismatch k b (K.repair b (K.retest h1))))
  · exact K.drawView (K.overcommit (K.mismatch k b (K.repair b h1)))

theorem leave (K : Kept P) (gone : ClaimEntry → Bool) (h : P s)
    (hgone : ∀ e, gone e = true → e.isOwn = false) : P (claimsLeave gone s) := by
  unfold claimsLeave
  dsimp only
  split
  · exact K.retest (K.drawView (K.removed gone h hgone))
  · exact K.drawView (K.removed gone h hgone)

theorem takesRelease (K : Kept P) (k : Nat) (r : ReleaseReason) (h : P s) : P (takeRelease k r s) := by
  unfold takeRelease
  dsimp only
  split
  · exact K.drawView (K.holder _ (K.peer k _ h))
  · exact K.drawView (K.peer k _ h)

theorem takesClear (K : Kept P) (target : Nat) (h : P s) : P (takeClear target s) := by
  unfold takeClear
  split
  · split
    · exact K.tenureEnd _ h
    · exact K.aside h (by constructor <;> simp)
  · exact h

theorem lost (K : Kept P) (k : Nat) (h : P s) : P (goLost k s) := by
  have h1 : P (removeClaims (claimOf k) (setPeer k { s.peer k with status := .lost } s)) :=
    K.removed _ (K.peer k _ h) fun e he => by
      simp only [claimOf, Bool.and_eq_true, Bool.not_eq_true'] at he
      exact he.1
  have h2 : P (loseHolder k (removeClaims (claimOf k) (setPeer k { s.peer k with status := .lost } s))) := by
    unfold loseHolder
    split
    · exact K.holder _ (K.capture _ _ h1)
    · exact h1
  unfold goLost
  dsimp only
  split
  · exact K.retest (K.drawView (K.overcommit h2))
  · exact K.drawView (K.overcommit h2)

/-! ### The ramp, the samples and the start of a frame -/

theorem held (K : Kept P) (h : P s) : P (levelWait s) := by
  have h1 : P { s with rsq := { s.rsq with
      levelHoldTime := s.rsq.levelHoldTime + Config.rampTick
      levelHold := true
      counters := { s.rsq.counters with
        levelHoldTotal := min 65535 (s.rsq.counters.levelHoldTotal + 1) } } } :=
    K.aside h (by constructor <;> simp)
  unfold levelWait
  dsimp only
  split
  · exact K.capture _ _ h1
  · exact h1

theorem ramp (K : Kept P) (h : P s) (hs : s.rsq.state = .ramping) : P (rampStep s) := by
  unfold rampStep
  split
  · have h1 : P { s with rsq := { s.rsq with
        speed := min (s.rsq.speed + s.currentPoint.slew) (min s.target s.speedMax) } } :=
      K.aside h (by constructor <;> simp)
    unfold risingStep
    dsimp only
    split
    · split
      · exact h1
      · next hc => exact K.need _ h1 hs (by simpa using hc)
    · exact K.dropNeed h1
  · split
    · exact K.dropNeed (K.aside h (by constructor <;> simp))
    · have h1 : P (dropHeldNeed s) := K.dropNeed h
      have h2 : P { dropHeldNeed s with rsq := { (dropHeldNeed s).rsq with
          dwell := (dropHeldNeed s).rsq.dwell - 1 } } := K.aside h1 (by constructor <;> simp)
      unfold atTargetStep
      dsimp only
      split
      · split
        · exact K.held h2
        · exact K.point h2 (by simpa using hs)
      · exact h2

theorem reference (K : Kept P) (h : P s) : P (requestReference s) :=
  K.aside h (by constructor <;> simp)

theorem tick (K : Kept P) (h : P s) : P (takeTick s) := by
  have h1 : P { s with rsq := { s.rsq with tickTaken := true } } := K.aside h (by constructor <;> simp)
  unfold takeTick
  dsimp only
  split
  · next hs => exact K.reference (K.ramp h1 hs)
  · exact K.reference h1

theorem tenureCreep (K : Kept P) (h : P s) : P (tenureCreepTest s) := by
  unfold tenureCreepTest
  split
  · exact K.tenureEnd _ h
  · exact h

theorem given (K : Kept P) (h : P s) : P (giveFeedback s) := by
  unfold giveFeedback
  split
  · exact K.tenureCreep (K.feedback h)
  · exact K.tenureCreep (K.feedback h)
  all_goals exact K.tenureCreep (K.creep h)

theorem sampled (K : Kept P) (bytes : List Byte) (ff : Bool) (h : P s) : P (recordEnd bytes ff s) := by
  unfold recordEnd
  dsimp only
  split
  · exact K.aside h (by constructor <;> simp)
  · split
    · exact K.given (K.aside h (by constructor <;> simp))
    · exact K.aside h (by constructor <;> simp)

theorem stale (K : Kept P) (h : P s) : P (goStale s) := by
  unfold goStale
  dsimp only
  split
  · exact K.capture _ _ (K.aside h (by constructor <;> simp))
  · exact K.aside h (by constructor <;> simp)

theorem levels (K : Kept P) (l : List Bool) (h : P s) : P (tryStart (readLevels l s)) := by
  have h1 : P (readLevels l s) := by
    unfold readLevels
    split
    · exact h
    · exact K.aside h (by constructor <;> simp)
  unfold tryStart
  split
  · next hd hs => exact K.start hd h1 hs
  · exact h1

/-! ### The timers -/

theorem drawSettles (K : Kept P) (h : P s) (hc : s.dbu.claim = .contending) :
    P (firstPointTest (requestBeacon (countSettled (settleDraw s)))) := by
  have h1 : P (countSettled (settleDraw s)) := by
    unfold countSettled
    split
    · exact K.aside (K.settled h hc) (by constructor <;> simp)
    · exact K.settled h hc
  exact K.firstPoint (K.beacon h1)

theorem startSettles (K : Kept P) (h : P s) (hc : s.ssu.claim = .contending) : P (settleStart s) := by
  unfold settleStart
  split
  · exact K.slot _ h hc
  · exact K.waits h hc

theorem selfTake (K : Kept P) (h : P s) : P (selfTakeTest s) := by
  unfold selfTakeTest
  split
  · exact K.request h
  · exact K.request h
  all_goals exact h

/-- A deadline is in force only with authority (R32). -/
theorem auth_of_freezeExpired (h : s.freezeExpired = true) : s.auth = true := by
  unfold State.freezeExpired State.deadlineInForce State.deadlines at h
  unfold State.auth hasAuthority
  split at h
  all_goals simp_all [earliestDeadline, firstBy, expired]

theorem freeze (K : Kept P) (h : P s) (he : s.freezeExpired = true) : P (expireFreeze s) :=
  K.abandon (K.capture _ _ h) (by
    rw [State.auth_congr (s := s) (by simp)]
    exact auth_of_freezeExpired he)

end Kept

/-! ### Outcomes and rows -/

/-- Every next state of an outcome has `P`. -/
structure LeadsTo (P : State → Prop) (o : Host.Outcome State Fault Refusal) : Prop where
  of_next : ∀ t, o = .next t → P t

namespace LeadsTo

variable {P : State → Prop} {s : State} {o : Host.Outcome State Fault Refusal}

theorem next (h : P s) : LeadsTo P (.next s) := by
  constructor
  rintro t ⟨⟩
  exact h

/-- With RST_N low nothing changes, so the effect with RST_N high alone is to be looked at. -/
theorem released (h : P s) (ho : LeadsTo P o) : LeadsTo P (released s o) := by
  unfold Machine.released
  split
  · exact next h
  · exact ho

/-- A row whose occasion, where it has one, gives its effect a premise. -/
theorem occasion (K : Kept P) {c : Bool} {f : State → State} (h : P s) (hf : c = true → P (f s)) :
    LeadsTo P (Machine.released s (occur (whenever c f) s)) := by
  refine released h (next (K.stamp h ?_))
  cases c with
  | true => exact hf rfl
  | false => exact h

/-- A row that captures nothing. -/
theorem quiet {c : Bool} {f : State → State} (h : P s) (hf : c = true → P (f s)) :
    LeadsTo P (Machine.released s (.next (whenever c f s))) := by
  refine released h (next ?_)
  cases c with
  | true => exact hf rfl
  | false => exact h

end LeadsTo

/-- The rows that join, reset, or clear what the port keeps. -/
def Instr.special : Instr → Bool
  | .join | .getStatus | .clearFault | .softReset _ | .pinReset _ => true
  | _ => false

/-- A heard frame comes from a line that is not OFF and from another station (R148). -/
theorem State.hears_iff {s : State} {k : Nat} :
    s.hears k = true ↔ s.lnc.line ≠ .off ∧ k < s.strandCount ∧ k ≠ s.ownStation := by
  simp [State.hears]

/-- The strand count is at most 8 (R178). -/
theorem State.strandCount_le (s : State) : s.strandCount ≤ 8 := by
  unfold State.strandCount
  have := s.cpn.straps.count.isLt
  omega

theorem State.ownStation_lt (s : State) : s.ownStation < 8 := s.cpn.straps.station.isLt

namespace Kept

variable {P : State → Prop} {s : State}

theorem replies (K : Kept P) {code : Byte} {status : Status} {data : List Byte} (h : P s) :
    P (answer code status data s) :=
  K.aside h (by constructor <;> simp)

/-- A row that a command brings as one occurrence, and its reply. -/
theorem occurs (K : Kept P) {f : State → State} {code : Byte} {data : List Byte} (h : P s)
    (hf : P (f s)) : LeadsTo P (occur (fun s => Machine.answer code .ok data (f s)) s) :=
  .next (K.stamp h (K.replies hf))

theorem authority (q : SeqState) (hs : s.rsq.state = q) (ha : hasAuthority q = true) :
    s.auth = true := by
  rw [State.auth_of_state hs, ha]

/-- A row of a line frame. -/
theorem frameRow (K : Kept P) {k : Nat} {f : State → State} (h : P s)
    (hf : s.hears k = true → P (receivePeer s) → P (f (receivePeer s))) :
    LeadsTo P (released s
      (occur (whenever (s.hears k) (Machine.frameTaken fun s => f (receivePeer s))) s)) := by
  refine .occasion K h fun hk => K.frameTaken h (hf hk (K.received h ?_))
  exact (State.hears_iff.mp hk).1

theorem execPark (K : Kept P) (h : P s) : LeadsTo P (execPark s) := by
  refine .released h ?_
  split
  · next hs => exact .next (K.replies (K.park h hs))
  · next hs => exact K.occurs h (K.giveUpAll _ _ h (authority _ hs rfl) (.inr rfl))
  · next hs => exact K.occurs h (K.giveUp _ h (authority _ hs rfl) (.inr rfl))
  all_goals exact .next (K.replies h)

theorem execTake (K : Kept P) (h : P s) : LeadsTo P (execTake s) := by
  refine .released h ?_
  split
  iterate 3 next hs => exact K.occurs h (K.giveUpAll _ _ h (authority _ hs rfl) (.inl rfl))
  · next hs => exact K.occurs h (K.giveUp _ h (authority _ hs rfl) (.inl rfl))
  · next hs => exact K.occurs h (K.giveUp _ h (authority _ hs rfl) (.inr rfl))
  all_goals exact .next (K.replies h)

theorem execStop (K : Kept P) (code : Byte) (h : P s) : LeadsTo P (execStop code s) := by
  refine .released h ?_
  split
  · split
    · exact K.occurs h (K.stop _ _ h)
    · exact .next (K.replies h)
  · exact .next (K.replies h)

theorem execRelease (K : Kept P) (h : P s) : LeadsTo P (execRelease s) := by
  refine .released h ?_
  split
  · next hr => exact K.occurs h (K.latch h hr)
  · exact .next (K.replies h)

theorem execTundish (K : Kept P) {c : Prop} [Decidable c] {f : QueuedFrame} {code : Byte} (h : P s)
    (hc : c → s.lnc.line = .active) :
    LeadsTo P (released s (if c then .next (answer code .ok [] (queueFrame f s))
      else .next (answer code .refusedState [] s))) := by
  refine .released h ?_
  split
  · next ha => exact .next (K.replies (K.frame _ h (hc ha)))
  · exact .next (K.replies h)

theorem execOwnFrameEnd (K : Kept P) (h : P s) : LeadsTo P (execOwnFrameEnd s) := by
  refine .released h ?_
  split
  · exact .next (K.stamp h (K.own _ (K.ended h)))
  · exact .next h

theorem execClaimReceived (K : Kept P) (k : Nat) (c : ClaimFields) (h : P s) :
    LeadsTo P (execClaimReceived k c s) := by
  refine K.frameRow (f := fun t => drawViewChange (enterClaim (t.claimEntry k c) t)) h fun hk hr => ?_
  obtain ⟨-, hcount, hne⟩ := State.hears_iff.mp hk
  have hown : (receivePeer s).ownStation = s.ownStation := by
    unfold receivePeer State.ownStation
    dsimp only
    split
    · rfl
    · split <;> simp
  exact K.drawView (K.entered _ hr rfl (hcount.trans_le s.strandCount_le) (hown ▸ hne))

theorem execSamples (K : Kept P) (raw : InputLevels) (h : P s) :
    LeadsTo P (execInputFilterSample raw s) := by
  have h0 : P { s with spu := { s.spu with sampled := true } } := K.aside h (by constructor <;> simp)
  exact .released h (.next (K.input _ _ (K.input _ _ (K.input _ _ (K.input _ _ h0)))))

/-- A load or JOIN acts in UNJOINED alone (R43, R176). -/
theorem unjoinedOnly (K : Kept P) {code : Byte} {o : Host.Outcome State Fault Refusal} (h : P s)
    (ho : s.rsq.state = .unjoined → LeadsTo P o) :
    LeadsTo P (released s
      (if s.rsq.state ≠ .unjoined then .next (answer code .refusedState [] s) else o)) := by
  refine .released h ?_
  split
  · exact .next (K.replies h)
  · next hs => exact ho (not_not.mp hs)

theorem execLoadStrand (K : Kept P) (p : Vector Byte 25) (h : P s) :
    LeadsTo P (execLoadStrand p s) := by
  refine K.unjoinedOnly h fun hs => ?_
  split
  · exact .next (K.replies (K.store _ _ _ h hs))
  · exact .next (K.replies h)

theorem execLoadCause (K : Kept P) (p : Vector Byte 13) (h : P s) :
    LeadsTo P (execLoadCause p s) := by
  refine K.unjoinedOnly h fun hs => ?_
  split
  · exact .next (K.replies (K.store _ s.spu.feedback s.spu.level h hs))
  · exact .next (K.replies h)

theorem execLoadSlice (K : Kept P) (p : Vector Byte 41) (h : P s) :
    LeadsTo P (execLoadSlice p s) := by
  refine K.unjoinedOnly h fun hs => ?_
  split
  · exact .next (K.replies (K.store _ s.spu.feedback s.spu.level h hs))
  · exact .next (K.replies h)

/-- Every row that is not special keeps `P`. -/
theorem exec (K : Kept P) (c : Instr) (hc : Instr.special c = false) (h : P s) :
    LeadsTo P (exec c s) := by
  cases c with
  | join | getStatus | clearFault | softReset | pinReset => exact nomatch hc
  | loadStrand p => exact K.execLoadStrand p h
  | loadCause p => exact K.execLoadCause p h
  | loadSlice p => exact K.execLoadSlice p h
  | strapLatched pins => exact .quiet h fun hd => K.straps pins h (by simpa using hd)
  | nop | identify | getClaims | getFault => exact .released h (.next (K.replies h))
  | cast =>
    refine .released h ?_
    split
    · next hs => exact .next (K.replies (K.cast h hs))
    · exact .next (K.replies h)
  | park => exact K.execPark h
  | stop code => exact K.execStop code h
  | release => exact K.execRelease h
  | take => exact K.execTake h
  | tundishBegin => exact K.execTundish h id
  | tundishReady limit => exact K.execTundish h And.left
  | getPeer k | getReport k =>
    refine .released h ?_
    split <;> exact .next (K.replies h)
  | commandRecordRejected bytes =>
    refine .released h ?_
    split
    · exact .next (K.replies h)
    · exact .next h
  | emptyFrame => exact .released h (.next h)
  | inputEdgeAccepted edge => exact .quiet h fun _ => K.input _ _ h
  | sampleRecord bytes ff => exact .occasion K h fun _ => K.sampled bytes ff h
  | samplesGoStale => exact .occasion K h fun _ => K.stale h
  | referenceRecordStart | referenceRecordEnd =>
    exact .quiet h fun _ => K.aside h (by constructor <;> simp)
  | rampTick | dwellEnd | levelHoldTimeout => exact .occasion K h fun _ => K.tick h
  | freezeExpiry => exact .occasion K h fun he => K.freeze h he
  | marginTimerExpiry => exact .occasion K h fun _ => K.selfTake (K.urgency h)
  | handbackTimerExpiry =>
    exact .occasion K h fun _ => K.capture _ _ (K.aside h (by constructor <;> simp))
  | drawSettle => exact .occasion K h fun hc => K.drawSettles h (by simp_all)
  | startSettleExpiry => exact .occasion K h fun hc => K.startSettles h (by simp_all)
  | tenureTimerExpiry => exact .occasion K h fun hc => K.timeout h (by simp_all)
  | beaconTimerExpiry => exact .quiet h fun _ => K.beacon (K.aside h (by constructor <;> simp))
  | listenTimerExpiry => exact .occasion K h fun hc => K.listenEnds h (by simp_all)
  | silenceTimerExpiry => exact .occasion K h fun hc => K.deaf _ h (by simp_all)
  | transmissionStart levels => exact .released h (.next (K.levels levels h))
  | transmissionAbort =>
    refine .released h ?_
    split
    · next t ht => exact .next (K.abort t h ht)
    · exact .next h
  | ownFrameEnd => exact K.execOwnFrameEnd h
  | beaconReceived k b => exact K.frameRow h fun _ hr => K.takesBeacon k b hr
  | claimReceived k c => exact K.execClaimReceived k c h
  | withdrawReceived k kind n =>
    refine K.frameRow h fun _ hr => K.leave _ hr fun e he => ?_
    simp only [withdrawnBy, Bool.and_eq_true, Bool.not_eq_true'] at he
    exact he.1
  | releaseReceived k r => exact K.frameRow h fun _ hr => K.takesRelease k r hr
  | clearReceived k target => exact K.frameRow h fun _ hr => K.takesClear target hr
  | eventBeginReceived k e => exact K.frameRow h fun _ hr => K.begins e hr
  | eventReadyReceived k e l => exact K.frameRow h fun _ hr => K.readyEvent e l hr
  | badFrameReceived bytes ff =>
    exact .occasion K h fun hb => K.frameTaken h (K.badFrame h (by simp_all [State.isBadFrame]))
  | duplicateStation kind => exact .occasion K h fun hb => K.frameTaken h (K.bar kind h hb)
  | peerSuspect k => exact .occasion K h fun _ => K.drawView (K.overcommit (K.peer k _ h))
  | peerLost k => exact .occasion K h fun _ => K.lost k h
  | claimLifetimeExpiry k kind =>
    refine .occasion K h fun _ => K.leave _ h fun e he => ?_
    unfold lapsed at he
    split at he
    · next ho => simp [ClaimEntry.isOwn, ho]
    · simp at he
  | inputFilterSample raw => exact K.execSamples raw h

end Kept

/-! ### The special rows and the step -/

/-- The special rows and the passing of a bit time keep `P` as well. JOIN acts in UNJOINED, where every
cross-check passes. -/
structure KeptBySteps (P : State → Prop) : Prop extends Kept P where
  join : ∀ {s}, P s → s.rsq.state = .unjoined → s.joinFailure = none → P (joinLine s)
  read : ∀ {s}, P s → P { s with cpn := { s.cpn with events := EventNotices.empty } }
  cleared : ∀ {s}, P s → P { s with cpn := { s.cpn with fault := FaultRecord.clear } }
  reset : ∀ raw cpn pending, P { State.afterPinReset raw with cpn := cpn, pending := pending }
  time : ∀ {s}, P s → s.firstDue = none → s.rstLow = false → P (advance s)

namespace KeptBySteps

variable {P : State → Prop} {s : State}

theorem execJoin (K : KeptBySteps P) (h : P s) : LeadsTo P (execJoin s) := by
  refine K.unjoinedOnly h fun hs => ?_
  split
  · exact .next (K.replies h)
  · next hf => exact K.occurs h (K.join h hs hf)

/-- Every row keeps `P`. -/
theorem execAll (K : KeptBySteps P) (c : Instr) (h : P s) : LeadsTo P (exec c s) := by
  cases hc : Instr.special c with
  | false => exact K.exec c hc h
  | true =>
    cases c with
    | join => exact K.execJoin h
    | getStatus => exact .released h (.next (K.replies (K.read h)))
    | clearFault => exact .released h (.next (K.replies (K.cleared h)))
    | softReset raw => exact .released h (.next (K.reset raw _ _))
    | pinReset raw => exact .next (K.reset raw _ _)
    | _ => exact nomatch hc

theorem step (K : KeptBySteps P) (h : P s) : LeadsTo P (step s) := by
  unfold Machine.step
  split
  · exact K.execAll _ (K.aside h (by constructor <;> simp))
  · split
    · exact K.execAll _ h
    · next hdue =>
      cases hr : s.rstLow with
      | false => exact .next (K.time h hdue hr)
      | true =>
        have hstands : advance s = s := by simp [advance, hr]
        exact .next (hstands.symm ▸ h)

end KeptBySteps

end Sys2Proof.Machine
end

section
/-! SUPPORT. Laws that every single change keeps: `Traced P` says that `P` survives each change of a claim
list, of the transmit queue, of the fault record, of the notices and of what raises one; `Traced.kept` draws
from it that the shared operations, and so the rows, keep `P`. The laws of the claim list (R127), of the
transmit queue (R142), of the fault record (R182) and of the notices (R181) are of this kind. -/

namespace Sys2Proof.Machine

/-- Each single change that an operation makes to what these laws read keeps `P`. -/
structure Traced (P : State → Prop) : Prop where
  same : ∀ {s t}, P s → (t.pvu.claims = s.pvu.claims ∧ t.lnc.queue = s.lnc.queue
    ∧ t.lnc.line = s.lnc.line ∧ t.dbu.limit = s.dbu.limit ∧ t.cpn.events = s.cpn.events
    ∧ t.cpn.fault = s.cpn.fault ∧ t.cpn.ring = s.cpn.ring ∧ t.rsq.state = s.rsq.state
    ∧ t.lnc.beacon = s.lnc.beacon ∧ (s.lnc.tx = none → t.lnc.tx = none)) → P t
  place : ∀ {s} k n a, P s → P { s with pvu := s.pvu.placeOwn s.ownStation k n a }
  status : ∀ {s} k st, P s → P { s with pvu := s.pvu.setOwnStatus k st }
  remove : ∀ {s} k, P s → P { s with pvu := s.pvu.removeOwn k }
  removed : ∀ {s} gone, P s → P (removeClaims gone s)
  entered : ∀ {s} e, P s → e.station < 8 → P (enterClaim e s)
  queue : ∀ {s} f, P s → P (queueFrame f s)
  beacon : ∀ {s}, P s → P (requestBeacon s)
  dropClear : ∀ {s}, P s → P { s with lnc := s.lnc.dropClear }
  silence : ∀ {s}, P s → P { s with lnc := { s.lnc with queue := [], beacon := .empty, tx := none } }
  start : ∀ {s} h, P s → s.startable = some h → P (startFrame h s)
  abort : ∀ {s} t, P s → s.lnc.tx = some t → P (abortFrame t s)
  capture : ∀ {s} k d, P s → P (capture k d s)
  stamp : ∀ {s t}, P s → P t → P (stampFault s t)
  noted : ∀ {s} n, P s → P (notify n s)
  report : ∀ {s} r, P s → P (writeReport r s)
  limit : ∀ {s} l, P s → P (notify .limitChanged { s with dbu := { s.dbu with limit := l } })
  line : ∀ {s} q, P s → (q.allowsBeacon = false → s.lnc.queue = [] ∧ s.lnc.beacon = .empty ∧ s.lnc.tx = none) →
    P (notify .lineChanged { s with lnc := { s.lnc with line := q } })
  state : ∀ {s} r, P s → r.state ≠ .ramping → P { s with rsq := r }
  ramping : ∀ {s} r, P s → P (notify .rampStarted { s with rsq := r })

namespace Traced

variable {P : State → Prop} {s : State}

/-! ### Draw -/

theorem overcommit (T : Traced P) (h : P s) : P (evalOvercommit s) := by
  have h1 : P { s with dbu := { s.dbu with overcommit := s.overcommitted } } := T.same h (by simp)
  unfold evalOvercommit
  dsimp only
  split
  · exact T.capture _ _ h1
  · exact h1

theorem granted (T : Traced P) (g : Nat) (h : P s) : P (setGranted g s) :=
  T.overcommit (T.same h (by simp))

theorem setLimit (T : Traced P) (l : Nat) (h : P s) : P (setLimit l s) := by
  unfold Machine.setLimit
  split
  · exact h
  · exact T.overcommit (T.limit l h)

theorem drawIn (T : Traced P) (n a : Nat) (f : QueuedFrame) (d : Dbu) (hd : d.limit = s.dbu.limit)
    (h : P s) :
    P { s with dbu := d, pvu := s.pvu.placeOwn s.ownStation .draw n a, lnc := s.lnc.queueFrame f } :=
  T.same (T.queue f (T.place .draw n a h)) (by simp [queueFrame, hd])

theorem formDraw (T : Traced P) (h : P s) : P (formDraw s) := by
  unfold Machine.formDraw
  split
  · exact h
  · dsimp only
    split
    · exact T.same h (by simp)
    · exact T.drawIn _ _ _ _ rfl h

theorem soloRaise (T : Traced P) (n : Nat) (h : P s) : P (soloRaise n s) := by
  have h1 : P { s with dbu := { s.dbu with claim := .none, need := none } } := T.same h (by simp)
  unfold Machine.soloRaise
  dsimp only
  split
  · exact T.beacon (T.granted _ h1)
  · exact h1

theorem need (T : Traced P) (n : Nat) (h : P s) : P (giveNeed n s) := by
  unfold giveNeed
  split
  · split
    · exact T.formDraw (T.same h (by simp))
    · exact T.formDraw (T.same h (by simp))
    · exact T.same h (by simp)
    all_goals exact h
  · exact T.same h (by simp)
  · exact T.soloRaise n h
  · exact T.soloRaise n h
  · exact h

theorem drawOut (T : Traced P) (f : QueuedFrame) (d : Dbu) (hd : d.limit = s.dbu.limit) (h : P s) :
    P { s with dbu := d, pvu := s.pvu.removeOwn .draw, lnc := s.lnc.queueFrame f } :=
  T.same (T.queue f (T.remove .draw h)) (by simp [queueFrame, hd])

theorem withdrawn (T : Traced P) (h : P s) : P (countWithdrawn s) := by
  unfold countWithdrawn
  split
  · exact T.same h (by simp)
  · exact h

theorem drawView (T : Traced P) (h : P s) : P (drawViewChange s) := by
  unfold drawViewChange
  split
  · split
    · exact T.formDraw h
    · exact h
  · split
    · exact T.withdrawn (T.drawOut _ _ rfl h)
    · exact h
  · split
    · exact T.formDraw (T.same h (by simp))
    · exact h
  all_goals exact h

theorem drawWithdraw (T : Traced P) (h : P s) : P (drawWithdraw s) := by
  unfold Machine.drawWithdraw
  split
  · exact h
  · exact T.same h (by simp)
  · exact T.same h (by simp)
  all_goals exact T.drawOut _ _ rfl h

theorem drawLost (T : Traced P) (h : P s) : P (drawLineLost s) := by
  have h1 : P (if s.dbu.claim.outstanding then
        countWithdrawn
          { s with
            dbu := { s.dbu with settleAt := none }
            pvu := s.pvu.removeOwn .draw
            lnc := s.lnc.queueFrame (.withdraw .draw s.dbu.claimNumber) }
      else s) := by
    split
    · exact T.withdrawn (T.drawOut _ _ rfl h)
    · exact h
  unfold drawLineLost
  dsimp only
  split
  · exact T.soloRaise _ h1
  · exact T.same h1 (by simp)

theorem dropNeed (T : Traced P) (h : P s) : P (dropHeldNeed s) := T.same h (by simp)

theorem resendDraw (T : Traced P) (h : P s) : P (resendDraw s) := by
  unfold Machine.resendDraw
  dsimp only
  split
  · split
    · exact h
    · exact T.queue _ h
  · exact T.same (T.queue (.claim .draw s.dbu.claimNumber s.dbu.amount s.pst.strand.settleTime)
      (T.status .draw .sent h)) (by simp [queueFrame])
  all_goals exact h

theorem settled (T : Traced P) (h : P s) : P (settleDraw s) :=
  T.granted _ (T.same (T.remove .draw h) (by simp))

theorem drawSent (T : Traced P) (n : Nat) (h : P s) : P (drawSent n s) := by
  unfold Machine.drawSent
  split
  · exact T.same (T.status .draw .contending h) (by simp)
  · exact h

theorem startSent (T : Traced P) (n : Nat) (h : P s) : P (startSent n s) := by
  unfold Machine.startSent
  split
  · exact T.same (T.status .start .contending h) (by simp)
  · exact h

/-! ### The start slot -/

theorem repeatStart (T : Traced P) (h : P s) : P (repeatStart s) :=
  T.same (T.queue (s.startFrame s.ssu.claimNumber) (T.status .start .sent h))
    (by simp [queueFrame, Machine.repeatStart])

theorem resendStart (T : Traced P) (h : P s) : P (resendStart s) := by
  unfold Machine.resendStart
  split
  · split
    · exact h
    · exact T.repeatStart h
  · exact T.repeatStart h
  · exact T.repeatStart h
  · exact h

theorem retest (T : Traced P) (h : P s) : P (retestStart s) := by
  unfold retestStart
  split
  · exact T.repeatStart h
  · exact h

theorem clearTest (T : Traced P) (h : P s) : P (clearTest s) := by
  unfold Machine.clearTest
  split
  · split
    · next p _ _ => exact T.same (T.queue (.clear p) h) (by simp [queueFrame])
    · exact h
  · exact h

theorem holder (T : Traced P) (v : Option Nat) (h : P s) : P (setHolder v s) := by
  unfold setHolder
  split
  · exact h
  · exact T.clearTest (T.retest (T.same (T.dropClear h) (by simp)))

theorem waits (T : Traced P) (h : P s) : P (startWaits s) :=
  T.clearTest (T.same (T.status .start .waiting h) (by simp))

theorem withdrawStart (T : Traced P) (h : P s) : P (withdrawStart s) := by
  have h1 : P (if s.ssu.claim = .none then s
      else { s with lnc := s.lnc.queueFrame (.withdraw .start s.ssu.claimNumber) }) := by
    split
    · exact h
    · exact T.queue _ h
  refine T.same (T.dropClear (T.remove .start h1)) ?_
  unfold Machine.withdrawStart
  dsimp only
  split <;> simp

theorem tenureEnd (T : Traced P) (r : ReleaseReason) (h : P s) : P (endTenure r s) := by
  have h1 : P { s with
      ssu := { s.ssu with tenure := false, tenureAt := none, clearPending := false }
      lnc := s.lnc.queueFrame (.release r) } :=
    T.same (T.queue (.release r) h) (by simp [queueFrame])
  unfold endTenure
  split
  · dsimp only
    split
    · exact T.beacon (T.holder _ h1)
    · exact T.beacon h1
  · exact h

theorem withdrawClaims (T : Traced P) (h : P s) : P (withdrawClaims s) :=
  T.tenureEnd _ (T.withdrawStart (T.same (T.drawWithdraw h) (by simp)))

/-! ### Urgency and the first point -/

theorem urgency (T : Traced P) (h : P s) : P (refreshUrgency s) := by
  unfold refreshUrgency
  split
  · exact h
  · have h1 : P (requestBeacon { s with rsq := { s.rsq with urgency := s.computeUrgency } }) :=
      T.beacon (T.same h (by simp))
    dsimp only
    split
    · exact T.resendStart (T.resendDraw h1)
    · exact h1

theorem creep (T : Traced P) (h : P s) : P (creepTest s) := by
  unfold creepTest
  split
  · exact T.urgency (T.same h (by simp))
  · exact h

theorem enterRamping (T : Traced P) (h : P s) : P (enterRamping s) := by
  unfold Machine.enterRamping
  exact T.urgency (T.creep (T.beacon (T.ramping _ h)))

theorem firstPoint (T : Traced P) (h : P s) : P (firstPointTest s) := by
  unfold firstPointTest
  split
  · split
    · exact T.enterRamping h
    · split
      · exact h
      · dsimp only
        split
        · exact T.enterRamping (T.need _ h)
        · exact T.need _ h
  · exact h

theorem drive (T : Traced P) (h : P s) : P (driveTest s) := by
  unfold driveTest
  split
  · exact T.firstPoint (T.withdrawStart (T.same h (by simp)))
  · exact h

theorem slot (T : Traced P) (n : Nat) (h : P s) : P (takeSlot n s) := by
  unfold takeSlot
  refine T.drive (T.beacon (T.same (T.dropClear (T.remove .start h)) ?_))
  simp [slotTaken]

theorem formStart (T : Traced P) (h : P s) : P (formStart s) := by
  have h1 := T.place .start (nextNumber s.ssu.claimNumber s.ssu.lastSettled) 0 h
  exact T.same (T.queue (s.startFrame (nextNumber s.ssu.claimNumber s.ssu.lastSettled)) h1)
    (by simp [queueFrame, Machine.formStart])

theorem request (T : Traced P) (h : P s) : P (actOnRequest s) := by
  unfold actOnRequest
  split
  · split
    · exact T.formStart h
    · split
      · exact T.slot _ h
      · exact h
    · split
      · exact T.slot _ h
      · exact h
    all_goals exact h
  · exact h

/-! ### The sequencer -/

theorem preconditions (T : Traced P) (h : P s) : P (evalPreconditions s) := by
  unfold evalPreconditions
  split
  · split
    · have h1 : P (refreshUrgency (requestBeacon { s with rsq := { s.rsq with state := .queued } })) :=
        T.urgency (T.beacon (T.state _ h (by simp)))
      unfold enterQueued
      dsimp only
      split
      · exact T.drive h1
      · exact T.request (T.same h1 (by simp))
    · exact h
  · split
    · exact h
    · exact T.urgency (T.beacon (T.withdrawClaims (T.state _ h (by simp))))
  all_goals exact h

theorem changed (T : Traced P) (b : State) (h : P s) : P (beaconIfChanged b s) := by
  unfold beaconIfChanged
  split
  · exact h
  · exact T.beacon h

theorem attemptsCleared (T : Traced P) (h : P s) : P { s with ssu := { s.ssu with attempts := 0 } } :=
  T.same h (by simp)

theorem reference (T : Traced P) (h : P s) : P (requestReference s) := T.same h (by simp)

theorem stopEntry (T : Traced P) (c : Cause) (b : State) (h : P s) : P (stopEntry c b s) := by
  have h1 : P { s with rsq := { s.rsq with
      runReq := s.rsq.runReq && decide (c ≠ .dip)
      speed := (s.entryOf s.rsq.pendingSet.profile).holdSpeed } } := T.same h (by simp)
  exact T.changed b (T.urgency (T.noted _ (T.reference (T.attemptsCleared (T.withdrawClaims
    (T.granted _ h1))))))

theorem push (T : Traced P) (h : P s) : P (pushContext s) := by
  have h1 : P (dropBottom s) := by
    unfold dropBottom
    split
    · next bottom _ =>
      split
      · exact T.same (T.capture .stackDrop (causeCode bottom.cause).toNat
          (T.report (s.contextReport .dropped bottom) h)) (by simp)
      · exact h
    · exact h
  exact T.same h1 (by simp [pushContext])

theorem stop (T : Traced P) (c : Cause) (e : Option Nat) (h : P s) : P (stopEvent c e s) := by
  unfold stopEvent
  split
  iterate 3 exact h
  · exact T.preconditions (T.stopEntry _ _ (T.state _ h (by simp)))
  · exact T.preconditions (T.stopEntry _ _ (T.state _ h (by simp)))
  · exact T.preconditions (T.stopEntry _ _ (T.state _ h (by simp)))
  · exact T.preconditions (T.stopEntry _ _ (T.state _ (T.push h) (by simp)))
  · exact T.preconditions (T.stopEntry _ _ (T.state _ h (by simp)))

theorem sequencer (T : Traced P) (r : Rsq) (u : Ssu) (hr : r.state ≠ .ramping) (h : P s) :
    P { s with rsq := r, ssu := u } :=
  T.same (T.state r h hr) (by simp)

theorem feedback (T : Traced P) (h : P s) : P (trackFeedback s) := by
  unfold trackFeedback
  split
  · exact T.granted _ h
  · exact h

theorem giveUp (T : Traced P) (q : SeqState) (hq : q ≠ .ramping) (h : P s) :
    P (giveUpAuthority q s) :=
  T.urgency (T.feedback (T.beacon (T.reference (T.sequencer _ _ hq (T.withdrawClaims h)))))

theorem clearStack (T : Traced P) (o : ReportOutcome) (h : P s) : P (clearStack o s) := by
  have fold : ∀ (l : List Context) (u : State), P u →
      P (l.foldl (fun t c => writeReport (s.contextReport o c) t) u) := by
    intro l
    induction l with
    | nil => exact fun u hu => hu
    | cons c l ih => exact fun u hu => ih _ (T.report _ hu)
  exact T.same (fold s.rsq.stack _ (T.report (s.runningReport o) h)) (by simp [Machine.clearStack])

theorem abandon (T : Traced P) (h : P s) : P (enterAbandoned s) := by
  have h1 := T.withdrawClaims (T.clearStack .abandoned h)
  exact T.urgency (T.beacon (T.reference (T.granted 0 (T.sequencer _ _ (by simp) h1))))

theorem handback (T : Traced P) (h : P s) : P (enterHandback s) :=
  T.urgency (T.beacon (T.state _ (T.withdrawClaims (T.report _ h)) (by simp)))

theorem timeout (T : Traced P) (h : P s) : P (tenureTimeout s) := by
  have h1 : ∀ n, P (startTimeout n s) := fun n =>
    T.tenureEnd _ (T.same (T.capture .startTimeout n h) (by simp))
  unfold tenureTimeout
  split
  · exact T.tenureEnd _ h
  · split
    · exact T.request (h1 1)
    · exact T.abandon (h1 2)

theorem pop (T : Traced P) (c : Context) (rest : List Context) (h : P s) : P (popContext c rest s) := by
  unfold popContext
  exact T.changed s (T.urgency (T.creep (T.same (T.report (s.runningReport .resumed) h) (by simp))))

theorem point (T : Traced P) (h : P s) : P (completePoint s) := by
  have h1 : P { s with rsq := { s.rsq with
      levelHold := false
      counters := { s.rsq.counters with pointsCompleted := s.rsq.counters.pointsCompleted + 1 } } } :=
    T.same h (by simp)
  unfold completePoint
  dsimp only
  split
  · split
    · exact T.pop _ _ h1
    · exact T.same h1 (by simp)
  · split
    · exact T.handback h1
    · exact T.same h1 (by simp)

theorem idle (T : Traced P) (q : SeqState) (hq : q ≠ .ramping) (h : P s) : P (moveIdle q s) :=
  T.urgency (T.beacon (T.state _ h (by simpa using hq)))

/-! ### Tundish and line -/

theorem begins (T : Traced P) (e : Nat) (h : P s) : P (takeBegin e s) := by
  unfold takeBegin
  split
  · exact T.beacon (T.stop _ _ (T.same h (by simp)))
  · exact h

theorem adoptLimit (T : Traced P) (l : Option Nat) (h : P s) : P (adoptLimit l s) := by
  unfold Machine.adoptLimit
  split
  · split
    · exact T.setLimit _ h
    · exact h
  · exact h

theorem tundishBeacon (T : Traced P) (b : State) (h : P s) : P (beaconIfTundishChanged b s) := by
  unfold beaconIfTundishChanged
  split
  · exact h
  · exact T.beacon h

theorem ready (T : Traced P) (e : Nat) (l : Option Nat) (h : P s) : P (takeReady e l s) := by
  unfold takeReady
  split
  · exact T.preconditions (T.tundishBeacon _ (T.adoptLimit l (T.same h (by simp))))
  · split
    · exact T.preconditions (T.tundishBeacon _ (T.adoptLimit l (T.same h (by simp))))
    · exact h

theorem adopt (T : Traced P) (b : BeaconFields) (h : P s) : P (adoptEpoch b s) :=
  T.preconditions (T.tundishBeacon _ (T.adoptLimit _ (T.same h (by simp))))

theorem lineBeacon (T : Traced P) (q : LineState) (h : P s) : P (lineBeacon q s) := by
  unfold Machine.lineBeacon
  split
  · exact T.same (T.beacon h) (by simp [requestBeacon])
  · exact h

theorem blocks (T : Traced P) (q : LineState) (h : P s) :
    P (startLineChange q (drawLineChange q s)) := by
  cases q with
  | active => exact T.request (T.drawView h)
  | deaf | barred => exact T.request (T.withdrawStart (T.drawLost h))
  | off | listen => exact h

/-- A change of line state, once the line stands on its new state. -/
theorem changeLine (T : Traced P) (q : LineState)
    (h : P (notify .lineChanged { s with lnc := { s.lnc with line := q } })) : P (changeLine q s) :=
  T.lineBeacon q (T.firstPoint (T.blocks q h))

theorem bar (T : Traced P) (k : FrameKind) (h : P s) : P (enterBarred k s) := by
  refine T.changeLine _ (T.line _ ?_ fun _ => ⟨rfl, rfl, rfl⟩)
  exact T.same (T.silence (T.capture .duplicateStation (frameKindCode k).toNat h)) (by simp)

/-! ### Inputs -/

theorem edge (T : Traced P) (i : Input) (rises : Bool) (h : P s) : P (giveEdge i rises s) := by
  unfold giveEdge
  split
  · split
    · exact T.preconditions h
    · exact T.stop _ _ h
  · split
    · unfold drvReadyRise
      dsimp only
      split
      · exact T.tenureEnd _ (T.drive h)
      · exact T.drive h
    · split
      · exact T.stop _ _ h
      · exact h
  · split
    · exact T.stop _ _ h
    · exact h
  · exact T.preconditions h

theorem input (T : Traced P) (i : Input) (raw : Bool) (h : P s) : P (sampleInput i raw s) := by
  have h1 : P { s with spu := { s.spu with inputs := inputSet s.spu.inputs i (s.sampledFilter i raw) } } :=
    T.same h (by simp)
  unfold sampleInput
  dsimp only
  split
  · exact h1
  · exact T.stamp h (T.edge i raw h1)

/-- Every shared operation keeps what every single change keeps. -/
theorem kept (T : Traced P) : Kept P where
  aside h a := by
    obtain ⟨hline, hqueue, hbeacon, htx⟩ := a.lnc
    obtain ⟨hevents, hfault, hring, -⟩ := a.port
    exact T.same h ⟨a.claims, hqueue, hline, a.dbu.1, hevents, hfault, hring, a.seq.1, hbeacon,
      htx.trans⟩
  stamp := T.stamp
  capture := T.capture
  beacon := T.beacon
  frame f h _ := T.queue f h
  removed gone h _ := T.removed gone h
  entered e h _ hk _ := T.entered e h hk
  drawView := T.drawView
  holder := T.holder
  retest := T.retest
  waits h _ := T.waits h
  tenureEnd := T.tenureEnd
  urgency := T.urgency
  creep := T.creep
  need n h _ _ := T.need n h
  dropNeed := T.dropNeed
  firstPoint := T.firstPoint
  request := T.request
  slot n h _ := T.slot n h
  settled h _ := T.settled h
  drawSent := T.drawSent
  startSent := T.startSent
  timeout h _ := T.timeout h
  stop := T.stop
  begins := T.begins
  ready := T.ready
  adopt := T.adopt
  latch h _ := T.preconditions (T.same h (by simp))
  cast h _ := T.idle _ (by decide) h
  park h _ := T.idle _ (by decide) h
  giveUp q h _ hq := T.giveUp q (by rintro rfl; simp at hq) h
  giveUpAll q o h _ hq := T.giveUp q (by rintro rfl; simp at hq) (T.clearStack o h)
  abandon h _ := T.abandon h
  point h _ := T.point h
  line q h _ hq := T.changeLine q (T.line q h fun hn => by
    rcases hq with rfl | rfl <;> exact nomatch hn)
  bar k h _ := T.bar k h
  start := T.start
  abort := T.abort
  ended h := T.same h (by simp)
  input := T.input
  store _ _ _ h _ := T.same h (by simp)
  straps pins h _ := T.same h (by rw [sampleStraps_does]; simp)

/-- JOIN keeps what a limit set without a notice (R101) and the line in LISTEN keep as well. -/
theorem joined (T : Traced P) (hl : ∀ {s} l, P s → P { s with dbu := { s.dbu with limit := l } })
    (hlisten : P s.atJoin → P (notify .lineChanged { s.atJoin with lnc := { s.atJoin.lnc with line := .listen } }))
    (h : P s) : P (joinLine s) := by
  have h1 : P { s with rsq := { s.rsq with state := .parked } } := T.state _ h (by simp)
  have h2 : P s.atJoin := T.same (hl s.pst.strand.initialLimit h1) (by simp [State.atJoin])
  exact T.overcommit (T.feedback (T.changeLine _ (hlisten h2)))

theorem time (T : Traced P) (h : P s) : P (advance s) := by
  unfold advance nextMs lineBit
  dsimp only
  split
  · exact h
  · split <;> exact T.same h (by simp)

end Traced

end Sys2Proof.Machine
end

section
/-! SUPPORT. The laws that every single change keeps: the claim list (R127), the transmit queue (R142), the
fault record (R182, R184) and the notices (R181). -/

namespace Sys2Proof.Machine

/-! ### The claim list (R127) -/

/-- Two entries are of different stations or kinds. -/
abbrev ClaimEntry.Apart (a b : ClaimEntry) : Prop := a.station ≠ b.station ∨ a.kind ≠ b.kind

/-- An entry goes to the end of a list once its station's entry of that kind has left. -/
theorem ClaimsDistinct.append {s t : State} {e : ClaimEntry} (h : ClaimsDistinct s) (he : e.station < 8)
    (ht : t.pvu.claims
      = s.pvu.claims.filter (fun g => !decide (g.station = e.station ∧ g.kind = e.kind)) ++ [e]) :
    ClaimsDistinct t := by
  obtain ⟨hpair, hlt⟩ := h
  rw [ClaimsDistinct, ht]
  refine ⟨List.pairwise_append.mpr ⟨hpair.filter _, List.pairwise_singleton _ _, ?_⟩, ?_⟩
  · intro g hg e' he'
    obtain rfl := List.mem_singleton.mp he'
    have hne := (List.mem_filter.mp hg).2
    simp only [Bool.not_eq_true', decide_eq_false_iff_not, not_and_or] at hne
    exact hne
  · intro g hg
    rcases List.mem_append.mp hg with hg | hg
    · exact hlt g (List.mem_filter.mp hg).1
    · exact List.mem_singleton.mp hg ▸ he

theorem ClaimsDistinct.filter {s t : State} (h : ClaimsDistinct s) (p : ClaimEntry → Bool)
    (ht : t.pvu.claims = s.pvu.claims.filter p) : ClaimsDistinct t := by
  obtain ⟨hpair, hlt⟩ := h
  rw [ClaimsDistinct, ht]
  exact ⟨hpair.filter _, fun e he => hlt e (List.mem_filter.mp he).1⟩

/-- A change of entries in their places that keeps station and kind. -/
theorem ClaimsDistinct.map {s t : State} (h : ClaimsDistinct s) (f : ClaimEntry → ClaimEntry)
    (hf : ∀ e, (f e).station = e.station ∧ (f e).kind = e.kind)
    (ht : t.pvu.claims = s.pvu.claims.map f) : ClaimsDistinct t := by
  obtain ⟨hpair, hlt⟩ := h
  rw [ClaimsDistinct, ht]
  refine ⟨List.pairwise_map.mpr (hpair.imp fun {a b} hab => ?_), fun e he => ?_⟩
  · rw [(hf a).1, (hf a).2, (hf b).1, (hf b).2]
    exact hab
  · obtain ⟨g, hg, rfl⟩ := List.mem_map.mp he
    rw [(hf g).1]
    exact hlt g hg

/-- The place of an entry among the sixteen of eight stations and two kinds. -/
def ClaimEntry.place (e : ClaimEntry) : Nat :=
  match e.kind with
  | .draw => 2 * e.station
  | .start => 2 * e.station + 1

theorem ClaimEntry.place_ne {a b : ClaimEntry} (h : a.Apart b) : a.place ≠ b.place := by
  unfold ClaimEntry.place
  have hne : a.kind = b.kind → a.station ≠ b.station := fun hk => h.resolve_right fun hn => hn hk
  cases ha : a.kind <;> cases hb : b.kind <;> simp only [ha, hb, forall_const] at hne ⊢ <;> omega

theorem ClaimEntry.place_lt {e : ClaimEntry} (h : e.station < 8) : e.place < 16 := by
  unfold ClaimEntry.place
  split <;> omega

/-- Eight stations and two kinds make sixteen entries. -/
theorem ClaimsDistinct.length_le {s : State} (h : ClaimsDistinct s) : s.pvu.claims.length ≤ 16 := by
  obtain ⟨hpair, hlt⟩ := h
  have hnodup : (s.pvu.claims.map ClaimEntry.place).Nodup :=
    List.pairwise_map.mpr (hpair.imp ClaimEntry.place_ne)
  have hsub : s.pvu.claims.map ClaimEntry.place ⊆ List.range 16 := by
    intro n hn
    obtain ⟨e, he, rfl⟩ := List.mem_map.mp hn
    exact List.mem_range.mpr (ClaimEntry.place_lt (hlt e he))
  simpa using (List.subperm_of_subset hnodup hsub).length_le

/-- What touches no entry keeps them distinct. -/
theorem ClaimsDistinct.of_claims {s t : State} (h : ClaimsDistinct s)
    (ht : t.pvu.claims = s.pvu.claims) : ClaimsDistinct t := by
  rw [ClaimsDistinct, ht]
  exact h

theorem startFrame_claims (hd : Head) (s : State) : (startFrame hd s).pvu = s.pvu := by
  cases hd <;> rfl

theorem abortFrame_claims (t : Transmission) (s : State) : (abortFrame t s).pvu = s.pvu := by
  unfold abortFrame
  split <;> rfl

theorem stampFault_pvu (s t : State) : (stampFault s t).pvu = t.pvu := by
  rw [stampFault_does]

theorem claimsDistinct_traced : Traced ClaimsDistinct where
  same h e := h.of_claims e.1
  place k n a h := h.append (e := ⟨_, k, n, a, .own .sent⟩) (State.ownStation_lt _) rfl
  status k st h := h.map _ (fun e => by split <;> simp) rfl
  remove k h := h.filter _ rfl
  removed gone h := h.filter _ rfl
  entered e h he := h.append he rfl
  queue f h := h.of_claims rfl
  dropClear h := h.of_claims rfl
  beacon h := h.of_claims rfl
  silence h := h.of_claims rfl
  start hd h _ := h.of_claims (by rw [startFrame_claims])
  abort t h _ := h.of_claims (by rw [abortFrame_claims])
  capture k d h := h.of_claims rfl
  stamp _ h := h.of_claims (by rw [stampFault_pvu])
  noted n h := h.of_claims rfl
  report r h := h.of_claims rfl
  limit l h := h.of_claims rfl
  line q h _ := h.of_claims rfl
  state r h _ := h.of_claims rfl
  ramping r h := h.of_claims rfl

theorem claimsDistinct_kept : KeptBySteps ClaimsDistinct where
  toKept := claimsDistinct_traced.kept
  join h _ _ := claimsDistinct_traced.joined (fun _ h => h.of_claims rfl) (fun h => h.of_claims rfl) h
  read h := h.of_claims rfl
  cleared h := h.of_claims rfl
  reset _ _ _ := ⟨List.Pairwise.nil, fun _ he => nomatch he⟩
  time h _ _ := claimsDistinct_traced.time h

/-- Settles O12: an entry enters once its station's entry of that kind has left, and eight stations and two
kinds make sixteen. -/
theorem everyStepKeepsClaimsDistinct : Obligations.every_step_keeps_claims_distinct := by
  intro s t h hstep
  have ht : ClaimsDistinct t := (claimsDistinct_kept.step h).of_next t hstep
  exact ⟨ht, ht.length_le⟩

/-! ### The transmit queue (R142) -/

theorem SlotsDistinct.of_queue {s t : State} (h : SlotsDistinct s) (ht : t.lnc.queue = s.lnc.queue) :
    SlotsDistinct t := by
  rw [SlotsDistinct, ht]
  exact h

/-- The slots of a queue. -/
abbrev DistinctSlots (q : List QueuedFrame) : Prop := q.Pairwise fun f g => f.slot ≠ g.slot

/-- A frame is put in its own slot alone. -/
theorem putFrame_distinct (f : QueuedFrame) {q : List QueuedFrame} (h : DistinctSlots q) :
    DistinctSlots (putFrame f q) := by
  unfold putFrame
  split
  · have hslot : ∀ g : QueuedFrame, (if g.slot = f.slot then f else g).slot = g.slot := by
      intro g
      split
      · next hg => exact hg.symm
      · rfl
    refine List.pairwise_map.mpr (h.imp fun {a b} hab => ?_)
    rw [hslot a, hslot b]
    exact hab
  · next hnone =>
    refine List.pairwise_append.mpr ⟨h, List.pairwise_singleton _ _, fun a ha b hb => ?_⟩
    obtain rfl := List.mem_singleton.mp hb
    exact fun hs => hnone (List.any_eq_true.mpr ⟨a, ha, by simpa using hs⟩)

theorem queueWithdraw_distinct {l : Lnc} (k : ClaimKind) (n : Nat) (h : DistinctSlots l.queue) :
    DistinctSlots (l.queueWithdraw k n).queue := by
  unfold Lnc.queueWithdraw
  split
  · dsimp only
    split
    · exact putFrame_distinct _ (h.filter _)
    · exact h.filter _
  · exact putFrame_distinct _ h

theorem Lnc.queueFrame_distinct {l : Lnc} (f : QueuedFrame) (h : DistinctSlots l.queue) :
    DistinctSlots (l.queueFrame f).queue := by
  unfold Lnc.queueFrame
  split
  · split
    · exact queueWithdraw_distinct _ _ h
    · exact putFrame_distinct _ h
  · exact h

/-- An aborted frame returns to a slot that is then its own (R141, R143). -/
theorem requeue_distinct (f : QueuedFrame) {q : List QueuedFrame} (h : DistinctSlots q) :
    DistinctSlots (requeue f q) := by
  unfold requeue
  split
  · next hnone =>
    refine List.pairwise_cons.mpr ⟨fun g hg hs => ?_, h⟩
    exact List.find?_eq_none.mp hnone g hg (by simpa using hs.symm)
  · next g hfind =>
    have hmem : g ∈ q := List.mem_of_find?_eq_some hfind
    split
    · exact h.sublist (List.erase_sublist ..)
    · have hperm : (g :: q.erase g).Perm q := (List.perm_cons_erase hmem).symm
      exact hperm.pairwise_iff (fun hab => hab.symm) |>.mpr h

/-- The six slots beside BEACON. -/
def allSlots : List Slot := [.drawClaim, .startClaim, .release, .clear, .eventBegin, .eventReady]

theorem DistinctSlots.length_le {q : List QueuedFrame} (h : DistinctSlots q) : q.length ≤ 6 := by
  have hnodup : (q.map QueuedFrame.slot).Nodup := List.pairwise_map.mpr h
  have hsub : q.map QueuedFrame.slot ⊆ allSlots := fun k _ => by cases k <;> simp [allSlots]
  simpa [allSlots] using (List.subperm_of_subset hnodup hsub).length_le

theorem slotsDistinct_start (hd : Head) {s : State} (h : SlotsDistinct s) :
    SlotsDistinct (startFrame hd s) := by
  cases hd with
  | beacon => exact h
  | frame f => exact h.sublist (List.erase_sublist ..)

theorem slotsDistinct_abort (t : Transmission) {s : State} (h : SlotsDistinct s) :
    SlotsDistinct (abortFrame t s) := by
  unfold abortFrame
  split
  · exact h
  · exact requeue_distinct _ h

theorem slotsDistinct_traced : Traced SlotsDistinct where
  same h e := h.of_queue e.2.1
  place _ _ _ h := h
  status _ _ h := h
  remove _ h := h
  removed _ h := h
  entered _ h _ := h
  queue f h := Lnc.queueFrame_distinct f h
  dropClear h := h.filter _
  beacon h := h.of_queue (by simp)
  silence _ := List.Pairwise.nil
  start hd h _ := slotsDistinct_start hd h
  abort t h _ := slotsDistinct_abort t h
  capture _ _ h := h
  stamp _ h := h.of_queue (by rw [stampFault_does])
  noted _ h := h
  report _ h := h
  limit _ h := h
  line _ h _ := h
  state _ h _ := h
  ramping _ h := h

theorem slotsDistinct_kept : KeptBySteps SlotsDistinct where
  toKept := slotsDistinct_traced.kept
  join h _ _ := slotsDistinct_traced.joined (fun _ h => h) id h
  read h := h
  cleared h := h
  reset _ _ _ := List.Pairwise.nil
  time h _ _ := slotsDistinct_traced.time h

/-- Settles O13: a frame is put in place of the one its slot holds, and there are six slots. -/
theorem everyStepKeepsSlotsDistinct : Obligations.every_step_keeps_slots_distinct := by
  intro s t h hstep
  have ht : SlotsDistinct t := (slotsDistinct_kept.step h).of_next t hstep
  exact ⟨ht, DistinctSlots.length_le ht⟩

/-! ### The fault record (R182, R184) -/

/-- A record that was locked before has kept its first fault and has at most counted more. -/
structure FaultKept (r : FaultRecord) (t : State) : Prop where
  first : t.cpn.fault = { r with multiple := t.cpn.fault.multiple, later := t.cpn.fault.later }
  multiple : r.multiple = true → t.cpn.fault.multiple = true
  rises : r.later ≤ t.cpn.fault.later
  bounded : t.cpn.fault.later ≤ 255
  counted : t.cpn.fault ≠ r → t.cpn.fault.multiple = true

namespace FaultKept

variable {r : FaultRecord} {s t : State}

theorem refl (hl : s.cpn.fault.later ≤ 255) : FaultKept s.cpn.fault s :=
  ⟨rfl, id, Nat.le_refl _, hl, fun h => absurd rfl h⟩

theorem of_fault (h : FaultKept r s) (ht : t.cpn.fault = s.cpn.fault) : FaultKept r t := by
  obtain ⟨hfirst, hmultiple, hrises, hbounded, hcounted⟩ := h
  constructor <;> rw [ht] <;> assumption

theorem locked (h : FaultKept r s) (hr : r.locked = true) : s.cpn.fault.locked = true := by
  rw [h.first]
  exact hr

/-- A capture in a locked record counts a later fault (R184). -/
theorem captured (h : FaultKept r s) (hr : r.locked = true) (k : FaultKind) (d : Nat) :
    FaultKept r (capture k d s) := by
  have hfault : (capture k d s).cpn.fault
      = { s.cpn.fault with multiple := true, later := min 255 (s.cpn.fault.later + 1) } :=
    FaultRecord.capture_of_locked (h.locked hr) ..
  have hfirst := h.first
  have hrises := h.rises
  have hbounded := h.bounded
  constructor
  · rw [hfault, hfirst]
  · rw [hfault]
    exact fun _ => rfl
  · rw [hfault]
    dsimp only
    omega
  · rw [hfault]
    exact Nat.min_le_left _ _
  · rw [hfault]
    exact fun _ => rfl

/-- A record locked before the occurrence is not stamped (R182). -/
theorem stamped (h : FaultKept r s) (ht : FaultKept r t) (hr : r.locked = true) :
    FaultKept r (stampFault s t) := by
  rw [stampFault_of_locked_eq ((ht.locked hr).trans (h.locked hr).symm)]
  exact ht

end FaultKept

theorem startFrame_cpn (hd : Head) (s : State) : (startFrame hd s).cpn = s.cpn := by
  cases hd <;> rfl

theorem abortFrame_cpn (t : Transmission) (s : State) : (abortFrame t s).cpn = s.cpn := by
  unfold abortFrame
  split <;> rfl

theorem faultKept_traced {r : FaultRecord} (hr : r.locked = true) : Traced (FaultKept r) where
  same h e := h.of_fault e.2.2.2.2.2.1
  place _ _ _ h := h.of_fault rfl
  status _ _ h := h.of_fault rfl
  remove _ h := h.of_fault rfl
  removed _ h := h.of_fault rfl
  entered _ h _ := h.of_fault rfl
  queue _ h := h.of_fault rfl
  dropClear h := h.of_fault rfl
  beacon h := h.of_fault rfl
  silence h := h.of_fault rfl
  start hd h _ := h.of_fault (by rw [startFrame_cpn])
  abort t h _ := h.of_fault (by rw [abortFrame_cpn])
  capture k d h := h.captured hr k d
  stamp h ht := h.stamped ht hr
  noted _ h := h.of_fault rfl
  report _ h := h.of_fault rfl
  limit _ h := h.of_fault rfl
  line _ h _ := h.of_fault rfl
  state _ h _ := h.of_fault rfl
  ramping _ h := h.of_fault rfl

/-- Every row but CLEAR_FAULT and the resets keeps a first fault. -/
theorem exec_faultKept {c : Instr} {s t : State} (hx : exec c s = .next t)
    (hlocked : s.cpn.fault.locked = true) (hlater : s.cpn.fault.later ≤ 255)
    (hc : match c with | .clearFault | .softReset _ | .pinReset _ => False | _ => True) :
    FaultKept s.cpn.fault t := by
  have T := faultKept_traced hlocked
  have h : FaultKept s.cpn.fault s := .refl hlater
  have row : LeadsTo (FaultKept s.cpn.fault) (exec c s) := by
    cases hs : Instr.special c with
    | false => exact T.kept.exec c hs h
    | true =>
      cases c with
      | join =>
        exact T.kept.unjoinedOnly h fun _ => by
          split
          · exact .next (T.kept.replies h)
          · exact T.kept.occurs h (T.joined (fun _ h => h.of_fault rfl) (fun h => h.of_fault rfl) h)
      | getStatus => exact .released h (.next (T.kept.replies (h.of_fault rfl)))
      | clearFault | softReset | pinReset => exact hc.elim
      | _ => exact nomatch hs
  exact row.of_next t hx

/-- Settles O21: no capture touches the first fault of a locked record, and an occurrence stamps only a
record that it locks. -/
theorem firstFaultIsKept : Obligations.first_fault_is_kept := by
  intro c s t hx hlocked hlater
  have key := exec_faultKept hx hlocked hlater
  cases c with
  | clearFault | softReset | pinReset => trivial
  | _ =>
    obtain ⟨hfirst, hmultiple, hrises, hbounded, hcounted⟩ := key trivial
    exact ⟨hfirst, hmultiple, hrises, hbounded, hcounted⟩

end Sys2Proof.Machine
end

section
/-! SUPPORT. The notices (R181), the context stack (R67) and the places of the pending causes (R10). -/

namespace Sys2Proof.Machine

/-! ### The notices (R181) -/

/-- Every notice of `e` is present in `f`. -/
structure EventNotices.Within (e f : EventNotices) : Prop where
  stopTaken : e.stopTaken = true → f.stopTaken = true
  rampStarted : e.rampStarted = true → f.rampStarted = true
  reportReady : e.reportReady = true → f.reportReady = true
  limitChanged : e.limitChanged = true → f.limitChanged = true
  lineChanged : e.lineChanged = true → f.lineChanged = true

namespace EventNotices.Within

variable {e f g : EventNotices}

theorem refl (e : EventNotices) : e.Within e := ⟨id, id, id, id, id⟩

theorem trans (h : e.Within f) (k : f.Within g) : e.Within g where
  stopTaken he := k.stopTaken (h.stopTaken he)
  rampStarted he := k.rampStarted (h.rampStarted he)
  reportReady he := k.reportReady (h.reportReady he)
  limitChanged he := k.limitChanged (h.limitChanged he)
  lineChanged he := k.lineChanged (h.lineChanged he)

theorem raise (e : EventNotices) (n : EventNotice) : e.Within (e.raise n) := by
  obtain ⟨hstop, hramp, hreport, hlimit, hline⟩ := e.raise_cases n
  constructor
  · rw [hstop]; exact fun h => by simp [h]
  · rw [hramp]; exact fun h => by simp [h]
  · rw [hreport]; exact fun h => by simp [h]
  · rw [hlimit]; exact fun h => by simp [h]
  · rw [hline]; exact fun h => by simp [h]

end EventNotices.Within

/-- From `s` to `t` each change that R181 names has raised its notice, and no notice has left the set. The
change of L counts only where `limits` holds, since JOIN sets L without a notice (R101). -/
structure Noticed (limits : Prop) (s t : State) : Prop where
  line : t.lnc.line ≠ s.lnc.line → t.cpn.events.lineChanged = true
  limit : limits → t.dbu.limit ≠ s.dbu.limit → t.cpn.events.limitChanged = true
  ring : t.cpn.ring ≠ s.cpn.ring → t.cpn.events.reportReady = true
  ramping : s.rsq.state ≠ .ramping → t.rsq.state = .ramping → t.cpn.events.rampStarted = true
  kept : s.cpn.events.Within t.cpn.events

namespace Noticed

variable {limits : Prop} {s t u : State}

theorem trans (h : Noticed limits s t) (k : Noticed limits t u) : Noticed limits s u where
  line hne := by
    by_cases heq : u.lnc.line = t.lnc.line
    · exact k.kept.lineChanged (h.line (heq ▸ hne))
    · exact k.line heq
  limit hl hne := by
    by_cases heq : u.dbu.limit = t.dbu.limit
    · exact k.kept.limitChanged (h.limit hl (heq ▸ hne))
    · exact k.limit hl heq
  ring hne := by
    by_cases heq : u.cpn.ring = t.cpn.ring
    · exact k.kept.reportReady (h.ring (heq ▸ hne))
    · exact k.ring heq
  ramping hs hu := by
    by_cases ht : t.rsq.state = .ramping
    · exact k.kept.rampStarted (h.ramping hs ht)
    · exact k.ramping ht hu
  kept := h.kept.trans k.kept

/-- What changes nothing that R181 names. -/
theorem of_fields (h : t.lnc.line = s.lnc.line ∧ t.dbu.limit = s.dbu.limit ∧ t.cpn.ring = s.cpn.ring
    ∧ t.cpn.events = s.cpn.events ∧ t.rsq.state = s.rsq.state) : Noticed limits s t := by
  obtain ⟨hline, hlimit, hring, hevents, hstate⟩ := h
  refine ⟨fun h => absurd hline h, fun _ h => absurd hlimit h, fun h => absurd hring h, ?_, ?_⟩
  · exact fun hs ht => absurd (hstate.symm.trans ht) hs
  · rw [hevents]
    exact .refl _

theorem refl (limits : Prop) (s : State) : Noticed limits s s := of_fields (by simp)

theorem noted (n : EventNotice) (s : State) : Noticed limits s (notify n s) where
  line h := absurd rfl h
  limit _ h := absurd rfl h
  ring h := absurd rfl h
  ramping hs ht := absurd ht hs
  kept := .raise ..

theorem report (r : Report) (s : State) : Noticed limits s (writeReport r s) where
  line h := absurd rfl h
  limit _ h := absurd rfl h
  ring _ := rfl
  ramping hs ht := absurd ht hs
  kept := .raise s.cpn.events .reportReady

theorem limitSet (l : Nat) (s : State) :
    Noticed limits s (notify .limitChanged { s with dbu := { s.dbu with limit := l } }) where
  line h := absurd rfl h
  limit _ _ := rfl
  ring h := absurd rfl h
  ramping hs ht := absurd ht hs
  kept := .raise s.cpn.events .limitChanged

theorem lineSet (q : LineState) (s : State) :
    Noticed limits s (notify .lineChanged { s with lnc := { s.lnc with line := q } }) where
  line _ := rfl
  limit _ h := absurd rfl h
  ring h := absurd rfl h
  ramping hs ht := absurd ht hs
  kept := .raise s.cpn.events .lineChanged

theorem stateSet (r : Rsq) (s : State) (hr : r.state ≠ .ramping) :
    Noticed limits s { s with rsq := r } where
  line h := absurd rfl h
  limit _ h := absurd rfl h
  ring h := absurd rfl h
  ramping _ ht := absurd ht hr
  kept := .refl _

theorem rampingSet (r : Rsq) (s : State) :
    Noticed limits s (notify .rampStarted { s with rsq := r }) where
  line h := absurd rfl h
  limit _ h := absurd rfl h
  ring h := absurd rfl h
  ramping _ _ := rfl
  kept := .raise s.cpn.events .rampStarted

theorem traced (limits : Prop) (s : State) : Traced (Noticed limits s) where
  same h e := h.trans (.of_fields ⟨e.2.2.1, e.2.2.2.1, e.2.2.2.2.2.2.1, e.2.2.2.2.1, e.2.2.2.2.2.2.2.1⟩)
  place _ _ _ h := h.trans (.of_fields (by simp))
  status _ _ h := h.trans (.of_fields (by simp))
  remove _ h := h.trans (.of_fields (by simp))
  removed _ h := h.trans (.of_fields (by simp [removeClaims]))
  entered _ h _ := h.trans (.of_fields (by simp [enterClaim]))
  queue _ h := h.trans (.of_fields (by simp))
  dropClear h := h.trans (.of_fields (by simp))
  beacon h := h.trans (.of_fields (by simp))
  silence h := h.trans (.of_fields (by simp))
  start hd h _ := h.trans (.of_fields (by cases hd <;> simp [startFrame]))
  abort t h _ := h.trans (.of_fields (by unfold abortFrame; split <;> simp))
  capture _ _ h := h.trans (.of_fields (by simp))
  stamp _ h := h.trans (.of_fields (by rw [stampFault_does]; simp))
  noted n h := h.trans (.noted n _)
  report r h := h.trans (.report r _)
  limit l h := h.trans (.limitSet l _)
  line q h _ := h.trans (.lineSet q _)
  state r h hr := h.trans (.stateSet r _ hr)
  ramping r h := h.trans (.rampingSet r _)

end Noticed

/-! ### What the sequencer's lower operations do to its state -/

/-- From `s` to `t` the sequencer has stayed where it was, has moved between STOPPED and QUEUED, or has
entered RAMPING from there, which empties the pending set; the stack stands, and STOP_TAKEN stays. -/
structure SeqMoved (s t : State) : Prop where
  stack : t.rsq.stack = s.rsq.stack
  told : s.cpn.events.stopTaken = true → t.cpn.events.stopTaken = true
  moves : (t.rsq.state = s.rsq.state ∧ (t.rsq.pendingSet = PendingSet.empty ↔ s.rsq.pendingSet = PendingSet.empty))
    ∨ (mayPend s.rsq.state = true ∧ mayPend t.rsq.state = true
      ∧ (t.rsq.pendingSet = PendingSet.empty ↔ s.rsq.pendingSet = PendingSet.empty))
    ∨ (mayPend s.rsq.state = true ∧ t.rsq.state = .ramping ∧ t.rsq.pendingSet = PendingSet.empty)

namespace SeqMoved

variable {s t u : State}

theorem trans (h : SeqMoved s t) (k : SeqMoved t u) : SeqMoved s u := by
  refine ⟨k.stack.trans h.stack, fun hs => k.told (h.told hs), ?_⟩
  rcases h.moves with ⟨hst, hp⟩ | ⟨hs, ht, hp⟩ | ⟨hs, ht, hp⟩
  · have hk := k.moves
    rw [hst, hp] at hk
    exact hk
  · rcases k.moves with ⟨hu, hq⟩ | ⟨-, hu, hq⟩ | ⟨-, hu, hq⟩
    · exact .inr (.inl ⟨hs, hu ▸ ht, hq.trans hp⟩)
    · exact .inr (.inl ⟨hs, hu, hq.trans hp⟩)
    · exact .inr (.inr ⟨hs, hu, hq⟩)
  · rcases k.moves with ⟨hu, hq⟩ | ⟨htp, -, -⟩ | ⟨htp, -, -⟩
    · exact .inr (.inr ⟨hs, hu.trans ht, hq.mpr hp⟩)
    · simp [ht, mayPend] at htp
    · simp [ht, mayPend] at htp

/-- What stays in its state with its pending set and its stack, and keeps STOP_TAKEN. -/
theorem stays (he : Noticed True s t) (h : t.rsq.state = s.rsq.state ∧ t.rsq.pendingSet = s.rsq.pendingSet
    ∧ t.rsq.stack = s.rsq.stack) : SeqMoved s t :=
  ⟨h.2.2, he.kept.stopTaken, .inl ⟨h.1, by rw [h.2.1]⟩⟩

/-- What leaves the sequencer and the event notices alone. -/
theorem of_fields (h : t.rsq.state = s.rsq.state ∧ t.rsq.pendingSet = s.rsq.pendingSet
    ∧ t.rsq.stack = s.rsq.stack ∧ t.cpn.events = s.cpn.events) : SeqMoved s t :=
  ⟨h.2.2.1, by rw [h.2.2.2]; exact id, .inl ⟨h.1, by rw [h.2.1]⟩⟩

theorem refl (s : State) : SeqMoved s s := of_fields (by simp)

theorem enterRamping (hs : s.rsq.state = .queued) : SeqMoved s (enterRamping s) where
  stack := by simp [Machine.enterRamping]
  told := ((Noticed.traced True s).enterRamping (.refl _ s)).kept.stopTaken
  moves := .inr (.inr ⟨by simp [hs, mayPend], by simp [Machine.enterRamping], by simp [Machine.enterRamping]⟩)

theorem firstPointTest (s : State) : SeqMoved s (firstPointTest s) := by
  unfold Machine.firstPointTest
  split
  · next hq =>
    split
    · exact enterRamping hq.1
    · split
      · exact refl s
      · dsimp only
        have hneed : SeqMoved s (giveNeed (s.drawOf s.firstTarget - s.dbu.granted) s) :=
          of_fields (by simp)
        split
        · exact hneed.trans (enterRamping (by simpa using hq.1))
        · exact hneed
  · exact refl s

theorem driveTest (s : State) : SeqMoved s (driveTest s) := by
  unfold Machine.driveTest
  split
  · exact (of_fields (by simp)).trans (firstPointTest _)
  · exact refl s

theorem takeSlot (n : Nat) (s : State) : SeqMoved s (takeSlot n s) :=
  (of_fields (by simp)).trans (driveTest _)

theorem actOnRequest (s : State) : SeqMoved s (actOnRequest s) := by
  unfold Machine.actOnRequest
  split
  · split
    · exact of_fields (by simp)
    · split
      · exact takeSlot ..
      · exact refl s
    · split
      · exact takeSlot ..
      · exact refl s
    all_goals exact refl s
  · exact refl s

/-- A move between STOPPED and QUEUED. -/
theorem between {q : SeqState} (hs : mayPend s.rsq.state = true) (hq : mayPend q = true) :
    SeqMoved s { s with rsq := { s.rsq with state := q } } :=
  ⟨rfl, id, .inr (.inl ⟨hs, hq, Iff.rfl⟩)⟩

theorem evalPreconditions (s : State) : SeqMoved s (evalPreconditions s) := by
  unfold Machine.evalPreconditions
  split
  · next hs =>
    split
    · have h1 : SeqMoved s (refreshUrgency (requestBeacon { s with rsq := { s.rsq with state := .queued } })) :=
        (between (q := .queued) (by simp [hs, mayPend]) rfl).trans (of_fields (by simp))
      unfold enterQueued
      dsimp only
      split
      · exact h1.trans (driveTest _)
      · exact h1.trans ((of_fields (by simp)).trans (actOnRequest _))
    · exact refl s
  · next hs =>
    split
    · exact refl s
    · exact (between (q := .stopped) (by simp [hs, mayPend]) rfl).trans (of_fields (by simp [returnToStopped]))
  all_goals exact refl s

theorem changeLine (q : LineState) (s : State) : SeqMoved s (changeLine q s) := by
  have h1 : SeqMoved s (notify .lineChanged { s with lnc := { s.lnc with line := q } }) :=
    stays (.lineSet q s) (by simp)
  have h2 : ∀ u : State, SeqMoved u (startLineChange q (drawLineChange q u)) := fun u => by
    cases q with
    | active => exact (of_fields (by simp)).trans (actOnRequest (drawViewChange u))
    | deaf | barred => exact (of_fields (by simp)).trans (actOnRequest (withdrawStart (drawLineLost u)))
    | off | listen => exact refl u
  have h3 := (h1.trans (h2 _)).trans (firstPointTest _)
  exact h3.trans (t := Machine.firstPointTest _) (u := lineBeacon q _) (of_fields (by simp))

theorem takeReady (e : Nat) (l : Option Nat) (s : State) : SeqMoved s (takeReady e l s) := by
  unfold Machine.takeReady
  split
  · exact (stays ((Noticed.traced True s).tundishBeacon _ ((Noticed.traced True s).adoptLimit l
      (.of_fields (by simp)))) (by simp)).trans (evalPreconditions _)
  · split
    · exact (stays ((Noticed.traced True s).tundishBeacon _ ((Noticed.traced True s).adoptLimit l
        (.of_fields (by simp)))) (by simp)).trans (evalPreconditions _)
    · exact refl s

theorem adoptEpoch (b : BeaconFields) (s : State) : SeqMoved s (adoptEpoch b s) :=
  (stays ((Noticed.traced True s).tundishBeacon _ ((Noticed.traced True s).adoptLimit _
    (.of_fields (by simp)))) (by simp)).trans (evalPreconditions _)

theorem latch (s : State) :
    SeqMoved s { s with rsq := { s.rsq with pendingSet := latchAll s.rsq.pendingSet } } := by
  refine ⟨rfl, id, .inl ⟨rfl, ?_⟩⟩
  obtain ⟨d, t, b, h⟩ := s.rsq.pendingSet
  cases b <;> cases h <;> simp [latchAll, PendingSet.empty]

theorem enterBarred (k : FrameKind) (s : State) : SeqMoved s (enterBarred k s) :=
  (of_fields (by simp)).trans (changeLine _ _)

theorem startTimeout (n : Nat) (s : State) : SeqMoved s (startTimeout n s) :=
  of_fields (by simp [Machine.startTimeout])

end SeqMoved

/-- A law of state, stack and pending set that the sequencer's moves keep is kept by every operation once
stop events, the ends of authority and the points of a ramp keep it. -/
theorem Kept.of_moves {P : State → Prop} (moved : ∀ {s t}, P s → SeqMoved s t → P t)
    (stop : ∀ {s} c e, P s → P (stopEvent c e s))
    (idle : ∀ {s} q, P s → mayPend s.rsq.state = false → mayStack s.rsq.state = false →
      s.rsq.state = .parked ∨ s.rsq.state = .watch → q = .watch ∨ q = .parked → P (moveIdle q s))
    (giveUp : ∀ {s} q, P s → q = .watch ∨ q = .parked → P (giveUpAuthority q s))
    (stackCleared : ∀ {s} o, P s → P (clearStack o s))
    (abandon : ∀ {s}, P s → P (enterAbandoned s))
    (point : ∀ {s}, P s → s.rsq.state = .ramping → P (completePoint s)) : Kept P where
  aside h a := moved h (.of_fields ⟨a.seq.1, a.seq.2.1, a.seq.2.2.2.1, a.port.1⟩)
  stamp _ h := moved h (.of_fields (by rw [stampFault_does]; simp))
  capture k d h := moved h (.of_fields (by simp))
  beacon h := moved h (.of_fields (by simp))
  frame f h _ := moved h (.of_fields (by simp))
  removed gone h _ := moved h (.of_fields (by simp [removeClaims]))
  entered e h _ _ _ := moved h (.of_fields (by simp [enterClaim]))
  drawView h := moved h (.of_fields (by simp))
  holder v h := moved h (.of_fields (by simp))
  retest h := moved h (.of_fields (by simp))
  waits h _ := moved h (.of_fields (by simp [startWaits]))
  tenureEnd r h := moved h (.of_fields (by simp))
  urgency h := moved h (.of_fields (by simp))
  creep h := moved h (.of_fields (by simp))
  need n h _ _ := moved h (.of_fields (by simp))
  dropNeed h := moved h (.of_fields (by simp))
  firstPoint h := moved h (.firstPointTest _)
  request h := moved h (.actOnRequest _)
  slot n h _ := moved h (.takeSlot n _)
  settled h _ := moved h (.of_fields (by simp [settleDraw]))
  drawSent n h := moved h (.of_fields (by unfold Machine.drawSent; split <;> simp))
  startSent n h := moved h (.of_fields (by unfold Machine.startSent; split <;> simp))
  timeout {s} h _ := by
    unfold tenureTimeout
    split
    · exact moved h (.of_fields (by simp))
    · split
      · exact moved h ((SeqMoved.startTimeout 1 s).trans (.actOnRequest _))
      · exact abandon (moved h (.startTimeout 2 s))
  stop := stop
  begins {s} e h := by
    unfold takeBegin
    split
    · have h1 : P { s with dbu := { s.dbu with epoch := e, phase := .opened, learned := true, mismatch := false } } :=
        moved h (.of_fields (by simp))
      exact moved (stop .tundish (some e) h1) (.of_fields (by simp))
    · exact h
  ready e l h := moved h (.takeReady e l _)
  adopt b h := moved h (.adoptEpoch b _)
  latch h _ := moved h ((SeqMoved.latch _).trans (.evalPreconditions _))
  cast h hs := idle _ h (by simp [hs, mayPend]) (by simp [hs, mayStack]) (.inl hs) (.inl rfl)
  park h hs := idle _ h (by simp [hs, mayPend]) (by simp [hs, mayStack]) (.inr hs) (.inr rfl)
  giveUp q h _ hq := giveUp q h hq
  giveUpAll q o h _ hq := giveUp q (stackCleared o h) hq
  abandon h _ := abandon h
  point := point
  line q h _ _ := moved h (.changeLine q _)
  bar k h _ := moved h (.enterBarred k _)
  start hd h _ := moved h (.of_fields (by cases hd <;> simp [startFrame]))
  abort t h _ := moved h (.of_fields (by unfold abortFrame; split <;> simp))
  ended h := moved h (.of_fields (by simp))
  input {s} i raw h := by
    have h1 : P { s with spu := { s.spu with inputs := inputSet s.spu.inputs i (s.sampledFilter i raw) } } :=
      moved h (.of_fields (by simp))
    have hedge : ∀ {u : State}, P u → P (giveEdge i raw u) := fun {u} hu => by
      unfold giveEdge
      split
      · split
        · exact moved hu (.evalPreconditions _)
        · exact stop _ _ hu
      · split
        · unfold drvReadyRise
          dsimp only
          split
          · exact moved hu ((SeqMoved.driveTest u).trans (.of_fields (by simp)))
          · exact moved hu (.driveTest u)
        · split
          · exact stop _ _ hu
          · exact hu
      · split
        · exact stop _ _ hu
        · exact hu
      · exact moved hu (.evalPreconditions _)
    unfold sampleInput
    dsimp only
    split
    · exact h1
    · exact moved (hedge h1) (.of_fields (by rw [stampFault_does]; simp))
  store p f l h _ := moved h (.of_fields (by simp))
  straps pins h _ := moved h (.of_fields (by rw [sampleStraps_does]; simp))

end Sys2Proof.Machine
end

section
/-! SUPPORT. The notices of every row (R181), the bound of the context stack (R67) and the places of the
pending causes (R10), each for every row or step. -/

namespace Sys2Proof.Machine

/-! ### Entry to STOPPED raises STOP_TAKEN (R7, R181) -/

theorem stopEntry_told (c : Cause) (b s : State) : (stopEntry c b s).cpn.events.stopTaken = true := by
  simp [stopEntry, notify, EventNotices.raise]

/-- The state that a stop event leads from `s` to just before the preconditions are evaluated; `none` where
the event is ignored (R5 to R9). -/
def State.stopMet (s : State) (c : Cause) (e : Option Nat) : Option State :=
  match s.rsq.state with
  | .unjoined | .parked | .abandoned => none
  | .watch => some (authorityTaken c e s)
  | .stopped | .queued => some (causeMerged c e s)
  | .ramping => some (causeMerged c e (pushContext s))
  | .handback => some (handbackStopped c e s)

/-- A stop event is ignored, or makes stop entry and evaluates the preconditions (R5). -/
theorem stopEvent_eq (c : Cause) (e : Option Nat) (s : State) :
    stopEvent c e s = match s.stopMet c e with
      | none => s
      | some u => evalPreconditions (stopEntry c s u) := by
  unfold stopEvent State.stopMet
  cases s.rsq.state <;> rfl

/-- What a stop event leads to is in STOPPED with its cause pending. -/
theorem State.stopMet_does {s u : State} {c : Cause} {e : Option Nat} (h : s.stopMet c e = some u) :
    u.rsq.state = .stopped ∧ (u.rsq.pendingSet.get c).isSome = true := by
  have hmerge : ∀ p, ((s.mergeCause p c e).get c).isSome = true := fun p => by
    unfold State.mergeCause
    split <;> simp
  unfold State.stopMet at h
  split at h
  iterate 3 exact nomatch h
  · cases h
    refine ⟨rfl, ?_⟩
    unfold authorityTaken
    dsimp only
    split
    · simp
    · next hd =>
      have hne : c ≠ .dip := fun hc => hd (by simp [hc])
      simp [hne]
  · cases h
    exact ⟨rfl, hmerge _⟩
  · cases h
    exact ⟨rfl, hmerge _⟩
  · cases h
    refine ⟨rfl, ?_⟩
    have : ((pushContext s).mergeCause (pushContext s).rsq.pendingSet c e).get c |>.isSome := by
      unfold State.mergeCause
      split <;> simp
    exact this
  · cases h
    exact ⟨rfl, by simp [handbackStopped]⟩

/-- STOPPED and QUEUED were entered from one another, or STOP_TAKEN is present. -/
structure StopTold (s t : State) : Prop where
  told : mayPend t.rsq.state = true → mayPend s.rsq.state = true ∨ t.cpn.events.stopTaken = true

namespace StopTold

variable {s t u : State}

theorem moved (h : StopTold s t) (m : SeqMoved t u) : StopTold s u := by
  refine ⟨fun hu => ?_⟩
  have ht : mayPend t.rsq.state = true := by
    rcases m.moves with ⟨hst, -⟩ | ⟨ht, -, -⟩ | ⟨ht, -, -⟩
    · exact hst ▸ hu
    · exact ht
    · exact ht
  exact (h.told ht).imp_right m.told

theorem away (h : mayPend t.rsq.state = false) : StopTold s t :=
  ⟨fun ht => absurd (h.symm.trans ht) (by decide)⟩

theorem stop (c : Cause) (e : Option Nat) (h : StopTold s t) : StopTold s (stopEvent c e t) := by
  rw [stopEvent_eq]
  split
  · exact h
  · exact moved ⟨fun _ => .inr (stopEntry_told ..)⟩ (.evalPreconditions _)

theorem point (hs : t.rsq.state = .ramping) : StopTold s (completePoint t) := by
  have hstate : (completePoint t).rsq.state = .ramping ∨ (completePoint t).rsq.state = .handback := by
    unfold completePoint
    dsimp only
    split <;> split <;> simp [hs]
  rcases hstate with h | h <;> exact away (by simp [h, mayPend])

theorem kept (s : State) : Kept (StopTold s) :=
  .of_moves moved stop
    (idle := fun q _ _ _ _ hq => by rcases hq with rfl | rfl <;> exact away (by simp [moveIdle, mayPend]))
    (giveUp := fun q _ hq => by rcases hq with rfl | rfl <;> exact away (by simp [mayPend]))
    (stackCleared := fun o h => ⟨fun hp => by
      rcases h.told (by simpa using hp) with hs | ht
      · exact .inl hs
      · exact .inr (((Noticed.traced True _).clearStack o (.refl _ _)).kept.stopTaken ht)⟩)
    (abandon := fun _ => away (by simp [mayPend]))
    (point := fun _ hs => point hs)

end StopTold

/-! ### JOIN (R154, R176) -/

/-- The change to LISTEN is the line state and its notice alone: no claim and no point is tested (R154). -/
theorem changeLine_listen {s : State} (hs : s.rsq.state ≠ .queued) :
    changeLine .listen s = notify .lineChanged { s with lnc := { s.lnc with line := .listen } } := by
  unfold changeLine firstPointTest lineBeacon
  simp [drawLineChange, startLineChange, hs, LineState.allowsBeacon]

/-- JOIN makes the sequencer PARKED and leaves the rest of it alone. -/
theorem joinLine_rsq (s : State) : (joinLine s).rsq = { s.rsq with state := .parked } := by
  have hlisten := changeLine_listen (s := s.atJoin) (by simp [State.atJoin])
  unfold joinLine
  rw [hlisten]
  simp [State.atJoin]

/-! ### The notices of every row -/

theorem atJoin_noticed (s : State) : Noticed False s (joinLine s) :=
  (Noticed.traced False s).joined (fun _ h => h.trans ⟨fun h => absurd rfl h, fun hf => hf.elim,
    fun h => absurd rfl h, fun hs ht => absurd ht hs, .refl _⟩) (fun h => h.trans (.lineSet _ _)) (.refl _ s)

/-- A row of JOIN raises what R181 names, the change of L apart (R101). -/
theorem execJoin_noticed (s : State) :
    LeadsTo (fun t => Noticed False s t ∧ StopTold s t) (execJoin s) := by
  have hfree : ∀ {u : State} {status : Status} {data : List Byte}, Noticed False s u →
      Noticed False s (answer 0x13 status data u) := fun hu => hu.trans (.of_fields (by simp))
  refine .released ⟨.refl _ s, ⟨.inl⟩⟩ ?_
  split
  · exact .next ⟨hfree (.refl _ s), (StopTold.kept s).replies ⟨.inl⟩⟩
  · split
    · exact .next ⟨hfree (.refl _ s), (StopTold.kept s).replies ⟨.inl⟩⟩
    · refine .next ⟨(Noticed.traced False s).stamp (.refl _ s) (hfree (atJoin_noticed s)), ?_⟩
      refine .away ?_
      rw [stampFault_does]
      simp [joinLine_rsq, mayPend]

/-- A row that is not special raises all that R181 names. -/
theorem exec_noticed {c : Instr} (hc : Instr.special c = false) (s : State) :
    LeadsTo (fun t => Noticed True s t ∧ StopTold s t) (exec c s) :=
  ⟨fun t hx => ⟨((Noticed.traced True s).kept.exec c hc (.refl _ s)).of_next t hx,
    ((StopTold.kept s).exec c hc ⟨.inl⟩).of_next t hx⟩⟩

/-- The two clauses of O22 for a row that is no reset, from what has been noticed. -/
theorem notices_of_noticed {c : Instr} {s t : State} {limits : Prop} (hl : c ≠ .join → limits)
    (h : Noticed limits s t) (hstop : StopTold s t) :
    ((t.lnc.line ≠ s.lnc.line → t.cpn.events.lineChanged = true)
      ∧ (c ≠ .join → t.dbu.limit ≠ s.dbu.limit → t.cpn.events.limitChanged = true)
      ∧ (t.cpn.ring ≠ s.cpn.ring → t.cpn.events.reportReady = true)
      ∧ (s.rsq.state ≠ .ramping → t.rsq.state = .ramping → t.cpn.events.rampStarted = true)
      ∧ (mayPend s.rsq.state = false → t.rsq.state = .stopped → t.cpn.events.stopTaken = true))
    ∧ ((s.cpn.events.stopTaken = true → t.cpn.events.stopTaken = true)
      ∧ (s.cpn.events.rampStarted = true → t.cpn.events.rampStarted = true)
      ∧ (s.cpn.events.reportReady = true → t.cpn.events.reportReady = true)
      ∧ (s.cpn.events.limitChanged = true → t.cpn.events.limitChanged = true)
      ∧ (s.cpn.events.lineChanged = true → t.cpn.events.lineChanged = true)) := by
  obtain ⟨hline, hlimit, hring, hramping, hk⟩ := h
  refine ⟨⟨hline, fun hc => hlimit (hl hc), hring, hramping, fun hs ht => ?_⟩,
    hk.stopTaken, hk.rampStarted, hk.reportReady, hk.limitChanged, hk.lineChanged⟩
  refine (hstop.told (by simp [ht, mayPend])).resolve_left fun hp => ?_
  exact absurd (hs.symm.trans hp) (by decide)

/-- Settles O22: each change stands with its notice in the one operation that makes it, and stop entry
raises STOP_TAKEN whenever STOPPED is entered from outside. -/
theorem changesRaiseNoticesThatStayUntilRead :
    Obligations.changes_raise_notices_that_stay_until_read := by
  intro c s t hx
  cases hc : Instr.special c with
  | false =>
    obtain ⟨hn, hs⟩ := (exec_noticed hc s).of_next t hx
    have key := notices_of_noticed (c := c) (fun _ => trivial) hn hs
    cases c with
    | join | getStatus | clearFault | softReset | pinReset => exact nomatch hc
    | _ => exact key
  | true =>
    cases c with
    | join =>
      obtain ⟨hn, hs⟩ := (execJoin_noticed s).of_next t hx
      exact notices_of_noticed (fun hne => absurd rfl hne) hn hs
    | clearFault =>
      have row : LeadsTo (fun t => Noticed True s t ∧ StopTold s t) (exec .clearFault s) :=
        .released ⟨.refl _ s, ⟨.inl⟩⟩ (.next ⟨.of_fields (by simp), (StopTold.kept s).replies ⟨.inl⟩⟩)
      obtain ⟨hn, hs⟩ := row.of_next t hx
      exact notices_of_noticed (fun _ => trivial) hn hs
    | getStatus =>
      have row : LeadsTo (fun t => t.lnc = s.lnc ∧ t.dbu = s.dbu ∧ t.cpn.ring = s.cpn.ring
          ∧ t.rsq = s.rsq) (exec .getStatus s) :=
        .released (by simp) (.next (by simp))
      obtain ⟨hlnc, hdbu, hring, hrsq⟩ := row.of_next t hx
      refine ⟨⟨?_, ?_, ?_, ?_, ?_⟩, trivial⟩
      · exact fun h => absurd (congrArg Lnc.line hlnc) h
      · exact fun _ h => absurd (congrArg Dbu.limit hdbu) h
      · exact fun h => absurd hring h
      · exact fun hs ht => absurd ((congrArg Rsq.state hrsq).symm.trans ht) hs
      · intro hs ht
        rw [hrsq] at ht
        simp [ht, mayPend] at hs
    | softReset | pinReset => exact ⟨trivial, trivial⟩
    | _ => exact nomatch hc

/-! ### The context stack (R67) -/

theorem stackBounded_moved {s t : State} (h : StackBounded s) (m : SeqMoved s t) : StackBounded t := by
  obtain ⟨hlen, hempty⟩ := h
  rw [StackBounded, m.stack]
  refine ⟨hlen, fun ht => hempty ?_⟩
  have htwo : ∀ q, mayPend q = true → mayStack q = true := by
    intro q
    cases q <;> decide
  rcases m.moves with ⟨hst, -⟩ | ⟨-, hp, -⟩ | ⟨-, hr, -⟩
  · exact hst ▸ ht
  · rw [htwo _ hp] at ht
    exact nomatch ht
  · rw [hr] at ht
    exact nomatch ht

/-- A full stack loses its bottom context before a push (R69). -/
theorem dropBottom_length {s : State} (h : s.rsq.stack.length ≤ 3) :
    (dropBottom s).rsq.stack.length ≤ 2 := by
  unfold dropBottom
  split
  · split
    · simp only [List.length_take, Config.stackDepth]
      omega
    · next hlt =>
      simp only [Config.stackDepth] at hlt
      omega
  · next hnone => simp [List.getLast?_eq_none_iff.mp hnone]

theorem stopMet_stack {s u : State} {c : Cause} {e : Option Nat} (h : StackBounded s)
    (hu : s.stopMet c e = some u) : u.rsq.stack.length ≤ 3 := by
  unfold State.stopMet at hu
  split at hu
  iterate 3 exact nomatch hu
  iterate 3 cases hu; exact h.1
  · cases hu
    have hdrop := dropBottom_length h.1
    simp only [causeMerged, pushContext, List.length_cons]
    omega
  · cases hu
    exact h.1

theorem stackBounded_stop {s : State} (c : Cause) (e : Option Nat) (h : StackBounded s) :
    StackBounded (stopEvent c e s) := by
  rw [stopEvent_eq]
  split
  · exact h
  · next u hu =>
    refine stackBounded_moved ⟨?_, fun hs => ?_⟩ (.evalPreconditions _)
    · rw [show (stopEntry c s u).rsq.stack = u.rsq.stack by simp]
      exact stopMet_stack h hu
    · simp [(State.stopMet_does hu).1, mayStack] at hs

theorem popContext_stack (c : Context) (rest : List Context) (s : State) :
    (popContext c rest s).rsq.stack = rest := by
  simp [popContext]

theorem stackBounded_point {s : State} (h : StackBounded s) (hs : s.rsq.state = .ramping) :
    StackBounded (completePoint s) := by
  have hadvance : StackBounded (advanceStep { s with rsq := { s.rsq with
      levelHold := false
      counters := { s.rsq.counters with pointsCompleted := s.rsq.counters.pointsCompleted + 1 } } }) := by
    rw [StackBounded]
    simpa using h
  unfold completePoint
  dsimp only
  split
  · next c rest hstack =>
    split
    · refine ⟨?_, fun hm => ?_⟩
      · rw [popContext_stack]
        have hlen := h.1
        rw [hstack, List.length_cons] at hlen
        omega
      · simp [hs, mayStack] at hm
    · exact hadvance
  · next hstack =>
    split
    · rw [StackBounded]
      simp [hstack]
    · exact hadvance

theorem stackBounded_kept : KeptBySteps StackBounded where
  toKept := .of_moves stackBounded_moved stackBounded_stop
    (idle := fun q h _ hm _ _ => by
      have hnil := h.2 hm
      rw [StackBounded]
      simp [moveIdle, hnil])
    (giveUp := fun q _ _ => by rw [StackBounded]; simp)
    (stackCleared := fun o _ => by rw [StackBounded]; simp)
    (abandon := fun _ => by rw [StackBounded]; simp)
    (point := stackBounded_point)
  join h hs _ := by
    have hnil := h.2 (by simp [hs, mayStack])
    rw [StackBounded, joinLine_rsq]
    simp [hnil]
  read h := h
  cleared h := h
  reset _ _ _ := ⟨Nat.zero_le _, fun _ => rfl⟩
  time {s} h _ _ := by
    have hrsq : (advance s).rsq.stack = s.rsq.stack ∧ (advance s).rsq.state = s.rsq.state := by
      unfold advance nextMs
      dsimp only
      split
      · simp
      · split <;> simp
    rw [StackBounded, hrsq.1, hrsq.2]
    exact h

/-- Settles O14: a push drops the bottom of a full stack first, and the states without a stack are entered
with it empty. -/
theorem everyStepKeepsTheStackBounded : Obligations.every_step_keeps_the_stack_bounded := by
  intro s t h hstep
  exact (stackBounded_kept.step h).of_next t hstep

/-! ### The places of the pending causes (R10) -/

theorem PendingSet.ne_empty_of_get {p : PendingSet} {c : Cause} (h : (p.get c).isSome = true) :
    p ≠ PendingSet.empty := by
  rintro rfl
  simp at h

theorem pendingPlaced_moved {s t : State} (h : PendingPlaced s) (m : SeqMoved s t) : PendingPlaced t := by
  rw [PendingPlaced] at *
  rcases m.moves with ⟨hst, hp⟩ | ⟨hs, ht, hp⟩ | ⟨-, ht, hp⟩
  · rw [hst, h, ne_eq, ne_eq, hp]
  · simpa [hs, ht, hp] using h
  · simp [ht, hp, mayPend]

theorem pendingPlaced_stop {s : State} (c : Cause) (e : Option Nat) (h : PendingPlaced s) :
    PendingPlaced (stopEvent c e s) := by
  rw [stopEvent_eq]
  split
  · exact h
  · next u hu =>
    obtain ⟨hstate, hget⟩ := State.stopMet_does hu
    obtain ⟨-, -, -, hs, hp⟩ := stopEntry_does c s u
    refine pendingPlaced_moved ?_ (.evalPreconditions _)
    rw [PendingPlaced, hs, hp, hstate]
    exact iff_of_true rfl (PendingSet.ne_empty_of_get hget)

theorem pendingPlaced_away {t : State} (hs : mayPend t.rsq.state = false)
    (hp : t.rsq.pendingSet = PendingSet.empty) : PendingPlaced t := by
  rw [PendingPlaced, hs, hp]
  simp

theorem pendingPlaced_empty {s : State} (h : PendingPlaced s) (hs : mayPend s.rsq.state = false) :
    s.rsq.pendingSet = PendingSet.empty := by
  rw [PendingPlaced, hs] at h
  simpa using h

theorem pendingPlaced_point {s : State} (h : PendingPlaced s) (hs : s.rsq.state = .ramping) :
    PendingPlaced (completePoint s) := by
  have hempty := pendingPlaced_empty h (by simp [hs, mayPend])
  refine pendingPlaced_away ?_ ?_
  all_goals
    unfold completePoint
    dsimp only
    split <;> split <;> simp [hs, hempty, mayPend]

theorem pendingPlaced_kept : KeptBySteps PendingPlaced where
  toKept := .of_moves pendingPlaced_moved pendingPlaced_stop
    (idle := fun q h hm _ _ hq => by
      have hempty := pendingPlaced_empty h hm
      rcases hq with rfl | rfl <;>
        exact pendingPlaced_away (by simp [moveIdle, mayPend]) (by simp [moveIdle, hempty]))
    (giveUp := fun q _ hq => by
      rcases hq with rfl | rfl <;> exact pendingPlaced_away (by simp [mayPend]) (by simp))
    (stackCleared := fun o h => by
      rw [PendingPlaced] at *
      simpa using h)
    (abandon := fun _ => pendingPlaced_away (by simp [mayPend]) (by simp))
    (point := pendingPlaced_point)
  join h hs _ := by
    have hempty := pendingPlaced_empty h (by simp [hs, mayPend])
    exact pendingPlaced_away (by simp [joinLine_rsq, mayPend]) (by simp [joinLine_rsq, hempty])
  read h := h
  cleared h := h
  reset _ _ _ := pendingPlaced_away rfl rfl
  time {s} h _ _ := by
    have hrsq : (advance s).rsq.pendingSet = s.rsq.pendingSet
        ∧ (advance s).rsq.state = s.rsq.state := by
      unfold advance nextMs
      dsimp only
      split
      · simp
      · split <;> simp
    rw [PendingPlaced, hrsq.1, hrsq.2]
    exact h

/-- Settles O15: a stop event enters STOPPED with its cause pending, and STOPPED and QUEUED are left for
another state with an empty set. -/
theorem everyStepKeepsCausesPendingInPlace : Obligations.every_step_keeps_causes_pending_in_place := by
  intro s t h hstep
  exact (pendingPlaced_kept.step h).of_next t hstep

end Sys2Proof.Machine
end

section
/-! SUPPORT. Where a start request, an own START claim, a tenure and RUN_REQ stand (R6, R7, R14, R17, R23,
R105, R106, R113, R114), kept by every step. `DriveMin` is what a stop event asks of the state it meets; the
three laws beside it stand or fall with the preconditions and the inputs, and `evalPreconditions` and
`driveTest` each bring one of them back. -/

namespace Sys2Proof.Machine

/-! ### The laws, by name -/

/-- The laws that no input and no precondition changes. -/
structure DriveMin (s : State) : Prop where
  request : s.ssu.request = true → s.rsq.state = .queued
  claim : s.ssu.claim ≠ .none → s.ssu.request = true ∧ s.ssu.tenure = false
  tenure : s.ssu.tenure = true → (s.rsq.state = .queued ∨ s.rsq.state = .ramping) ∧ s.rsq.runReq = true
  runs : s.rsq.state = .ramping ∨ s.rsq.state = .handback → s.rsq.runReq = true
  dip : mayPend s.rsq.state = true → s.rsq.runReq = false ∨ s.ssu.tenure = true ∨ s.ssu.request = true →
    s.rsq.pendingSet.dip.isSome = true

/-- A request finds the drive not running (R105). -/
abbrev RequestCalm (s : State) : Prop := s.ssu.request = true → s.driveRunning = false

/-- In QUEUED every precondition is met (R14, R17). -/
abbrev QueuedMet (s : State) : Prop := s.rsq.state = .queued → s.allMet = true

/-- A tenure in RAMPING finds the drive ready and the supply good (R113). -/
abbrev TenureReady (s : State) : Prop :=
  s.rsq.state = .ramping → s.ssu.tenure = true → s.drvReady = true ∧ s.filtered .supplyOk = true

/-- All the laws of request, claim, tenure and RUN_REQ. -/
structure DriveSafe (s : State) : Prop extends DriveMin s where
  calm : RequestCalm s
  met : QueuedMet s
  ready : TenureReady s

theorem driveSafe_iff {s : State} : DriveSafe s ↔ SlotPlaced s ∧ DrivePlaced s := by
  constructor
  · rintro ⟨⟨hr, hc, ht, hruns, hdip⟩, hcalm, hmet, hready⟩
    exact ⟨⟨fun h => ⟨hr h, hcalm h⟩, hc, ht⟩, hmet, hruns, hdip, hready⟩
  · rintro ⟨⟨hr, hc, ht⟩, hmet, hruns, hdip, hready⟩
    exact ⟨⟨fun h => (hr h).1, hc, ht, hruns, hdip⟩, fun h => (hr h).2, hmet, hready⟩

/-- The preconditions read the pending set, the tundish and the inputs alone (R13). -/
theorem State.allMet_congr {s t : State} (hp : t.rsq.pendingSet = s.rsq.pendingSet)
    (hphase : t.dbu.phase = s.dbu.phase) (hepoch : t.dbu.epoch = s.dbu.epoch)
    (hsupply : t.filtered .supplyOk = s.filtered .supplyOk)
    (hdummy : t.filtered .dummyIn = s.filtered .dummyIn) : t.allMet = s.allMet := by
  have hmet : ∀ c r, t.preconditionMet c r = s.preconditionMet c r := fun c r => by
    cases c <;> simp [State.preconditionMet, hphase, hepoch, hsupply, hdummy]
  unfold State.allMet
  simp only [hp, hmet]

theorem State.filtered_congr {s t : State} (h : t.spu.inputs = s.spu.inputs) (i : Input) :
    t.filtered i = s.filtered i := by
  rw [State.filtered, State.filtered, h]

theorem State.drvReady_eq (s : State) : s.drvReady = s.filtered .drvReady := rfl

/-- What the laws read beside request, claim and tenure. -/
structure SameDrive (s t : State) : Prop where
  state : t.rsq.state = s.rsq.state
  pendingSet : t.rsq.pendingSet = s.rsq.pendingSet
  runReq : t.rsq.runReq = s.rsq.runReq
  phase : t.dbu.phase = s.dbu.phase
  epoch : t.dbu.epoch = s.dbu.epoch
  filtered : ∀ i, t.filtered i = s.filtered i

/-- From `s` to `t` no request, claim or tenure has come; a claim that stands has kept its request. -/
structure NoMore (s t : State) : Prop where
  request : t.ssu.request = true → s.ssu.request = true
  claim : t.ssu.claim ≠ .none → s.ssu.claim ≠ .none ∧ t.ssu.request = s.ssu.request
  tenure : t.ssu.tenure = true → s.ssu.tenure = true

/-- What leaves the start slot unit's three marks alone. -/
theorem NoMore.of_same {s t : State} (h : t.ssu.request = s.ssu.request ∧ t.ssu.claim = s.ssu.claim
    ∧ t.ssu.tenure = s.ssu.tenure) : NoMore s t := by
  obtain ⟨hr, hc, ht⟩ := h
  exact ⟨by rw [hr]; exact id, by rw [hc]; exact fun h => ⟨h, hr⟩, by rw [ht]; exact id⟩

theorem SameDrive.trans {s t u : State} (h : SameDrive s t) (k : SameDrive t u) : SameDrive s u :=
  ⟨k.state.trans h.state, k.pendingSet.trans h.pendingSet, k.runReq.trans h.runReq,
    k.phase.trans h.phase, k.epoch.trans h.epoch, fun i => (k.filtered i).trans (h.filtered i)⟩

theorem DriveMin.less {s t : State} (h : DriveMin s) (e : SameDrive s t) (n : NoMore s t) :
    DriveMin t where
  request hr := e.state.trans (h.request (n.request hr))
  claim hc := by
    obtain ⟨hsc, hreq⟩ := n.claim hc
    obtain ⟨hr, ht⟩ := h.claim hsc
    exact ⟨hreq.trans hr, Bool.eq_false_iff.mpr fun htt => Bool.eq_false_iff.mp ht (n.tenure htt)⟩
  tenure ht := by
    rw [e.state, e.runReq]
    exact h.tenure (n.tenure ht)
  runs hs := by
    rw [e.state] at hs
    rw [e.runReq]
    exact h.runs hs
  dip hp hd := by
    rw [e.state] at hp
    rw [e.runReq] at hd
    rw [e.pendingSet]
    exact h.dip hp (hd.imp_right (Or.imp n.tenure n.request))

namespace DriveSafe

variable {s t : State}

/-- Fewer requests, claims and tenures in the same place. -/
theorem less (h : DriveSafe s) (e : SameDrive s t) (n : NoMore s t) : DriveSafe t where
  toDriveMin := h.toDriveMin.less e n
  calm hr := by
    have hcalm := h.calm (n.request hr)
    simp only [State.driveRunning, State.drvReady_eq, e.runReq, e.filtered] at hcalm ⊢
    exact hcalm
  met hs := by
    rw [State.allMet_congr e.pendingSet e.phase e.epoch (e.filtered _) (e.filtered _)]
    exact h.met (e.state ▸ hs)
  ready hs ht := by
    rw [State.drvReady_eq, e.filtered, e.filtered]
    exact h.ready (e.state ▸ hs) (n.tenure ht)

/-- What touches nothing that the laws read. -/
theorem of_same (h : DriveSafe s) (e : SameDrive s t) (hssu : t.ssu.request = s.ssu.request
    ∧ t.ssu.claim = s.ssu.claim ∧ t.ssu.tenure = s.ssu.tenure) : DriveSafe t :=
  h.less e (.of_same hssu)

/-- What leaves RSQ, SSU, the tundish and the inputs alone. -/
theorem of_blocks (h : DriveSafe s) (hrsq : t.rsq = s.rsq)
    (hdbu : t.dbu.phase = s.dbu.phase ∧ t.dbu.epoch = s.dbu.epoch) (hssu : t.ssu = s.ssu)
    (hin : t.spu.inputs = s.spu.inputs) : DriveSafe t :=
  h.of_same ⟨by rw [hrsq], by rw [hrsq], by rw [hrsq], hdbu.1, hdbu.2, State.filtered_congr hin⟩
    (by rw [hssu]; exact ⟨rfl, rfl, rfl⟩)

/-- Without request, claim and tenure, in a state that asks no RUN_REQ and no cause. -/
theorem idle (hr : t.ssu.request = false) (hc : t.ssu.claim = .none) (ht : t.ssu.tenure = false)
    (hs : t.rsq.state = .unjoined ∨ t.rsq.state = .parked ∨ t.rsq.state = .watch
      ∨ t.rsq.state = .abandoned) : DriveSafe t := by
  constructor
  · constructor
    · simp [hr]
    · simp [hc]
    · simp [ht]
    · rcases hs with hs | hs | hs | hs <;> simp [hs]
    · rcases hs with hs | hs | hs | hs <;> simp [hs, mayPend]
  · simp [RequestCalm, hr]
  · rcases hs with hs | hs | hs | hs <;> simp [QueuedMet, hs]
  · simp [TenureReady, ht]

end DriveSafe

/-! ### Operations that bring no request, claim or tenure -/

theorem retestStart_claim (s : State) :
    (retestStart s).ssu.claim ≠ .none → s.ssu.claim ≠ .none := by
  unfold retestStart
  split
  · next h => simp [h.1]
  · exact id

theorem setHolder_claim (v : Option Nat) (s : State) :
    (setHolder v s).ssu.claim ≠ .none → s.ssu.claim ≠ .none := by
  unfold setHolder
  split
  · exact id
  · have hclear : ∀ u, (clearTest u).ssu.claim = u.ssu.claim := fun u => by simp
    intro h
    rw [hclear] at h
    simpa using retestStart_claim _ h

theorem endTenure_claim (r : ReleaseReason) (s : State) :
    (endTenure r s).ssu.claim ≠ .none → s.ssu.claim ≠ .none := by
  unfold endTenure
  split
  · dsimp only
    split
    · simpa using setHolder_claim none _
    · simp
  · exact id

theorem resendStart_claim (s : State) :
    (resendStart s).ssu.claim ≠ .none → s.ssu.claim ≠ .none := by
  unfold resendStart
  split <;> simp_all

theorem refreshUrgency_claim (s : State) :
    (refreshUrgency s).ssu.claim ≠ .none → s.ssu.claim ≠ .none := by
  unfold refreshUrgency
  split
  · exact id
  · dsimp only
    split
    · intro h
      simpa using resendStart_claim _ h
    · simp

theorem creepTest_claim (s : State) :
    (creepTest s).ssu.claim ≠ .none → s.ssu.claim ≠ .none := by
  unfold creepTest
  split
  · intro h
    simpa using refreshUrgency_claim _ h
  · exact id

/-- The request and the tenure stand and no claim has come. -/
theorem NoMore.of_claim {s t : State} (hc : t.ssu.claim ≠ .none → s.ssu.claim ≠ .none)
    (h : t.ssu.request = s.ssu.request ∧ t.ssu.tenure = s.ssu.tenure) : NoMore s t :=
  ⟨by rw [h.1]; exact id, fun hn => ⟨hc hn, h.1⟩, by rw [h.2]; exact id⟩

/-- A state without request, claim and tenure is fewer than any. -/
theorem NoMore.of_none {s t : State} (h : t.ssu.request = false ∧ t.ssu.claim = .none
    ∧ t.ssu.tenure = false) : NoMore s t :=
  ⟨by simp [h.1], by simp [h.2.1], by simp [h.2.2]⟩

theorem withdrawClaims_none (s : State) : (withdrawClaims s).ssu.request = false
    ∧ (withdrawClaims s).ssu.claim = .none ∧ (withdrawClaims s).ssu.tenure = false := by
  obtain ⟨-, -, -, hssu, -⟩ := withdrawClaims_ends s
  rw [hssu]
  simp

/-- The urgency brings no claim where none stands. -/
theorem refreshUrgency_none {s : State} (h : s.ssu.claim = .none) :
    (refreshUrgency s).ssu.claim = .none := by
  by_contra hn
  exact refreshUrgency_claim s hn h

/-- Stop entry ends every own claim, request and tenure (R7). -/
theorem stopEntry_none (c : Cause) (before s : State) : (stopEntry c before s).ssu.request = false
    ∧ (stopEntry c before s).ssu.claim = .none ∧ (stopEntry c before s).ssu.tenure = false := by
  have hbeacon : ∀ u, (beaconIfChanged before u).ssu.claim = u.ssu.claim := fun u => by simp
  refine ⟨by simp [stopEntry, withdrawClaims_none], ?_, by simp [stopEntry, withdrawClaims_none]⟩
  rw [stopEntry, hbeacon]
  exact refreshUrgency_none (by simp [withdrawClaims_none])

/-! ### The first point and the slot -/

namespace DriveSafe

variable {s t : State}

theorem enterRamping (h : DriveSafe s) (hq : s.rsq.state = .queued) (hd : s.driveRunning = true) :
    DriveSafe (enterRamping s) := by
  have hnoreq : s.ssu.request = false := by
    by_contra hr
    exact Bool.eq_false_iff.mp (h.calm (by simpa using hr)) hd
  have hnoclaim : s.ssu.claim = .none := by
    by_contra hc
    exact Bool.eq_false_iff.mp hnoreq (h.claim hc).1
  obtain ⟨hrun, hready⟩ : s.rsq.runReq = true ∧ s.drvReady = true := by
    simpa [State.driveRunning] using hd
  have hstate : (Machine.enterRamping s).rsq.state = .ramping := by simp [Machine.enterRamping]
  have hrunReq : (Machine.enterRamping s).rsq.runReq = true := by simp [Machine.enterRamping, hrun]
  have htenure : (Machine.enterRamping s).ssu.tenure = s.ssu.tenure := by simp [Machine.enterRamping]
  have hclaim : (Machine.enterRamping s).ssu.claim = .none := by
    by_contra hc
    have hcreep := creepTest_claim _ (refreshUrgency_claim _ hc)
    exact hcreep (by simpa using hnoclaim)
  have hinputs : (Machine.enterRamping s).spu.inputs = s.spu.inputs := by simp [Machine.enterRamping]
  constructor
  · constructor
    · simp [hnoreq]
    · simp [hclaim]
    · exact fun _ => ⟨.inr hstate, hrunReq⟩
    · exact fun _ => hrunReq
    · simp [hstate, mayPend]
  · simp [RequestCalm, hnoreq]
  · simp [QueuedMet, hstate]
  · intro _ ht
    have hsupply : s.filtered .supplyOk = true := by
      have hdip := h.dip (by simp [hq, mayPend]) (.inr (.inl (htenure ▸ ht)))
      obtain ⟨r, hr⟩ := Option.isSome_iff_exists.mp hdip
      have hmet := List.all_eq_true.mp (h.met hq) .dip (by simp [allCauses])
      simpa [PerCause.get, hr, State.preconditionMet] using hmet
    rw [State.drvReady_eq, State.filtered_congr hinputs, State.filtered_congr hinputs]
    exact ⟨hready, hsupply⟩

theorem giveNeed (n : Nat) (h : DriveSafe s) : DriveSafe (giveNeed n s) :=
  h.of_same (by constructor <;> simp [State.filtered]) (by simp)

theorem firstPointTest (h : DriveSafe s) : DriveSafe (firstPointTest s) := by
  unfold Machine.firstPointTest
  split
  · next hq =>
    split
    · exact h.enterRamping hq.1 hq.2
    · split
      · exact h
      · dsimp only
        split
        · exact (h.giveNeed _).enterRamping (by simpa using hq.1)
            (by simpa [State.driveRunning, State.drvReady] using hq.2)
        · exact h.giveNeed _
  · exact h

end DriveSafe

/-- Where the drive runs in QUEUED the request is withdrawn, so that no request finds the drive running
(R105). -/
theorem driveTest_driveSafe {s : State} (h : DriveMin s) (hmet : QueuedMet s) (hready : TenureReady s) :
    DriveSafe (driveTest s) := by
  unfold driveTest
  split
  · have hsafe : DriveSafe { s with ssu := { s.ssu with request := false, claim := .none } } := by
      have hless : DriveMin { s with ssu := { s.ssu with request := false, claim := .none } } :=
        h.less ⟨rfl, rfl, rfl, rfl, rfl, fun _ => rfl⟩ ⟨by simp, by simp, id⟩
      exact ⟨hless, by simp [RequestCalm], hmet, hready⟩
    refine (hsafe.of_same ?_ ?_).firstPointTest
    · constructor <;> simp [State.filtered]
    · simp
  · next hd =>
    refine ⟨h, fun hr => ?_, hmet, hready⟩
    simpa [h.request hr] using hd

/-- A take in QUEUED on a standing request (R112, R117). -/
theorem takeSlot_driveSafe {s : State} (n : Nat) (h : DriveSafe s) (hr : s.ssu.request = true) :
    DriveSafe (takeSlot n s) := by
  have hq := h.request hr
  refine driveTest_driveSafe ?_ (fun _ => ?_) (fun hs => ?_)
  · constructor
    · simp [hq]
    · simp [slotTaken]
    · simp [hq, slotTaken]
    · simp [hq]
    · simpa using fun hp _ => h.dip hp (.inr (.inr hr))
  · rw [State.allMet_congr (s := s) (by simp) (by simp) (by simp) (State.filtered_congr (by simp) _)
      (State.filtered_congr (by simp) _)]
    exact h.met hq
  · simp [hq] at hs

namespace DriveSafe

variable {s t : State}

theorem formStart (h : DriveSafe s) (hr : s.ssu.request = true) (ht : s.ssu.tenure = false) :
    DriveSafe (formStart s) where
  request := by simpa using h.request
  claim _ := by simp [hr, ht]
  tenure := by simpa using h.tenure
  runs := by simpa using h.runs
  dip := by simpa using h.dip
  calm := by simpa [RequestCalm, State.driveRunning, State.drvReady] using h.calm
  met := by
    intro hs
    rw [State.allMet_congr (s := s) (by simp) (by simp) (by simp) (State.filtered_congr (by simp) _)
      (State.filtered_congr (by simp) _)]
    exact h.met (by simpa using hs)
  ready := by simpa [TenureReady, State.drvReady, State.filtered] using h.ready

theorem actOnRequest (h : DriveSafe s) : DriveSafe (actOnRequest s) := by
  unfold Machine.actOnRequest
  split
  · next hr =>
    split
    · exact h.formStart hr.1 hr.2.1
    · split
      · exact takeSlot_driveSafe _ h hr.1
      · exact h
    · split
      · exact takeSlot_driveSafe _ h hr.1
      · exact h
    all_goals exact h
  · exact h

end DriveSafe

/-! ### Preconditions and stop events -/

/-- Entry to QUEUED with every precondition met (R14, R15). -/
theorem enterQueued_driveSafe {s : State} (h : DriveMin s) (hs : s.rsq.state = .stopped)
    (hmet : s.allMet = true) : DriveSafe (enterQueued s) := by
  have hr : s.ssu.request = false := by
    by_contra hr
    simpa [hs] using h.request (by simpa using hr)
  have hc : s.ssu.claim = .none := by
    by_contra hc
    exact Bool.eq_false_iff.mp hr (h.claim hc).1
  have ht : s.ssu.tenure = false := by
    by_contra ht
    have hplace := (h.tenure (by simpa using ht)).1
    simp [hs] at hplace
  have hdip : s.rsq.runReq = false → s.rsq.pendingSet.dip.isSome = true := fun hrun =>
    h.dip (by simp [hs, mayPend]) (.inl hrun)
  have hc1 : (refreshUrgency (requestBeacon { s with rsq := { s.rsq with state := .queued } })).ssu.claim
      = .none := refreshUrgency_none (by simpa using hc)
  have hmet1 : (refreshUrgency (requestBeacon { s with rsq := { s.rsq with state := .queued } })).allMet
      = true := by
    rw [State.allMet_congr (s := s) (by simp) (by simp) (by simp) (State.filtered_congr (by simp) _)
      (State.filtered_congr (by simp) _)]
    exact hmet
  have hmin : DriveMin (refreshUrgency (requestBeacon { s with rsq := { s.rsq with state := .queued } })) := by
    constructor
    · simp
    · simp [hc1]
    · simp [ht]
    · simp
    · simpa [hr, ht] using fun _ => hdip
  unfold enterQueued
  dsimp only
  split
  · exact driveTest_driveSafe hmin (fun _ => hmet1) (fun hs => by simp at hs)
  · next hrun =>
    have hrun' : s.rsq.runReq = false := by simpa using hrun
    refine DriveSafe.actOnRequest ⟨?_, ?_, fun _ => hmet1, fun hs => by simp at hs⟩
    · constructor
      · simp
      · simp [hc1]
      · simp [ht]
      · simp
      · simpa [hrun'] using fun _ => hdip hrun'
    · simp [RequestCalm, State.driveRunning, hrun']

/-- Return to STOPPED: the own claims and the tenure end (R17). -/
theorem returnToStopped_driveSafe {s : State} (h : DriveMin s) (hs : s.rsq.state = .queued) :
    DriveSafe (returnToStopped s) := by
  obtain ⟨hr, hc, ht⟩ := withdrawClaims_none { s with rsq := { s.rsq with state := .stopped } }
  have hc1 : (returnToStopped s).ssu.claim = .none := refreshUrgency_none (by simpa using hc)
  have hr1 : (returnToStopped s).ssu.request = false := by simpa [returnToStopped] using hr
  have ht1 : (returnToStopped s).ssu.tenure = false := by simpa [returnToStopped] using ht
  have hstate : (returnToStopped s).rsq.state = .stopped := by simp [returnToStopped]
  constructor
  · constructor
    · simp [hr1]
    · simp [hc1]
    · simp [ht1]
    · simp [hstate]
    · intro _ hd
      have hrun : s.rsq.runReq = false := by
        rw [hr1, ht1] at hd
        simpa [returnToStopped] using hd
      simpa [returnToStopped] using h.dip (by simp [hs, mayPend]) (.inl hrun)
  · simp [RequestCalm, hr1]
  · simp [QueuedMet, hstate]
  · simp [TenureReady, ht1]

/-- The evaluation of the preconditions brings back that they are met in QUEUED (R13, R14, R17). -/
theorem evalPreconditions_driveSafe {s : State} (h : DriveMin s) (hcalm : RequestCalm s)
    (hready : TenureReady s) : DriveSafe (evalPreconditions s) := by
  unfold evalPreconditions
  split
  · next hs =>
    split
    · next hmet => exact enterQueued_driveSafe h hs hmet
    · exact ⟨h, hcalm, by simp [QueuedMet, hs], hready⟩
  · next hs =>
    split
    · next hmet => exact ⟨h, hcalm, fun _ => hmet, hready⟩
    · exact returnToStopped_driveSafe h hs
  all_goals
    next hs => exact ⟨h, hcalm, by simp [QueuedMet, hs], hready⟩

/-- A stop of another cause than DIP that finds RUN_REQ clear leaves a DIP record pending (R6, R7). -/
theorem State.stopMet_dip {s u : State} {c : Cause} {e : Option Nat} (h : DriveMin s)
    (hu : s.stopMet c e = some u) (hc : c ≠ .dip) (hrun : u.rsq.runReq = false) :
    u.rsq.pendingSet.dip.isSome = true := by
  have hmerge : ∀ {v : State}, v.rsq.pendingSet.dip.isSome = true →
      (v.mergeCause v.rsq.pendingSet c e).dip.isSome = true := fun {v} hv => by
    have hset : ∀ r, (v.rsq.pendingSet.set c r).get .dip = v.rsq.pendingSet.get .dip := fun r =>
      PerCause.get_set_ne _ _ (Ne.symm hc)
    unfold State.mergeCause
    split
    · exact (congrArg Option.isSome (hset _)).trans hv
    · exact (congrArg Option.isSome (hset _)).trans hv
  unfold State.stopMet at hu
  split at hu
  iterate 3 exact nomatch hu
  · cases hu
    have hready : s.drvReady = false := hrun
    have hget : ((PendingSet.empty.set c (some (s.newRecord c e))).set .dip
        (some (s.newRecord .dip none))).get .dip = some (s.newRecord .dip none) := PerCause.get_set_same ..
    simp only [authorityTaken, hready, hc, decide_false, Bool.or_self, Bool.false_eq_true, if_false]
    exact congrArg Option.isSome hget
  · next hs =>
    cases hu
    exact hmerge (h.dip (by simp [hs, mayPend]) (.inl hrun))
  · next hs =>
    cases hu
    exact hmerge (h.dip (by simp [hs, mayPend]) (.inl hrun))
  · next hs =>
    cases hu
    have hruns := h.runs (.inl hs)
    simp [causeMerged, hruns] at hrun
  · next hs =>
    cases hu
    have hruns := h.runs (.inr hs)
    simp [handbackStopped, hruns] at hrun

/-- A stop event ends the own claims and the tenure, and leaves a DIP record where RUN_REQ is clear (R6,
R7). -/
theorem stopEvent_driveSafe {s : State} (c : Cause) (e : Option Nat) (h : DriveMin s) :
    DriveSafe (stopEvent c e s) := by
  rw [stopEvent_eq]
  split
  · next hnone =>
    have hs : s.rsq.state = .unjoined ∨ s.rsq.state = .parked ∨ s.rsq.state = .abandoned := by
      unfold State.stopMet at hnone
      split at hnone <;> simp_all
    have hr : s.ssu.request = false := by
      by_contra hr
      have hq := h.request (by simpa using hr)
      simp [hq] at hs
    have hc : s.ssu.claim = .none := by
      by_contra hc
      exact Bool.eq_false_iff.mp hr (h.claim hc).1
    have ht : s.ssu.tenure = false := by
      by_contra ht
      have hq := (h.tenure (by simpa using ht)).1
      rcases hs with hs | hs | hs <;> simp [hs] at hq
    exact .idle hr hc ht (by tauto)
  · next u hu =>
    obtain ⟨hstate, hget⟩ := State.stopMet_does hu
    obtain ⟨-, -, hrun, hs, hp⟩ := stopEntry_does c s u
    obtain ⟨hr1, hc1, ht1⟩ := stopEntry_none c s u
    refine evalPreconditions_driveSafe ?_ (by simp [RequestCalm, hr1]) (by simp [TenureReady, ht1])
    constructor
    · simp [hr1]
    · simp [hc1]
    · simp [ht1]
    · simp [hstate]
    · intro _ hd
      rw [hp]
      by_cases hdip : c = .dip
      · subst hdip
        exact hget
      · have hrun0 : u.rsq.runReq = false := by simpa [hr1, ht1, hrun, hdip] using hd
        exact State.stopMet_dip h hu hdip hrun0

end Sys2Proof.Machine
end

section
/-! SUPPORT. Every operation of `Kept` keeps `DriveSafe`, and with it the laws of the start slot. -/

namespace Sys2Proof.Machine

/-! ### Ends of authority -/

theorem giveUpAuthority_driveSafe (s : State) {q : SeqState} (hq : q = .watch ∨ q = .parked) :
    DriveSafe (giveUpAuthority q s) := by
  refine .idle (by simp [giveUpAuthority, withdrawClaims_none]) ?_
    (by simp [giveUpAuthority, withdrawClaims_none]) ?_
  · rw [giveUpAuthority]
    exact refreshUrgency_none (by simp [withdrawClaims_none])
  · rcases hq with rfl | rfl <;> simp

theorem enterAbandoned_driveSafe (s : State) : DriveSafe (enterAbandoned s) := by
  refine .idle (by simp [enterAbandoned, withdrawClaims_none]) ?_
    (by simp [enterAbandoned, withdrawClaims_none]) (by simp)
  rw [enterAbandoned]
  exact refreshUrgency_none (by simp [withdrawClaims_none])

theorem popContext_claim (c : Context) (rest : List Context) (s : State) :
    (popContext c rest s).ssu.claim ≠ .none → s.ssu.claim ≠ .none := by
  have hbeacon : ∀ u, (beaconIfChanged s u).ssu.claim = u.ssu.claim := fun u => by simp
  intro h
  rw [popContext, hbeacon] at h
  simpa using creepTest_claim _ (refreshUrgency_claim _ h)

/-- HANDBACK is entered from RAMPING, with RUN_REQ set and the own claims ended (R20). -/
theorem enterHandback_driveSafe {s : State} (hrun : s.rsq.runReq = true) :
    DriveSafe (enterHandback s) := by
  have hr : (enterHandback s).ssu.request = false := by simp [enterHandback, withdrawClaims_none]
  have ht : (enterHandback s).ssu.tenure = false := by simp [enterHandback, withdrawClaims_none]
  have hc : (enterHandback s).ssu.claim = .none := by
    rw [enterHandback]
    exact refreshUrgency_none (by simp [withdrawClaims_none])
  constructor
  · constructor
    · simp [hr]
    · simp [hc]
    · simp [ht]
    · exact fun _ => by simpa [enterHandback] using hrun
    · simp [mayPend]
  · simp [RequestCalm, hr]
  · simp [QueuedMet]
  · simp [TenureReady, ht]

theorem completePoint_driveSafe {s : State} (h : DriveSafe s) (hs : s.rsq.state = .ramping) :
    DriveSafe (completePoint s) := by
  have hadvance : DriveSafe (advanceStep { s with rsq := { s.rsq with
      levelHold := false
      counters := { s.rsq.counters with pointsCompleted := s.rsq.counters.pointsCompleted + 1 } } }) :=
    h.of_same (by constructor <;> simp [State.filtered]) (by simp)
  unfold completePoint
  dsimp only
  split
  · split
    · exact h.less (by constructor <;> simp [State.filtered])
        (.of_claim (popContext_claim _ _ _) (by simp))
    · exact hadvance
  · split
    · exact enterHandback_driveSafe (h.runs (.inl hs))
    · exact hadvance

/-! ### The tenure timer (R113) -/

/-- A start timeout in QUEUED: the tenure has ended, RUN_REQ is clear, and the DIP record stands. -/
theorem startTimeout_driveSafe {s : State} (n : Nat) (h : DriveSafe s) (ht : s.ssu.tenure = true)
    (hq : s.rsq.state = .queued) : DriveSafe (startTimeout n s) := by
  have hclaim : (startTimeout n s).ssu.claim = .none := by
    by_contra hc
    have hsc : s.ssu.claim ≠ .none := by simpa using endTenure_claim _ _ hc
    exact Bool.eq_false_iff.mp (h.claim hsc).2 ht
  have hrun : (startTimeout n s).rsq.runReq = false := by simp [startTimeout]
  have htenure : (startTimeout n s).ssu.tenure = false := by simp [startTimeout]
  have hstate : (startTimeout n s).rsq.state = .queued := by simpa [startTimeout] using hq
  constructor
  · constructor
    · exact fun _ => hstate
    · simp [hclaim]
    · simp [htenure]
    · simp [hstate]
    · intro hp _
      have hdip := h.dip (by simp [hq, mayPend]) (.inr (.inl ht))
      simpa [startTimeout] using hdip
  · simp [RequestCalm, State.driveRunning, hrun]
  · intro _
    rw [State.allMet_congr (s := s) (by simp [startTimeout]) (by simp [startTimeout])
      (by simp [startTimeout]) (State.filtered_congr (by simp [startTimeout]) _)
      (State.filtered_congr (by simp [startTimeout]) _)]
    exact h.met hq
  · simp [TenureReady, htenure]

theorem tenureTimeout_driveSafe {s : State} (h : DriveSafe s) (ht : s.ssu.tenure = true) :
    DriveSafe (tenureTimeout s) := by
  unfold tenureTimeout
  split
  · exact h.less (by constructor <;> simp [State.filtered])
      ⟨by simp, fun hc => ⟨endTenure_claim _ _ hc, by simp⟩, by simp⟩
  · next hready =>
    have hq : s.rsq.state = .queued :=
      (h.tenure ht).1.resolve_right fun hr => hready (h.ready hr ht).1
    split
    · exact (startTimeout_driveSafe 1 h ht hq).actOnRequest
    · exact enterAbandoned_driveSafe _

/-! ### Input edges (R158) -/

theorem State.filtered_withInput_same (s : State) (i : Input) (raw : Bool) :
    (s.withInput i raw).filtered i = raw := by
  simp [State.filtered, State.withInput]

theorem State.filtered_withInput_ne (s : State) {i j : Input} (raw : Bool) (h : j ≠ i) :
    (s.withInput i raw).filtered j = s.filtered j := by
  simp [State.filtered, State.withInput, h]

theorem State.filtered_countInput (s : State) (i j : Input) (raw : Bool) :
    (s.countInput i raw).filtered j = s.filtered j := by
  unfold State.countInput State.filtered
  by_cases h : j = i
  · subst h
    simp
  · simp [h]

/-- The laws that read no input stand whatever the inputs are. -/
theorem DriveMin.withInput {s : State} (h : DriveMin s) (i : Input) (raw : Bool) :
    DriveMin (s.withInput i raw) :=
  ⟨h.request, h.claim, h.tenure, h.runs, h.dip⟩

/-- No precondition reads DRV_READY or BRK_IN (R13). -/
theorem QueuedMet.withInput {s : State} (h : QueuedMet s) {i : Input} (raw : Bool)
    (hsupply : Input.supplyOk ≠ i) (hdummy : Input.dummyIn ≠ i) : QueuedMet (s.withInput i raw) := by
  intro hq
  rw [State.allMet_congr (s := s) (t := s.withInput i raw) rfl rfl rfl
    (s.filtered_withInput_ne raw hsupply) (s.filtered_withInput_ne raw hdummy)]
  exact h hq

/-- A rise of DRV_READY withdraws the request, and a tenure in RAMPING finds the drive ready (R15, R116). -/
theorem drvReadyRise_driveSafe {s : State} (h : DriveSafe s) :
    DriveSafe (drvReadyRise (s.withInput .drvReady true)) := by
  have hsafe : DriveSafe (driveTest (s.withInput .drvReady true)) := by
    refine driveTest_driveSafe (h.toDriveMin.withInput _ _)
      (QueuedMet.withInput h.met _ (by decide) (by decide)) fun hs ht => ⟨rfl, ?_⟩
    rw [s.filtered_withInput_ne true (by decide)]
    exact (h.ready hs ht).2
  unfold drvReadyRise
  dsimp only
  split
  · exact hsafe.less (by constructor <;> simp [State.filtered])
      ⟨by simp, fun hc => ⟨endTenure_claim _ _ hc, by simp⟩, by simp⟩
  · exact hsafe

/-- An edge that is given is followed by a state in which every law stands (R6, R7, R13, R15). -/
theorem giveEdge_driveSafe {s : State} (i : Input) (raw : Bool) (h : DriveSafe s) :
    DriveSafe (giveEdge i raw (s.withInput i raw)) := by
  have hmin := h.toDriveMin.withInput i raw
  have hcalm : i ≠ .drvReady → RequestCalm (s.withInput i raw) := fun hi hr => by
    have hdrive := h.calm hr
    rwa [State.driveRunning, State.drvReady_eq, ← s.filtered_withInput_ne raw (Ne.symm hi)] at hdrive
  have hready : i ≠ .drvReady → (i = .supplyOk → raw = true) → TenureReady (s.withInput i raw) :=
    fun hi hsupply hs ht => by
      obtain ⟨hdrv, hsup⟩ := h.ready hs ht
      rw [State.drvReady_eq, s.filtered_withInput_ne raw (Ne.symm hi)]
      refine ⟨hdrv, ?_⟩
      by_cases hi2 : i = .supplyOk
      · subst hi2
        rw [s.filtered_withInput_same]
        exact hsupply rfl
      · rw [s.filtered_withInput_ne raw (Ne.symm hi2)]
        exact hsup
  cases i with
  | supplyOk =>
    cases raw with
    | true => exact evalPreconditions_driveSafe hmin (hcalm (by decide)) (hready (by decide) fun _ => rfl)
    | false => exact stopEvent_driveSafe _ _ hmin
  | drvReady =>
    cases raw with
    | true => exact drvReadyRise_driveSafe h
    | false =>
      unfold giveEdge
      simp only [Bool.false_eq_true, if_false]
      split
      · exact stopEvent_driveSafe _ _ hmin
      · next hno =>
        have hdown : (s.withInput .drvReady false).drvReady = false :=
          s.filtered_withInput_same .drvReady false
        refine ⟨hmin, fun _ => by simp [State.driveRunning, hdown],
          QueuedMet.withInput h.met _ (by decide) (by decide), fun hs ht => absurd ?_ hno⟩
        rw [s.filtered_withInput_ne false (by decide), Bool.and_eq_true]
        exact ⟨h.runs (.inl hs), (h.ready hs ht).2⟩
  | brkIn =>
    cases raw with
    | true => exact stopEvent_driveSafe _ _ hmin
    | false =>
      exact ⟨hmin, hcalm (by decide), QueuedMet.withInput h.met _ (by decide) (by decide),
        hready (by decide) nofun⟩
  | dummyIn => exact evalPreconditions_driveSafe hmin (hcalm (by decide)) (hready (by decide) nofun)

theorem DriveSafe.stamp {t : State} (s : State) (h : DriveSafe t) : DriveSafe (stampFault s t) := by
  rw [stampFault_does]
  exact h.of_blocks rfl ⟨rfl, rfl⟩ rfl rfl

theorem sampleInput_driveSafe {s : State} (i : Input) (raw : Bool) (h : DriveSafe s) :
    DriveSafe (sampleInput i raw s) := by
  by_cases ha : Accepts s i raw
  · rw [sampleInput_accepts ha]
    exact (giveEdge_driveSafe i raw h).stamp s
  · rw [sampleInput_counts ha]
    exact h.of_same ⟨rfl, rfl, rfl, rfl, rfl, fun j => s.filtered_countInput i j raw⟩ ⟨rfl, rfl, rfl⟩

/-! ### Tundish, line and the rest -/

/-- The preconditions evaluated on a state that kept request, claim, tenure, RUN_REQ and inputs. -/
theorem evalPreconditions_driveSafe_of {s t : State} (h : DriveSafe s)
    (hrsq : t.rsq.state = s.rsq.state ∧ t.rsq.runReq = s.rsq.runReq
      ∧ t.rsq.pendingSet.dip.isSome = s.rsq.pendingSet.dip.isSome)
    (hssu : t.ssu = s.ssu) (hin : t.spu.inputs = s.spu.inputs) : DriveSafe (evalPreconditions t) := by
  obtain ⟨hstate, hrun, hdip⟩ := hrsq
  refine evalPreconditions_driveSafe ?_ ?_ ?_
  · constructor
    · rw [hssu, hstate]
      exact h.request
    · rw [hssu]
      exact h.claim
    · rw [hssu, hstate, hrun]
      exact h.tenure
    · rw [hstate, hrun]
      exact h.runs
    · rw [hssu, hstate, hrun, hdip]
      exact h.dip
  · rw [RequestCalm, State.driveRunning, hssu, hrun, State.drvReady_eq, State.filtered_congr hin]
    exact h.calm
  · rw [TenureReady, hssu, hstate, State.drvReady_eq, State.filtered_congr hin, State.filtered_congr hin]
    exact h.ready

theorem takeReady_driveSafe {s : State} (e : Nat) (l : Option Nat) (h : DriveSafe s) :
    DriveSafe (takeReady e l s) := by
  unfold takeReady
  split
  · exact evalPreconditions_driveSafe_of h (by simp) (by simp) (by simp)
  · split
    · exact evalPreconditions_driveSafe_of h (by simp) (by simp) (by simp)
    · exact h

theorem takeBegin_driveSafe {s : State} (e : Nat) (h : DriveSafe s) : DriveSafe (takeBegin e s) := by
  unfold takeBegin
  split
  · have hstop := stopEvent_driveSafe .tundish (some e)
      (s := { s with dbu := { s.dbu with epoch := e, phase := .opened, learned := true, mismatch := false } })
      ⟨h.request, h.claim, h.tenure, h.runs, h.dip⟩
    exact hstop.of_same (by constructor <;> simp [State.filtered]) (by simp)
  · exact h

theorem startLineChange_driveSafe {s : State} (q : LineState) (h : DriveSafe s) :
    DriveSafe (startLineChange q s) := by
  have hless : DriveSafe (withdrawStart s) :=
    h.less (by constructor <;> simp [State.filtered]) ⟨by simp, by simp, by simp⟩
  cases q with
  | active => exact h.actOnRequest
  | deaf | barred => exact hless.actOnRequest
  | off | listen => exact h

theorem lineBeacon_driveSafe {s : State} (q : LineState) (h : DriveSafe s) :
    DriveSafe (lineBeacon q s) := by
  unfold lineBeacon
  split
  · exact h.of_blocks rfl ⟨rfl, rfl⟩ rfl rfl
  · exact h

theorem changeLine_driveSafe {s : State} (q : LineState) (h : DriveSafe s) :
    DriveSafe (changeLine q s) := by
  have h1 : DriveSafe (notify .lineChanged { s with lnc := { s.lnc with line := q } }) :=
    h.of_blocks rfl ⟨rfl, rfl⟩ rfl rfl
  have h2 : DriveSafe (drawLineChange q (notify .lineChanged { s with lnc := { s.lnc with line := q } })) :=
    h1.of_same (by constructor <;> simp [State.filtered]) (by simp)
  exact lineBeacon_driveSafe q (startLineChange_driveSafe q h2).firstPointTest

/-- Outside QUEUED and RAMPING there is no request, no claim and no tenure. -/
theorem DriveMin.nothing {s : State} (h : DriveMin s) (hq : s.rsq.state ≠ .queued)
    (hr : s.rsq.state ≠ .ramping) :
    s.ssu.request = false ∧ s.ssu.claim = .none ∧ s.ssu.tenure = false := by
  have hreq : s.ssu.request = false := by
    by_contra hn
    exact hq (h.request (by simpa using hn))
  refine ⟨hreq, ?_, ?_⟩
  · by_contra hn
    exact Bool.eq_false_iff.mp hreq (h.claim hn).1
  · by_contra hn
    exact (h.tenure (by simpa using hn)).1.elim hq hr

theorem moveIdle_driveSafe {s : State} {q : SeqState} (h : DriveSafe s) (hs : s.rsq.state ≠ .queued)
    (hr : s.rsq.state ≠ .ramping) (hq : q = .watch ∨ q = .parked) : DriveSafe (moveIdle q s) := by
  obtain ⟨hreq, hc, ht⟩ := h.toDriveMin.nothing hs hr
  refine .idle (by simpa [moveIdle] using hreq) ?_ (by simpa [moveIdle] using ht) ?_
  · rw [moveIdle]
    exact refreshUrgency_none (by simpa using hc)
  · rcases hq with rfl | rfl <;> simp [moveIdle]

/-- JOIN leaves the start slot unit alone. -/
theorem joinLine_ssu (s : State) : (joinLine s).ssu = s.ssu := by
  have hlisten := changeLine_listen (s := s.atJoin) (by simp [State.atJoin])
  unfold joinLine
  rw [hlisten]
  simp [State.atJoin]

/-- Every step keeps the laws of request, claim, tenure and RUN_REQ. -/
theorem driveSafe_kept : KeptBySteps DriveSafe where
  aside h a := by
    obtain ⟨hstate, hpend, -, -, -, -, hrun, -⟩ := a.seq
    obtain ⟨-, hepoch, hphase, -⟩ := a.dbu
    obtain ⟨hr, hc, -, -, ht⟩ := a.ssu
    exact h.of_same ⟨hstate, hpend, hrun, hphase, hepoch, State.filtered_congr a.inputs⟩ ⟨hr, hc, ht⟩
  stamp _ h := DriveSafe.stamp _ h
  capture _ _ h := h.of_same (by constructor <;> simp [State.filtered]) (by simp)
  beacon h := h.of_same (by constructor <;> simp [State.filtered]) (by simp)
  frame _ h _ := h.of_same (by constructor <;> simp [State.filtered]) (by simp)
  removed _ h _ := h.of_blocks rfl ⟨rfl, rfl⟩ rfl rfl
  entered _ h _ _ _ := h.of_blocks rfl ⟨rfl, rfl⟩ rfl rfl
  drawView h := h.of_same (by constructor <;> simp [State.filtered]) (by simp)
  holder _ h := h.less (by constructor <;> simp [State.filtered]) (.of_claim (setHolder_claim _ _) (by simp))
  retest h := h.less (by constructor <;> simp [State.filtered]) (.of_claim (retestStart_claim _) (by simp))
  waits h hc := h.less
    (by constructor <;> simp [startWaits, State.filtered])
    (.of_claim (by simp [hc]) (by simp [startWaits]))
  tenureEnd _ h := h.less (by constructor <;> simp [State.filtered])
    ⟨by simp, fun hc => ⟨endTenure_claim _ _ hc, by simp⟩, by simp⟩
  urgency h := h.less (by constructor <;> simp [State.filtered])
    (.of_claim (refreshUrgency_claim _) (by simp))
  creep h := h.less (by constructor <;> simp [State.filtered]) (.of_claim (creepTest_claim _) (by simp))
  need _ h _ _ := h.giveNeed _
  dropNeed h := h.of_same (by constructor <;> simp [State.filtered]) (by simp)
  firstPoint h := h.firstPointTest
  request h := h.actOnRequest
  slot n h hc := takeSlot_driveSafe n h (h.claim (by simp [hc])).1
  settled h _ := h.of_blocks (by simp [settleDraw]) (by simp [settleDraw]) (by simp [settleDraw]) (by simp [settleDraw])
  drawSent _ h := by
    unfold drawSent
    split
    · exact h.of_blocks rfl ⟨rfl, rfl⟩ rfl rfl
    · exact h
  startSent _ h := by
    unfold startSent
    split
    · next hc => exact h.less ⟨rfl, rfl, rfl, rfl, rfl, fun _ => rfl⟩ (.of_claim (by simp_all) ⟨rfl, rfl⟩)
    · exact h
  timeout h ht := tenureTimeout_driveSafe h ht
  stop c e h := stopEvent_driveSafe c e h.toDriveMin
  begins e h := takeBegin_driveSafe e h
  ready e l h := takeReady_driveSafe e l h
  adopt _ h := evalPreconditions_driveSafe_of h (by simp) (by simp) (by simp)
  latch h _ := evalPreconditions_driveSafe_of h (by simp [latchAll]) rfl rfl
  cast h hs := moveIdle_driveSafe h (by simp [hs]) (by simp [hs]) (.inl rfl)
  park h hs := moveIdle_driveSafe h (by simp [hs]) (by simp [hs]) (.inr rfl)
  giveUp _ _ _ hq := giveUpAuthority_driveSafe _ hq
  giveUpAll _ _ _ _ hq := giveUpAuthority_driveSafe _ hq
  abandon _ _ := enterAbandoned_driveSafe _
  point h hs := completePoint_driveSafe h hs
  line q h _ _ := changeLine_driveSafe q h
  bar k h _ := changeLine_driveSafe _
    (h.of_same ⟨by simp, by simp, by simp, by simp, by simp, by simp [State.filtered]⟩ (by simp))
  start d h _ := by
    unfold startFrame
    cases d <;> exact h.of_blocks rfl ⟨rfl, rfl⟩ rfl rfl
  abort t h _ := by
    unfold abortFrame
    split <;> exact h.of_blocks rfl ⟨rfl, rfl⟩ rfl rfl
  ended h := h.of_blocks rfl ⟨rfl, rfl⟩ rfl rfl
  input i raw h := sampleInput_driveSafe i raw h
  store _ _ _ h _ := h.of_blocks rfl ⟨rfl, rfl⟩ rfl rfl
  straps _ h _ := by
    rw [sampleStraps_does]
    exact h.of_blocks rfl ⟨rfl, rfl⟩ rfl rfl
  join h hs _ := by
    obtain ⟨hreq, hc, ht⟩ := h.toDriveMin.nothing (by simp [hs]) (by simp [hs])
    rw [← joinLine_ssu] at hreq hc ht
    exact .idle hreq hc ht (.inr (.inl (by rw [joinLine_rsq])))
  read h := h.of_blocks rfl ⟨rfl, rfl⟩ rfl rfl
  cleared h := h.of_blocks rfl ⟨rfl, rfl⟩ rfl rfl
  reset _ _ _ := .idle rfl rfl rfl (.inl rfl)
  time {s} h _ _ := by
    have hrsq : SameDrive s (advance s) ∧ (advance s).ssu = s.ssu := by
      unfold advance nextMs
      dsimp only
      split
      · exact ⟨⟨rfl, rfl, rfl, rfl, rfl, fun _ => rfl⟩, rfl⟩
      · split <;> exact ⟨⟨rfl, rfl, rfl, rfl, rfl, fun _ => rfl⟩, rfl⟩
    exact h.of_same hrsq.1 (by rw [hrsq.2]; exact ⟨rfl, rfl, rfl⟩)

/-- Settles O17: a request, a claim or a tenure comes in the operations that its law allows, and each
operation that ends a law's premise withdraws what stood under it. -/
theorem everyStepKeepsTheStartSlotLaws : Obligations.every_step_keeps_the_start_slot_laws := by
  intro s t hslot hdrive hstep
  exact driveSafe_iff.mp ((driveSafe_kept.step (driveSafe_iff.mpr ⟨hslot, hdrive⟩)).of_next t hstep)

end Sys2Proof.Machine
end

section
/-! SUPPORT. The line is OFF exactly in UNJOINED (R150), a line that sends nothing holds nothing to send
(R142), and a station that has joined has its straps latched (R176, R178), kept by every step beside the laws
of the start slot. -/

namespace Sys2Proof.Machine

/-! ### A line that sends nothing (R142) -/

theorem LineState.allows_of_silent {q : LineState} (h : q.allowsBeacon = false) (f : QueuedFrame) :
    q.allows f = false := by
  cases q <;> first | rfl | exact nomatch h

theorem Lnc.queueFrame_of_silent {l : Lnc} (h : l.line.allowsBeacon = false) (f : QueuedFrame) :
    l.queueFrame f = l := by
  unfold Lnc.queueFrame
  rw [if_neg (by simp [LineState.allows_of_silent h])]

theorem Lnc.requestBeacon_of_silent {l : Lnc} (h : l.line.allowsBeacon = false) :
    l.requestBeacon = l := by
  simp [Lnc.requestBeacon, h]

/-- A line that sends nothing has no head frame. -/
theorem Lnc.head_of_silent {l : Lnc} (h : l.line.allowsBeacon = false) : l.head = none := by
  have hfind : l.queue.find? l.line.allows = none := by
    simp [List.find?_eq_none, LineState.allows_of_silent h]
  simp [Lnc.head, h, hfind]

theorem LineSilent.of_lnc {s t : State} (h : LineSilent s) (hl : t.lnc.line = s.lnc.line)
    (hq : t.lnc.queue = s.lnc.queue) (hb : t.lnc.beacon = s.lnc.beacon)
    (ht : s.lnc.tx = none → t.lnc.tx = none) : LineSilent t := by
  intro hn
  obtain ⟨hqs, hbs, hts⟩ := h (hl ▸ hn)
  exact ⟨hq.trans hqs, hb.trans hbs, ht hts⟩

theorem lineSilent_traced : Traced LineSilent where
  same h e := by
    obtain ⟨-, hq, hl, -, -, -, -, -, hb, ht⟩ := e
    exact h.of_lnc hl hq hb ht
  place _ _ _ h := h
  status _ _ h := h
  remove _ h := h
  removed _ h := h
  entered _ h _ := h
  queue {s} f h := fun hn => by
    have hsilent : s.lnc.line.allowsBeacon = false := by simpa using hn
    simpa only [queueFrame, Lnc.queueFrame_of_silent hsilent] using h hsilent
  beacon {s} h := fun hn => by
    have hsilent : s.lnc.line.allowsBeacon = false := by simpa using hn
    simpa only [requestBeacon, Lnc.requestBeacon_of_silent hsilent] using h hsilent
  dropClear h := fun hn => by
    obtain ⟨hq, hb, ht⟩ := h hn
    exact ⟨by simp [Lnc.dropClear, hq], hb, ht⟩
  silence _ := fun _ => ⟨rfl, rfl, rfl⟩
  start {s} hd h hs := fun hn => by
    have hline : s.lnc.line.allowsBeacon = false := by
      cases hd <;> simpa [startFrame] using hn
    simp [State.startable, Lnc.head_of_silent hline] at hs
  abort {s} t h ht := fun hn => by
    have hline : s.lnc.line.allowsBeacon = false := by
      unfold abortFrame at hn
      split at hn <;> simpa using hn
    simp [(h hline).2.2] at ht
  capture _ _ h := h
  stamp _ h := h.of_lnc (by rw [stampFault_does]) (by rw [stampFault_does]) (by rw [stampFault_does])
    (by rw [stampFault_does]; exact id)
  noted _ h := h
  report _ h := h
  limit _ h := h
  line _ _ hq := hq
  state _ h _ := h
  ramping _ h := h

/-! ### Joined stations -/

/-- The laws of the start slot, and beside them those that hold a joined station to a line and its straps
latched. -/
structure JoinedSafe (s : State) : Prop extends DriveSafe s where
  silent : LineSilent s
  joined : LineJoined s
  straps : StrapsKnown s

/-- The sequencer has not joined or left, the line has not gone OFF or come from it, and the straps are as
before. -/
structure SameJoin (s t : State) : Prop where
  unjoined : t.rsq.state = .unjoined ↔ s.rsq.state = .unjoined
  line : t.lnc.line = .off ↔ s.lnc.line = .off
  strapDone : t.cpn.strapDone = s.cpn.strapDone

/-- A move of the sequencer neither joins nor leaves. -/
theorem SeqMoved.unjoined {s t : State} (m : SeqMoved s t) :
    t.rsq.state = .unjoined ↔ s.rsq.state = .unjoined := by
  have hpend : ∀ q, mayPend q = true → q ≠ .unjoined := fun q hq hu => by
    subst hu
    exact nomatch hq
  rcases m.moves with ⟨hst, -⟩ | ⟨hs, ht, -⟩ | ⟨hs, ht, -⟩
  · rw [hst]
  · exact iff_of_false (hpend _ ht) (hpend _ hs)
  · exact iff_of_false (by simp [ht]) (hpend _ hs)

namespace SameJoin

variable {s t u : State}

theorem trans (h : SameJoin s t) (k : SameJoin t u) : SameJoin s u :=
  ⟨k.unjoined.trans h.unjoined, k.line.trans h.line, k.strapDone.trans h.strapDone⟩

theorem of_same (hs : t.rsq.state = s.rsq.state) (hl : t.lnc.line = s.lnc.line)
    (hd : t.cpn.strapDone = s.cpn.strapDone) : SameJoin s t :=
  ⟨by rw [hs], by rw [hl], hd⟩

theorem of_moved (m : SeqMoved s t) (hl : t.lnc.line = s.lnc.line)
    (hd : t.cpn.strapDone = s.cpn.strapDone) : SameJoin s t :=
  ⟨m.unjoined, by rw [hl], hd⟩

/-- From one joined state to another. -/
theorem of_joined (hs : s.rsq.state ≠ .unjoined) (ht : t.rsq.state ≠ .unjoined)
    (hl : t.lnc.line = s.lnc.line) (hd : t.cpn.strapDone = s.cpn.strapDone) : SameJoin s t :=
  ⟨iff_of_false ht hs, by rw [hl], hd⟩

/-- A stop event neither joins nor leaves (R5). -/
theorem stop (c : Cause) (e : Option Nat) (s : State) : SameJoin s (stopEvent c e s) := by
  refine ⟨?_, by simp, by simp⟩
  rw [stopEvent_eq]
  split
  · exact Iff.rfl
  · next u hu =>
    have hs : s.rsq.state ≠ .unjoined := fun hs => by simp [State.stopMet, hs] at hu
    have hstop : (stopEntry c s u).rsq.state = .stopped :=
      (stopEntry_does c s u).2.2.2.1.trans (State.stopMet_does hu).1
    rw [(SeqMoved.evalPreconditions (stopEntry c s u)).unjoined, hstop]
    exact iff_of_false (by decide) hs

end SameJoin

namespace JoinedSafe

variable {s t : State}

theorem stands (h : JoinedSafe s) (hd : DriveSafe t) (hl : LineSilent t) (e : SameJoin s t) :
    JoinedSafe t where
  toDriveSafe := hd
  silent := hl
  joined := by
    rw [LineJoined, e.unjoined, e.line]
    exact h.joined
  straps hu := by
    rw [e.strapDone]
    exact h.straps fun hs => hu (e.unjoined.mpr hs)

theorem same (h : JoinedSafe s) (hd : DriveSafe t) (hl : LineSilent t)
    (e : t.rsq.state = s.rsq.state ∧ t.lnc.line = s.lnc.line ∧ t.cpn.strapDone = s.cpn.strapDone) :
    JoinedSafe t :=
  h.stands hd hl (.of_same e.1 e.2.1 e.2.2)

theorem moved (h : JoinedSafe s) (hd : DriveSafe t) (hl : LineSilent t) (m : SeqMoved s t)
    (e : t.lnc.line = s.lnc.line ∧ t.cpn.strapDone = s.cpn.strapDone) : JoinedSafe t :=
  h.stands hd hl (.of_moved m e.1 e.2)

end JoinedSafe

/-- A station with authority has joined. -/
theorem State.joined_of_auth {s : State} (h : s.auth = true) : s.rsq.state ≠ .unjoined := by
  intro hs
  rw [State.auth_of_state hs] at h
  exact nomatch h

/-- A tenure stands only after a join. -/
theorem DriveMin.joined_of_tenure {s : State} (h : DriveMin s) (ht : s.ssu.tenure = true) :
    s.rsq.state ≠ .unjoined := by
  rcases (h.tenure ht).1 with hs | hs <;> simp [hs]

theorem tenureTimeout_sameJoin {s : State} (h : DriveMin s) (ht : s.ssu.tenure = true) :
    SameJoin s (tenureTimeout s) := by
  unfold tenureTimeout
  split
  · exact .of_same (by simp) (by simp) (by simp)
  · split
    · exact .of_moved ((SeqMoved.startTimeout 1 s).trans (.actOnRequest _)) (by simp [startTimeout])
        (by simp [startTimeout])
    · exact .of_joined (h.joined_of_tenure ht) (by simp) (by simp [startTimeout]) (by simp [startTimeout])

theorem changeLine_sameJoin {s : State} {q : LineState} (hs : s.lnc.line ≠ .off) (hq : q ≠ .off) :
    SameJoin s (changeLine q s) :=
  ⟨(SeqMoved.changeLine q s).unjoined, iff_of_false (by simpa using hq) hs, by simp⟩

theorem completePoint_joined {s : State} (hs : s.rsq.state = .ramping) :
    (completePoint s).rsq.state ≠ .unjoined := by
  unfold completePoint
  dsimp only
  split <;> split <;> simp [hs]

/-- JOIN puts the line in LISTEN and leaves what stands queued. -/
theorem joinLine_lnc (s : State) : (joinLine s).lnc = { s.atJoin.lnc with line := .listen } := by
  have hlisten := changeLine_listen (s := s.atJoin) (by simp [State.atJoin])
  unfold joinLine
  rw [hlisten]
  simp

theorem takeBegin_sameJoin (e : Nat) (s : State) : SameJoin s (takeBegin e s) := by
  unfold takeBegin
  split
  · have hstop := SameJoin.stop .tundish (some e)
      { s with dbu := { s.dbu with epoch := e, phase := .opened, learned := true, mismatch := false } }
    exact ⟨hstop.unjoined, by simp, by simp⟩
  · exact .of_same rfl rfl rfl

theorem enterBarred_sameJoin {s : State} (k : FrameKind) (hb : s.lnc.line.canBar = true) :
    SameJoin s (enterBarred k s) := by
  have hline : s.lnc.line ≠ .off := fun ho => by
    rw [ho] at hb
    exact nomatch hb
  exact (SameJoin.of_same (by simp) (by simp) (by simp)).trans
    (changeLine_sameJoin (by simpa using hline) (by decide))

/-- No edge joins or leaves (R158). -/
theorem giveEdge_sameJoin (i : Input) (rises : Bool) (s : State) : SameJoin s (giveEdge i rises s) := by
  have hpre : SameJoin s (evalPreconditions s) :=
    .of_moved (.evalPreconditions s) (by simp) (by simp)
  have hstay : SameJoin s s := .of_same rfl rfl rfl
  unfold giveEdge
  split
  · split
    · exact hpre
    · exact .stop ..
  · split
    · have hdrive : SameJoin s (driveTest s) := .of_moved (.driveTest s) (by simp) (by simp)
      unfold drvReadyRise
      dsimp only
      split
      · exact hdrive.trans (.of_same (by simp) (by simp) (by simp))
      · exact hdrive
    · split
      · exact .stop ..
      · exact hstay
  · split
    · exact .stop ..
    · exact hstay
  · exact hpre

theorem sampleInput_sameJoin (i : Input) (raw : Bool) (s : State) : SameJoin s (sampleInput i raw s) := by
  by_cases ha : Accepts s i raw
  · rw [sampleInput_accepts ha]
    have hedge : SameJoin s (giveEdge i raw (s.withInput i raw)) :=
      (SameJoin.of_same (s := s) (t := s.withInput i raw) rfl rfl rfl).trans (giveEdge_sameJoin i raw _)
    exact hedge.trans (.of_same (by rw [stampFault_does]) (by rw [stampFault_does])
      (by rw [stampFault_does]))
  · rw [sampleInput_counts ha]
    exact .of_same rfl rfl rfl

/-- Nothing leaves UNJOINED before the straps are latched (R178). -/
theorem sampleStraps_joinedSafe {s : State} (pins : StrapPins) (h : JoinedSafe s) :
    JoinedSafe (sampleStraps pins s) := by
  refine ⟨?_, ?_, ?_, fun hu => ?_⟩
  · rw [sampleStraps_does]
    exact h.toDriveSafe.of_blocks rfl ⟨rfl, rfl⟩ rfl rfl
  · rw [sampleStraps_does]
    exact h.silent
  · rw [sampleStraps_does]
    exact h.joined
  · rw [sampleStraps_does] at hu ⊢
    simp [h.straps hu]

/-- JOIN finds the straps latched and nothing to send. -/
theorem joinLine_joinedSafe {s : State} (h : JoinedSafe s) (hd : DriveSafe (joinLine s))
    (hs : s.rsq.state = .unjoined) (hf : s.joinFailure = none) : JoinedSafe (joinLine s) := by
  obtain ⟨hq, hb, ht⟩ := h.silent (by simp [h.joined.mp hs, LineState.allowsBeacon])
  refine ⟨hd, fun _ => ?_, ?_, fun _ => ?_⟩
  · rw [joinLine_lnc]
    exact ⟨hq, hb, ht⟩
  · rw [LineJoined, joinLine_rsq, joinLine_lnc]
    simp
  · have hvalid : s.strapsValid = true := by
      by_contra hv
      rw [State.joinFailure, if_pos (by simpa using hv)] at hf
      exact nomatch hf
    have hdone : s.cpn.strapDone = true := by
      simp only [State.strapsValid, Bool.and_eq_true] at hvalid
      exact hvalid.1.1
    have hcpn : (joinLine s).cpn.strapDone = s.cpn.strapDone := by
      simp [joinLine, State.atJoin]
    exact hcpn.trans hdone

theorem advance_joinedSafe {s : State} (h : JoinedSafe s) (hd : DriveSafe (advance s)) :
    JoinedSafe (advance s) := by
  refine h.stands hd (lineSilent_traced.time h.silent) ?_
  unfold advance nextMs lineBit
  dsimp only
  split
  · exact .of_same rfl rfl rfl
  · split <;> exact .of_same (by simp) (by simp) (by simp)

/-- Every step keeps a joined station on its line and an unjoined one off it. -/
theorem joinedSafe_kept : KeptBySteps JoinedSafe :=
  have K := driveSafe_kept
  have T := lineSilent_traced.kept
  { aside := fun h a => h.same (K.aside h.1 a) (T.aside h.2 a) ⟨a.seq.1, a.lnc.1, a.port.2.2.2.2⟩
    stamp := fun hs h => h.same (K.stamp hs.1 h.1) (T.stamp hs.2 h.2) (by rw [stampFault_does]; simp)
    capture := fun k d h => h.same (K.capture k d h.1) (T.capture k d h.2) (by simp)
    beacon := fun h => h.same (K.beacon h.1) (T.beacon h.2) (by simp)
    frame := fun f h hl => h.same (K.frame f h.1 hl) (T.frame f h.2 hl) (by simp)
    removed := fun g h hg => h.same (K.removed g h.1 hg) (T.removed g h.2 hg) (by simp [removeClaims])
    entered := fun e h h1 h2 h3 =>
      h.same (K.entered e h.1 h1 h2 h3) (T.entered e h.2 h1 h2 h3) (by simp [enterClaim])
    drawView := fun h => h.same (K.drawView h.1) (T.drawView h.2) (by simp)
    holder := fun v h => h.same (K.holder v h.1) (T.holder v h.2) (by simp)
    retest := fun h => h.same (K.retest h.1) (T.retest h.2) (by simp)
    waits := fun h hc => h.same (K.waits h.1 hc) (T.waits h.2 hc) (by simp [startWaits])
    tenureEnd := fun r h => h.same (K.tenureEnd r h.1) (T.tenureEnd r h.2) (by simp)
    urgency := fun h => h.same (K.urgency h.1) (T.urgency h.2) (by simp)
    creep := fun h => h.same (K.creep h.1) (T.creep h.2) (by simp)
    need := fun n h hs ho => h.same (K.need n h.1 hs ho) (T.need n h.2 hs ho) (by simp)
    dropNeed := fun h => h.same (K.dropNeed h.1) (T.dropNeed h.2) (by simp)
    firstPoint := fun h => h.moved (K.firstPoint h.1) (T.firstPoint h.2) (.firstPointTest _) (by simp)
    request := fun h => h.moved (K.request h.1) (T.request h.2) (.actOnRequest _) (by simp)
    slot := fun n h hc => h.moved (K.slot n h.1 hc) (T.slot n h.2 hc) (.takeSlot n _) (by simp)
    settled := fun h hc => h.same (K.settled h.1 hc) (T.settled h.2 hc) (by simp [settleDraw])
    drawSent := fun n h => h.same (K.drawSent n h.1) (T.drawSent n h.2)
      (by unfold drawSent; split <;> simp)
    startSent := fun n h => h.same (K.startSent n h.1) (T.startSent n h.2)
      (by unfold startSent; split <;> simp)
    timeout := fun h ht =>
      h.stands (K.timeout h.1 ht) (T.timeout h.2 ht) (tenureTimeout_sameJoin h.toDriveMin ht)
    stop := fun c e h => h.stands (K.stop c e h.1) (T.stop c e h.2) (.stop c e _)
    begins := fun e h => h.stands (K.begins e h.1) (T.begins e h.2) (takeBegin_sameJoin e _)
    ready := fun e l h => h.moved (K.ready e l h.1) (T.ready e l h.2) (.takeReady e l _) (by simp)
    adopt := fun b h => h.moved (K.adopt b h.1) (T.adopt b h.2) (.adoptEpoch b _) (by simp)
    latch := fun h hr => h.moved (K.latch h.1 hr) (T.latch h.2 hr)
      ((SeqMoved.latch _).trans (.evalPreconditions _)) (by simp)
    cast := fun h hs => h.stands (K.cast h.1 hs) (T.cast h.2 hs)
      (.of_joined (by simp [hs]) (by simp [moveIdle]) (by simp [moveIdle]) (by simp [moveIdle]))
    park := fun h hs => h.stands (K.park h.1 hs) (T.park h.2 hs)
      (.of_joined (by simp [hs]) (by simp [moveIdle]) (by simp [moveIdle]) (by simp [moveIdle]))
    giveUp := fun q h ha hq => h.stands (K.giveUp q h.1 ha hq) (T.giveUp q h.2 ha hq)
      (.of_joined (State.joined_of_auth ha) (by rcases hq with rfl | rfl <;> simp) (by simp) (by simp))
    giveUpAll := fun q o h ha hq => h.stands (K.giveUpAll q o h.1 ha hq) (T.giveUpAll q o h.2 ha hq)
      (.of_joined (State.joined_of_auth ha) (by rcases hq with rfl | rfl <;> simp) (by simp) (by simp))
    abandon := fun h ha => h.stands (K.abandon h.1 ha) (T.abandon h.2 ha)
      (.of_joined (State.joined_of_auth ha) (by simp) (by simp) (by simp))
    point := fun h hs => h.stands (K.point h.1 hs) (T.point h.2 hs)
      (.of_joined (by simp [hs]) (completePoint_joined hs) (by simp) (by simp))
    line := fun q h hl hq => h.stands (K.line q h.1 hl hq) (T.line q h.2 hl hq)
      (changeLine_sameJoin hl (by rcases hq with rfl | rfl <;> decide))
    bar := fun k h hb => h.stands (K.bar k h.1 hb) (T.bar k h.2 hb) (enterBarred_sameJoin k hb)
    start := fun d h hs => h.same (K.start d h.1 hs) (T.start d h.2 hs) (by cases d <;> simp [startFrame])
    abort := fun t h ht => h.same (K.abort t h.1 ht) (T.abort t h.2 ht)
      (by unfold abortFrame; split <;> simp)
    ended := fun h => h.same (K.ended h.1) (T.ended h.2) (by simp)
    input := fun i raw h => h.stands (K.input i raw h.1) (T.input i raw h.2)
      (sampleInput_sameJoin i raw _)
    store := fun p f l h hs => h.same (K.store p f l h.1 hs) (T.store p f l h.2 hs) (by simp)
    straps := fun pins h _ => sampleStraps_joinedSafe pins h
    join := fun h hs hf => joinLine_joinedSafe h (K.join h.1 hs hf) hs hf
    read := fun h => h.same (K.read h.1) h.2 (by simp)
    cleared := fun h => h.same (K.cleared h.1) h.2 (by simp)
    reset := fun raw cpn p => ⟨K.reset raw cpn p, fun _ => ⟨rfl, rfl, rfl⟩, iff_of_true rfl rfl,
      fun h => absurd rfl h⟩
    time := fun h hd hr => advance_joinedSafe h (K.time h.1 hd hr) }

end Sys2Proof.Machine
end

section
/-! SUPPORT. The own claims and their entries in the claim list (R91 to R99, R105 to R112, R127): `OwnCore`
says that entries, needs and settle timers match the claims, `OwnSafe` adds where claims may stand. Every
operation of `Kept` keeps them. -/

namespace Sys2Proof.Machine

/-! ### The own entries of a kind -/

/-- The own entries of a kind in a peer view. -/
def Pvu.own (p : Pvu) (k : ClaimKind) : List ClaimEntry :=
  p.claims.filter fun e => e.isOwn && decide (e.kind = k)

theorem State.ownEntries_eq (s : State) (k : ClaimKind) : s.ownEntries k = s.pvu.own k := rfl

namespace Pvu

variable {p : Pvu} {k l : ClaimKind}

theorem placeOwn_own_ne (h : l ≠ k) (n m a : Nat) : (p.placeOwn n k m a).own l = p.own l := by
  simp only [own, placeOwn, List.filter_append, List.filter_filter]
  have hnew : [(⟨n, k, m, a, .own .sent⟩ : ClaimEntry)].filter
      (fun e => e.isOwn && decide (e.kind = l)) = [] := by simp [Ne.symm h]
  rw [hnew, List.append_nil]
  refine List.filter_congr fun e _ => ?_
  by_cases he : e.kind = l
  · simp [he, h]
  · simp [he]

theorem placeOwn_own_same (h : p.own k = []) (n m a : Nat) :
    (p.placeOwn n k m a).own k = [⟨n, k, m, a, .own .sent⟩] := by
  simp only [own, placeOwn, List.filter_append, List.filter_filter] at h ⊢
  have hold : p.claims.filter (fun e => (e.isOwn && decide (e.kind = k))
      && !decide (e.station = n ∧ e.kind = k)) = [] := by
    rw [List.filter_eq_nil_iff] at h ⊢
    intro e he hb
    exact h e he (Bool.and_eq_true _ _ |>.mp hb).1
  rw [hold]
  simp [ClaimEntry.isOwn]

theorem isOwn_own (n : Nat) (k : ClaimKind) (m a : Nat) (st : OwnStatus) :
    (⟨n, k, m, a, .own st⟩ : ClaimEntry).isOwn = true := rfl

theorem setOwnStatus_own_ne (h : l ≠ k) (st : OwnStatus) :
    (p.setOwnStatus k st).own l = p.own l := by
  simp only [own, setOwnStatus]
  induction p.claims with
  | nil => rfl
  | cons e es ih =>
    by_cases he : e.isOwn = true ∧ e.kind = k
    · rw [List.map_cons, if_pos (by simp [he]), List.filter_cons, List.filter_cons, ih]
      simp [he.2, Ne.symm h]
    · rw [List.map_cons, if_neg (by simpa using he), List.filter_cons, List.filter_cons, ih]

theorem setOwnStatus_own_same (st : OwnStatus) :
    (p.setOwnStatus k st).own k = (p.own k).map fun e => { e with origin := .own st } := by
  simp only [own, setOwnStatus]
  induction p.claims with
  | nil => rfl
  | cons e es ih =>
    by_cases he : e.isOwn = true ∧ e.kind = k
    · rw [List.map_cons, if_pos (by simp [he]), List.filter_cons, List.filter_cons, ih]
      simp [he.1, he.2, isOwn_own]
    · rw [List.map_cons, if_neg (by simpa using he), List.filter_cons, List.filter_cons,
        if_neg (by simpa using he), if_neg (by simpa using he), ih]

theorem removeOwn_own_ne (h : l ≠ k) : (p.removeOwn k).own l = p.own l := by
  simp only [own, removeOwn, List.filter_filter]
  refine List.filter_congr fun e _ => ?_
  by_cases he : e.kind = l
  · simp [he, h]
  · simp [he]

theorem removeOwn_own_same : (p.removeOwn k).own k = [] := by
  simp [own, removeOwn, List.filter_eq_nil_iff]

end Pvu

/-! ### The laws of the own claims -/

/-- The status that the entry of an own DRAW claim shows, where the claim is listed (R92, R93). -/
def DrawStatus.listed : DrawStatus → Option OwnStatus
  | .sent => some .sent
  | .contending => some .contending
  | .none | .waiting | .holdoff => Option.none

/-- The status that the entry of an own START claim shows (R106 to R108). -/
def StartStatus.listed : StartStatus → Option OwnStatus
  | .sent => some .sent
  | .contending => some .contending
  | .waiting => some .waiting
  | .none => Option.none

/-- The own DRAW claim may stand (R91). -/
abbrev MayClaim (q : SeqState) : Prop := q = .queued ∨ q = .ramping

/-- Entry, need and settle timer match the own DRAW claim. -/
structure DrawCore (s : State) : Prop where
  entry : s.pvu.own .draw = (s.dbu.claim.listed.map s.drawEntry).toList
  need : s.dbu.need.isSome = true ↔ s.dbu.claim ≠ .none
  settle : s.dbu.settleAt.isSome = true ↔ s.dbu.claim = .contending

/-- The own DRAW claim matches, and stands where it may. -/
structure DrawSafe (s : State) : Prop extends DrawCore s where
  placed : s.dbu.claim ≠ .none → MayClaim s.rsq.state
  line : s.lnc.line ≠ .active → s.dbu.claim.outstanding = false

/-- Entry and settle timer match the own START claim. -/
structure StartCore (s : State) : Prop where
  entry : s.pvu.own .start = (s.ssu.claim.listed.map s.startEntry).toList
  settle : s.ssu.settleAt.isSome = true ↔ s.ssu.claim = .contending

/-- The own START claim matches, and stands on an ACTIVE line. -/
structure StartSafe (s : State) : Prop extends StartCore s where
  line : s.lnc.line ≠ .active → s.ssu.claim = .none

/-- What the law of the own DRAW claim reads is as before. -/
structure SameDraw (s t : State) : Prop where
  own : t.pvu.own .draw = s.pvu.own .draw
  straps : t.cpn.straps = s.cpn.straps
  claim : t.dbu.claim = s.dbu.claim ∧ t.dbu.claimNumber = s.dbu.claimNumber
    ∧ t.dbu.amount = s.dbu.amount ∧ t.dbu.need = s.dbu.need ∧ t.dbu.settleAt = s.dbu.settleAt

/-- What the law of the own START claim reads is as before. -/
structure SameStart (s t : State) : Prop where
  own : t.pvu.own .start = s.pvu.own .start
  straps : t.cpn.straps = s.cpn.straps
  claim : t.ssu.claim = s.ssu.claim ∧ t.ssu.claimNumber = s.ssu.claimNumber
    ∧ t.ssu.settleAt = s.ssu.settleAt

variable {s t : State}

theorem DrawCore.of_same (h : DrawCore s) (e : SameDraw s t) : DrawCore t := by
  obtain ⟨hown, hstraps, hclaim, hnumber, hamount, hneed, hsettle⟩ := e
  have hentry : t.drawEntry = s.drawEntry := by
    funext st
    simp [State.drawEntry, State.ownStation, hstraps, hnumber, hamount]
  obtain ⟨he, hn, hs⟩ := h
  exact ⟨by rw [hown, hclaim, hentry, he], by rw [hneed, hclaim, hn], by rw [hsettle, hclaim, hs]⟩

theorem DrawSafe.of_same (h : DrawSafe s) (e : SameDraw s t)
    (hs : t.rsq.state = s.rsq.state) (hl : t.lnc.line = s.lnc.line) : DrawSafe t where
  toDrawCore := h.toDrawCore.of_same e
  placed hc := hs ▸ h.placed (e.claim.1 ▸ hc)
  line hn := by
    rw [e.claim.1]
    exact h.line (hl ▸ hn)

theorem StartCore.of_same (h : StartCore s) (e : SameStart s t) : StartCore t := by
  obtain ⟨hown, hstraps, hclaim, hnumber, hsettle⟩ := e
  have hentry : t.startEntry = s.startEntry := by
    funext st
    simp [State.startEntry, State.ownStation, hstraps, hnumber]
  obtain ⟨he, hs⟩ := h
  exact ⟨by rw [hown, hclaim, hentry, he], by rw [hsettle, hclaim, hs]⟩

theorem StartSafe.of_same (h : StartSafe s) (e : SameStart s t) (hl : t.lnc.line = s.lnc.line) :
    StartSafe t where
  toStartCore := h.toStartCore.of_same e
  line hn := by
    rw [e.claim.1]
    exact h.line (hl ▸ hn)

/-- No own DRAW claim stands. -/
structure NoDraw (s : State) : Prop where
  own : s.pvu.own .draw = []
  claim : s.dbu.claim = .none
  need : s.dbu.need = none
  settle : s.dbu.settleAt = none

theorem NoDraw.safe (h : NoDraw s) : DrawSafe s := by
  obtain ⟨hown, hclaim, hneed, hsettle⟩ := h
  constructor
  · constructor <;> simp [hown, hclaim, hneed, hsettle, DrawStatus.listed]
  · simp [hclaim]
  · simp [hclaim, DrawStatus.outstanding]

theorem DrawCore.noDraw (h : DrawCore s) (hc : s.dbu.claim = .none) : NoDraw s := by
  obtain ⟨he, hn, hs⟩ := h
  rw [hc] at he hn hs
  exact ⟨he, hc, by simpa using hn, by simpa using hs⟩

theorem NoDraw.of_same (h : NoDraw s) (e : SameDraw s t) : NoDraw t := by
  obtain ⟨hown, -, hclaim, -, -, hneed, hsettle⟩ := e
  exact ⟨hown.trans h.own, hclaim.trans h.claim, hneed.trans h.need, hsettle.trans h.settle⟩

/-- No own START claim stands. -/
structure NoStart (s : State) : Prop where
  own : s.pvu.own .start = []
  claim : s.ssu.claim = .none
  settle : s.ssu.settleAt = none

theorem NoStart.safe (h : NoStart s) : StartSafe s := by
  obtain ⟨hown, hclaim, hsettle⟩ := h
  constructor
  · constructor <;> simp [hown, hclaim, hsettle, StartStatus.listed]
  · simp [hclaim]

theorem StartCore.noStart (h : StartCore s) (hc : s.ssu.claim = .none) : NoStart s := by
  obtain ⟨he, hs⟩ := h
  rw [hc] at he hs
  exact ⟨he, hc, by simpa using hs⟩

theorem NoStart.of_same (h : NoStart s) (e : SameStart s t) : NoStart t := by
  obtain ⟨hown, -, hclaim, -, hsettle⟩ := e
  exact ⟨hown.trans h.own, hclaim.trans h.claim, hsettle.trans h.settle⟩

/-! ### Operations of the draw unit -/

/-- A claim that waits holds its need and nothing else. -/
theorem drawSafe_waiting {q : DrawStatus} (hq : t.dbu.claim = q) (hw : q = .waiting ∨ q = .holdoff)
    (hown : t.pvu.own .draw = []) (hneed : t.dbu.need.isSome = true) (hsettle : t.dbu.settleAt = none)
    (hplaced : MayClaim t.rsq.state) : DrawSafe t := by
  rcases hw with rfl | rfl
  all_goals
    constructor
    · constructor <;> simp [hown, hq, hneed, hsettle, DrawStatus.listed]
    · exact fun _ => hplaced
    · simp [hq, DrawStatus.outstanding]

/-- A claim formed on an ACTIVE line is listed with its number and amount (R92). -/
theorem formDraw_drawSafe (hneed : s.dbu.need.isSome = true) (hown : s.pvu.own .draw = [])
    (hsettle : s.dbu.settleAt = none) (hplaced : MayClaim s.rsq.state) (hline : s.lnc.line = .active) :
    DrawSafe (formDraw s) := by
  unfold formDraw
  split
  · next hnone => simp [hnone] at hneed
  · dsimp only
    split
    · exact drawSafe_waiting rfl (.inl rfl) hown hneed hsettle hplaced
    · constructor
      · constructor
        · exact Pvu.placeOwn_own_same hown ..
        · simpa using hneed
        · simp
      · exact fun _ => hplaced
      · exact fun hn => absurd (by simpa using hline) hn

/-- The entry of a claim that is not outstanding is not in the list. -/
theorem DrawCore.unlisted (h : DrawCore s) (ho : s.dbu.claim.outstanding = false) :
    s.pvu.own .draw = [] ∧ s.dbu.settleAt = none := by
  obtain ⟨he, -, hs⟩ := h
  cases hc : s.dbu.claim with
  | none | waiting | holdoff =>
    rw [hc] at he hs
    exact ⟨he, by simpa using hs⟩
  | sent | contending =>
    rw [hc] at ho
    exact nomatch ho

theorem soloRaise_noDraw {n : Nat} (hown : s.pvu.own .draw = []) (hsettle : s.dbu.settleAt = none) :
    NoDraw (soloRaise n s) := by
  unfold soloRaise
  dsimp only
  split
  · exact ⟨by simpa using hown, by simp, by simp, by simpa using hsettle⟩
  · exact ⟨hown, rfl, rfl, hsettle⟩

theorem giveNeed_drawSafe (n : Nat) (h : DrawSafe s) (ho : s.dbu.claim.outstanding = false)
    (hplaced : MayClaim s.rsq.state) : DrawSafe (giveNeed n s) := by
  obtain ⟨hown, hsettle⟩ := h.toDrawCore.unlisted ho
  unfold giveNeed
  split
  · next hline =>
    split
    · exact formDraw_drawSafe rfl hown hsettle hplaced hline
    · exact formDraw_drawSafe rfl hown hsettle hplaced hline
    · next hc => exact drawSafe_waiting hc (.inr rfl) hown rfl hsettle hplaced
    all_goals exact h
  · exact drawSafe_waiting rfl (.inl rfl) hown rfl hsettle hplaced
  · exact (soloRaise_noDraw hown hsettle).safe
  · exact (soloRaise_noDraw hown hsettle).safe
  · exact h

theorem drawViewChange_drawSafe (h : DrawSafe s) : DrawSafe (drawViewChange s) := by
  obtain ⟨he, hn, hs⟩ := h.toDrawCore
  unfold drawViewChange
  split
  · next hc =>
    rw [hc] at he hn hs
    split
    · next hline =>
      exact formDraw_drawSafe (by simp [hn]) he (by simpa using hs) (h.placed (by simp [hc])) hline
    · exact h
  · next hc =>
    rw [hc] at hn
    split
    · unfold drawGiveWay
      exact drawSafe_waiting (q := .holdoff) (by simp) (.inr rfl)
        (by simp [Pvu.removeOwn_own_same]) (by simp [hn]) (by simp)
        (by simpa using h.placed (by simp [hc]))
    · exact h
  · next hc =>
    rw [hc] at he hn hs
    split
    · next hline =>
      exact formDraw_drawSafe (by simpa using hn) he (by simpa using hs) (h.placed (by simp [hc])) hline
    · exact h
  all_goals exact h

theorem drawWithdraw_noDraw (h : DrawCore s) : NoDraw (drawWithdraw s) := by
  obtain ⟨he, hn, hs⟩ := h
  unfold drawWithdraw
  split
  · next hc => exact DrawCore.noDraw ⟨he, hn, hs⟩ hc
  iterate 2
    next hc =>
      rw [hc] at he hs
      exact ⟨he, rfl, rfl, by simpa using hs⟩
  all_goals exact ⟨Pvu.removeOwn_own_same, rfl, rfl, rfl⟩

theorem countWithdrawn_sameDraw (s : State) : SameDraw s (countWithdrawn s) := by
  unfold countWithdrawn
  split <;> exact ⟨rfl, rfl, rfl, rfl, rfl, rfl, rfl⟩

/-- A line that goes DEAF or BARRED ends the own DRAW claim with its need (R98). -/
theorem drawLineLost_noDraw (h : DrawCore s) : NoDraw (drawLineLost s) := by
  have hlist : ∀ u : State, (u = if s.dbu.claim.outstanding then
        countWithdrawn
          { s with
            dbu := { s.dbu with settleAt := none }
            pvu := s.pvu.removeOwn .draw
            lnc := s.lnc.queueFrame (.withdraw .draw s.dbu.claimNumber) }
      else s) → u.pvu.own .draw = [] ∧ u.dbu.need = s.dbu.need ∧ u.dbu.settleAt = none := by
    rintro u rfl
    split
    · obtain ⟨hown, -, -, -, -, hneed, hsettle⟩ := countWithdrawn_sameDraw
        { s with
          dbu := { s.dbu with settleAt := none }
          pvu := s.pvu.removeOwn .draw
          lnc := s.lnc.queueFrame (.withdraw .draw s.dbu.claimNumber) }
      exact ⟨hown.trans Pvu.removeOwn_own_same, hneed, hsettle⟩
    · next ho =>
      obtain ⟨hown, hsettle⟩ := h.unlisted (by simpa using ho)
      exact ⟨hown, rfl, hsettle⟩
  obtain ⟨hown, hneed, hsettle⟩ := hlist _ rfl
  unfold drawLineLost
  dsimp only
  split
  · exact soloRaise_noDraw hown hsettle
  · next hnone => exact ⟨hown, rfl, hneed.trans hnone, hsettle⟩

theorem dropHeldNeed_drawSafe (h : DrawSafe s) : DrawSafe (dropHeldNeed s) := by
  obtain ⟨he, -, hs⟩ := h.toDrawCore
  unfold dropHeldNeed
  split
  iterate 2
    next hc =>
      rw [hc] at he hs
      exact NoDraw.safe ⟨he, rfl, rfl, by simpa using hs⟩
  all_goals exact h

/-- A claim whose entry stands is listed with another status (R93, R96). -/
theorem drawSafe_listed {st : OwnStatus} (h : DrawSafe s) (ho : s.dbu.claim.outstanding = true)
    (hown : t.pvu.own .draw = (s.pvu.own .draw).map fun e => { e with origin := .own st })
    (hd : t.dbu.claim.listed = some st ∧ t.dbu.claim.outstanding = true)
    (hsettle : t.dbu.settleAt.isSome = true ↔ t.dbu.claim = .contending)
    (hdbu : t.dbu.claimNumber = s.dbu.claimNumber ∧ t.dbu.amount = s.dbu.amount
      ∧ t.dbu.need = s.dbu.need)
    (hrest : t.rsq.state = s.rsq.state ∧ t.lnc.line = s.lnc.line ∧ t.cpn.straps = s.cpn.straps) :
    DrawSafe t := by
  obtain ⟨hlisted, hto⟩ := hd
  obtain ⟨hnumber, hamount, hneed⟩ := hdbu
  obtain ⟨hstate, hline, hstraps⟩ := hrest
  have hsome : ∀ q : DrawStatus, q.outstanding = true → q ≠ .none := by
    rintro q hq rfl
    exact nomatch hq
  constructor
  · refine ⟨?_, ?_, hsettle⟩
    · rw [hown, hlisted, h.entry]
      cases hc : s.dbu.claim with
      | none | waiting | holdoff =>
        rw [hc] at ho
        exact nomatch ho
      | sent | contending =>
        simp [DrawStatus.listed, State.drawEntry, State.ownStation, hnumber, hamount, hstraps]
    · rw [hneed, h.need]
      exact iff_of_true (hsome _ ho) (hsome _ hto)
  · intro _
    rw [hstate]
    exact h.placed (hsome _ ho)
  · intro hn
    have hfalse := h.line (hline ▸ hn)
    rw [ho] at hfalse
    exact nomatch hfalse

theorem resendDraw_drawSafe (h : DrawSafe s) : DrawSafe (resendDraw s) := by
  unfold resendDraw
  dsimp only
  split
  · split
    · exact h
    · exact h.of_same ⟨rfl, rfl, rfl, rfl, rfl, rfl, rfl⟩ rfl (by simp)
  · next hc =>
    exact drawSafe_listed h (by simp [hc, DrawStatus.outstanding]) (Pvu.setOwnStatus_own_same _)
      ⟨rfl, rfl⟩ (by simp) ⟨rfl, rfl, rfl⟩ (by simp)
  all_goals exact h

theorem drawSent_drawSafe (n : Nat) (h : DrawSafe s) : DrawSafe (drawSent n s) := by
  unfold drawSent
  split
  · next hc =>
    exact drawSafe_listed h (by simp [hc.1, DrawStatus.outstanding]) (Pvu.setOwnStatus_own_same _)
      ⟨rfl, rfl⟩ (by simp) ⟨rfl, rfl, rfl⟩ (by simp)
  · exact h

theorem settleDraw_noDraw (s : State) : NoDraw (settleDraw s) := by
  refine NoDraw.of_same (s := { s with
    dbu := { s.dbu with claim := .none, need := none, settleAt := none, lastSettled := s.dbu.claimNumber }
    pvu := s.pvu.removeOwn .draw }) ⟨Pvu.removeOwn_own_same, rfl, rfl, rfl⟩ ?_
  constructor <;> simp [settleDraw]

/-! ### Operations of the start slot unit -/

/-- A claim whose entry stands is listed with another status (R107 to R110). -/
theorem startSafe_listed {st : OwnStatus} (h : StartSafe s) (hc : s.ssu.claim ≠ .none)
    (hown : t.pvu.own .start = (s.pvu.own .start).map fun e => { e with origin := .own st })
    (hlisted : t.ssu.claim.listed = some st)
    (hsettle : t.ssu.settleAt.isSome = true ↔ t.ssu.claim = .contending)
    (hrest : t.ssu.claimNumber = s.ssu.claimNumber ∧ t.lnc.line = s.lnc.line
      ∧ t.cpn.straps = s.cpn.straps) : StartSafe t := by
  obtain ⟨hnumber, hline, hstraps⟩ := hrest
  constructor
  · refine ⟨?_, hsettle⟩
    rw [hown, hlisted, h.entry]
    cases hq : s.ssu.claim with
    | none => exact absurd hq hc
    | sent | contending | waiting =>
      simp [StartStatus.listed, State.startEntry, State.ownStation, hnumber, hstraps]
  · exact fun hn => absurd (h.line (hline ▸ hn)) hc

theorem repeatStart_startSafe (h : StartSafe s) (hc : s.ssu.claim ≠ .none) :
    StartSafe (repeatStart s) :=
  startSafe_listed h hc (Pvu.setOwnStatus_own_same _) rfl (by simp [repeatStart]) (by simp [repeatStart])

theorem resendStart_startSafe (h : StartSafe s) : StartSafe (resendStart s) := by
  unfold resendStart
  split
  · next hc =>
    split
    · exact h
    · exact repeatStart_startSafe h (by simp [hc])
  · next hc => exact repeatStart_startSafe h (by simp [hc])
  · next hc => exact repeatStart_startSafe h (by simp [hc])
  · exact h

theorem retestStart_startSafe (h : StartSafe s) : StartSafe (retestStart s) := by
  unfold retestStart
  split
  · next hc => exact repeatStart_startSafe h (by simp [hc.1])
  · exact h

theorem clearTest_startSafe (h : StartSafe s) : StartSafe (clearTest s) := by
  unfold clearTest
  split
  · split
    · exact h.of_same ⟨rfl, rfl, rfl, rfl, rfl⟩ (by simp)
    · exact h
  · exact h

theorem setHolder_startSafe (v : Option Nat) (h : StartSafe s) : StartSafe (setHolder v s) := by
  unfold setHolder
  split
  · exact h
  · exact clearTest_startSafe (retestStart_startSafe
      (h.of_same ⟨rfl, rfl, rfl, rfl, rfl⟩ (by simp)))

theorem withdrawStart_noStart (s : State) : NoStart (withdrawStart s) := by
  rw [withdrawStart_ends]
  exact ⟨Pvu.removeOwn_own_same, rfl, rfl⟩

theorem endTenure_startSafe (r : ReleaseReason) (h : StartSafe s) : StartSafe (endTenure r s) := by
  have h1 : StartSafe
      { s with
        ssu := { s.ssu with tenure := false, tenureAt := none, clearPending := false }
        lnc := s.lnc.queueFrame (.release r) } := h.of_same ⟨rfl, rfl, rfl, rfl, rfl⟩ (by simp)
  unfold endTenure
  split
  · dsimp only
    split
    · exact (setHolder_startSafe none h1).of_same ⟨rfl, rfl, rfl, rfl, rfl⟩ (by simp)
    · exact h1.of_same ⟨rfl, rfl, rfl, rfl, rfl⟩ (by simp)
  · exact h

theorem startWaits_startSafe (h : StartSafe s) (hc : s.ssu.claim = .contending) :
    StartSafe (startWaits s) :=
  clearTest_startSafe (startSafe_listed h (by simp [hc]) (Pvu.setOwnStatus_own_same _) rfl (by simp)
    ⟨rfl, rfl, rfl⟩)

theorem startSent_startSafe (n : Nat) (h : StartSafe s) : StartSafe (startSent n s) := by
  unfold startSent
  split
  · next hc =>
    exact startSafe_listed h (by simp [hc.1]) (Pvu.setOwnStatus_own_same _) rfl (by simp) ⟨rfl, rfl, rfl⟩
  · exact h

theorem slotTaken_noStart (n : Nat) (s : State) : NoStart (slotTaken n s) :=
  ⟨Pvu.removeOwn_own_same, rfl, rfl⟩

theorem formStart_startSafe (h : StartSafe s) (hc : s.ssu.claim = .none) (hl : s.lnc.line = .active) :
    StartSafe (formStart s) := by
  have hown := (h.toStartCore.noStart hc).own
  constructor
  · constructor
    · exact Pvu.placeOwn_own_same hown ..
    · simp [formStart]
  · exact fun hn => absurd (by simpa using hl) hn

end Sys2Proof.Machine
end

section
/-! SUPPORT. The claims of the station in place, kept by every shared operation: the operations of one claim
leave the other alone, and those of the sequencer end both or keep both. -/

namespace Sys2Proof.Machine

/-! ### One claim's operations leave the other claim alone -/

section
variable (s : State)

theorem repeatStart_sameDraw : SameDraw s (repeatStart s) :=
  ⟨Pvu.setOwnStatus_own_ne (by decide) _, rfl, rfl, rfl, rfl, rfl, rfl⟩

theorem resendStart_sameDraw : SameDraw s (resendStart s) := by
  have hstay : SameDraw s s := ⟨rfl, rfl, rfl, rfl, rfl, rfl, rfl⟩
  unfold resendStart
  split
  · split
    · exact hstay
    · exact repeatStart_sameDraw s
  · exact repeatStart_sameDraw s
  · exact repeatStart_sameDraw s
  · exact hstay

theorem retestStart_sameDraw : SameDraw s (retestStart s) := by
  unfold retestStart
  split
  · exact repeatStart_sameDraw s
  · exact ⟨rfl, rfl, rfl, rfl, rfl, rfl, rfl⟩

theorem clearTest_pvu : (clearTest s).pvu = s.pvu := by
  unfold clearTest
  split
  · split <;> rfl
  · rfl

theorem setHolder_sameDraw (v : Option Nat) : SameDraw s (setHolder v s) := by
  refine ⟨?_, by simp, by simp⟩
  unfold setHolder
  split
  · rfl
  · rw [clearTest_pvu]
    exact (retestStart_sameDraw _).own

theorem withdrawStart_sameDraw : SameDraw s (withdrawStart s) := by
  refine ⟨?_, by simp, by simp⟩
  rw [withdrawStart_ends]
  exact Pvu.removeOwn_own_ne (by decide)

theorem endTenure_sameDraw (r : ReleaseReason) : SameDraw s (endTenure r s) := by
  refine ⟨?_, by simp, by simp⟩
  unfold endTenure
  split
  · dsimp only
    split
    · exact (setHolder_sameDraw _ none).own
    · rfl
  · rfl

theorem startWaits_sameDraw : SameDraw s (startWaits s) := by
  refine ⟨?_, by simp [startWaits], by simp [startWaits]⟩
  rw [startWaits, clearTest_pvu]
  exact Pvu.setOwnStatus_own_ne (by decide) _

theorem startSent_sameDraw (n : Nat) : SameDraw s (startSent n s) := by
  unfold startSent
  split
  · exact ⟨Pvu.setOwnStatus_own_ne (by decide) _, rfl, rfl, rfl, rfl, rfl, rfl⟩
  · exact ⟨rfl, rfl, rfl, rfl, rfl, rfl, rfl⟩

theorem slotTaken_sameDraw (n : Nat) : SameDraw s (slotTaken n s) :=
  ⟨Pvu.removeOwn_own_ne (by decide), rfl, rfl, rfl, rfl, rfl, rfl⟩

theorem formStart_sameDraw : SameDraw s (formStart s) :=
  ⟨Pvu.placeOwn_own_ne (by decide) _ _ _, rfl, rfl, rfl, rfl, rfl, rfl⟩

theorem formDraw_ownStart : (formDraw s).pvu.own .start = s.pvu.own .start := by
  unfold formDraw
  split
  · rfl
  · dsimp only
    split
    · rfl
    · exact Pvu.placeOwn_own_ne (by decide) _ _ _

theorem giveNeed_sameStart (n : Nat) : SameStart s (giveNeed n s) := by
  refine ⟨?_, by simp, by simp⟩
  unfold giveNeed
  split
  · split
    · exact formDraw_ownStart _
    · exact formDraw_ownStart _
    all_goals rfl
  · rfl
  · simp
  · simp
  · rfl

theorem drawViewChange_sameStart : SameStart s (drawViewChange s) := by
  refine ⟨?_, by simp, by simp⟩
  unfold drawViewChange
  split
  · split
    · exact formDraw_ownStart _
    · rfl
  · split
    · unfold drawGiveWay countWithdrawn
      split <;> exact Pvu.removeOwn_own_ne (by decide)
    · rfl
  · split
    · exact formDraw_ownStart _
    · rfl
  all_goals rfl

theorem drawWithdraw_sameStart : SameStart s (drawWithdraw s) := by
  refine ⟨?_, by simp, by simp⟩
  unfold drawWithdraw
  split
  iterate 3 rfl
  all_goals exact Pvu.removeOwn_own_ne (by decide)

theorem drawLineLost_sameStart : SameStart s (drawLineLost s) := by
  have hlist : (if s.dbu.claim.outstanding then
        countWithdrawn
          { s with
            dbu := { s.dbu with settleAt := none }
            pvu := s.pvu.removeOwn .draw
            lnc := s.lnc.queueFrame (.withdraw .draw s.dbu.claimNumber) }
      else s).pvu.own .start = s.pvu.own .start := by
    split
    · rw [show ∀ u, (countWithdrawn u).pvu = u.pvu from fun u => by simp]
      exact Pvu.removeOwn_own_ne (by decide)
    · rfl
  refine ⟨?_, by simp, by simp⟩
  unfold drawLineLost
  dsimp only
  split
  · rw [show ∀ n u, (soloRaise n u).pvu = u.pvu from fun n u => by simp]
    exact hlist
  · exact hlist

theorem resendDraw_sameStart : SameStart s (resendDraw s) := by
  refine ⟨?_, by simp, by simp⟩
  unfold resendDraw
  dsimp only
  split
  · split <;> rfl
  · exact Pvu.setOwnStatus_own_ne (by decide) _
  all_goals rfl

theorem drawSent_sameStart (n : Nat) : SameStart s (drawSent n s) := by
  unfold drawSent
  split
  · exact ⟨Pvu.setOwnStatus_own_ne (by decide) _, rfl, rfl, rfl, rfl⟩
  · exact ⟨rfl, rfl, rfl, rfl, rfl⟩

theorem settleDraw_sameStart : SameStart s (settleDraw s) := by
  refine ⟨?_, by simp [settleDraw], by simp [settleDraw]⟩
  rw [settleDraw]
  simp [Pvu.removeOwn_own_ne (p := s.pvu) (show ClaimKind.start ≠ .draw by decide)]

end

/-! ### Both claims -/

/-- Both own claims match and stand where they may. -/
structure OwnSafe (s : State) : Prop where
  draw : DrawSafe s
  start : StartSafe s

namespace OwnSafe

variable {s t : State}

/-- What touches nothing that the laws of the own claims read. -/
theorem of_fields (h : OwnSafe s) (e : t.pvu.claims = s.pvu.claims ∧ t.cpn.straps = s.cpn.straps
    ∧ t.dbu.claim = s.dbu.claim ∧ t.dbu.claimNumber = s.dbu.claimNumber ∧ t.dbu.amount = s.dbu.amount
    ∧ t.dbu.need = s.dbu.need ∧ t.dbu.settleAt = s.dbu.settleAt ∧ t.ssu.claim = s.ssu.claim
    ∧ t.ssu.claimNumber = s.ssu.claimNumber ∧ t.ssu.settleAt = s.ssu.settleAt
    ∧ t.rsq.state = s.rsq.state ∧ t.lnc.line = s.lnc.line) : OwnSafe t := by
  obtain ⟨hclaims, hstraps, hc, hn, ha, hneed, hset, hsc, hsn, hss, hstate, hline⟩ := e
  have hown : ∀ k, t.pvu.own k = s.pvu.own k := fun k => by rw [Pvu.own, hclaims, Pvu.own]
  exact ⟨h.draw.of_same ⟨hown _, hstraps, hc, hn, ha, hneed, hset⟩ hstate hline,
    h.start.of_same ⟨hown _, hstraps, hsc, hsn, hss⟩ hline⟩

/-- No own claim stands. -/
theorem of_none (hd : NoDraw s) (hs : NoStart s) : OwnSafe s := ⟨hd.safe, hs.safe⟩

theorem urgency (h : OwnSafe s) : OwnSafe (refreshUrgency s) := by
  unfold refreshUrgency
  split
  · exact h
  · have h1 : OwnSafe (requestBeacon { s with rsq := { s.rsq with urgency := s.computeUrgency } }) :=
      h.of_fields (by simp)
    dsimp only
    split
    · have h2 : OwnSafe (resendDraw (requestBeacon { s with rsq := { s.rsq with urgency := s.computeUrgency } })) :=
        ⟨resendDraw_drawSafe h1.draw, h1.start.of_same (resendDraw_sameStart _) (by simp)⟩
      exact ⟨h2.draw.of_same (resendStart_sameDraw _) (by simp) (by simp),
        resendStart_startSafe h2.start⟩
    · exact h1

theorem creep (h : OwnSafe s) : OwnSafe (creepTest s) := by
  unfold creepTest
  split
  · exact urgency (h.of_fields (by simp))
  · exact h

/-- A move of the sequencer to where an own DRAW claim may stand. -/
theorem moved (h : OwnSafe s) (r : Rsq) (hr : MayClaim r.state) : OwnSafe { s with rsq := r } :=
  ⟨⟨h.draw.toDrawCore.of_same ⟨rfl, rfl, rfl, rfl, rfl, rfl, rfl⟩, fun _ => hr, h.draw.line⟩,
    h.start.of_same ⟨rfl, rfl, rfl, rfl, rfl⟩ rfl⟩

theorem enterRamping (h : OwnSafe s) : OwnSafe (enterRamping s) := by
  unfold Machine.enterRamping
  refine urgency (creep ?_)
  exact (h.moved (s.rsq.rampingFrom s.now s.pendingBase (s.pointAt s.rsq.pendingSet.profile 0).dwell)
    (.inr rfl)).of_fields (by simp)

theorem need (n : Nat) (h : OwnSafe s) (ho : s.dbu.claim.outstanding = false)
    (hs : MayClaim s.rsq.state) : OwnSafe (giveNeed n s) :=
  ⟨giveNeed_drawSafe n h.draw ho hs, h.start.of_same (giveNeed_sameStart s n) (by simp)⟩

theorem firstPoint (h : OwnSafe s) : OwnSafe (firstPointTest s) := by
  unfold firstPointTest
  split
  · next hq =>
    split
    · exact h.enterRamping
    · split
      · exact h
      · next ho =>
        have hneed := h.need (s.drawOf s.firstTarget - s.dbu.granted) (by simpa using ho) (.inl hq.1)
        dsimp only
        split
        · exact hneed.enterRamping
        · exact hneed
  · exact h

theorem noStart (h : OwnSafe s) (hs : NoStart t) (e : SameDraw s t) (hstate : t.rsq.state = s.rsq.state)
    (hline : t.lnc.line = s.lnc.line) : OwnSafe t :=
  ⟨h.draw.of_same e hstate hline, hs.safe⟩

theorem startGone (h : OwnSafe s) : OwnSafe (withdrawStart s) :=
  h.noStart (withdrawStart_noStart s) (withdrawStart_sameDraw s) (by simp) (by simp)

theorem drive (h : OwnSafe s) : OwnSafe (driveTest s) := by
  have h1 : OwnSafe { s with ssu := { s.ssu with request := false } } := h.of_fields (by simp)
  unfold driveTest
  split
  · exact h1.startGone.firstPoint
  · exact h

theorem slot (n : Nat) (h : OwnSafe s) : OwnSafe (takeSlot n s) := by
  have h1 : OwnSafe (slotTaken n s) :=
    h.noStart (slotTaken_noStart n s) (slotTaken_sameDraw s n) (by simp) (by simp)
  exact drive (h1.of_fields (by simp))

theorem request (h : OwnSafe s) : OwnSafe (actOnRequest s) := by
  unfold actOnRequest
  split
  · next hr =>
    split
    · next hl =>
      exact ⟨h.draw.of_same (formStart_sameDraw s) (by simp) (by simp),
        formStart_startSafe h.start hr.2.2 hl⟩
    · split
      · exact h.slot _
      · exact h
    · split
      · exact h.slot _
      · exact h
    all_goals exact h
  · exact h

theorem holder (v : Option Nat) (h : OwnSafe s) : OwnSafe (setHolder v s) :=
  ⟨h.draw.of_same (setHolder_sameDraw s v) (by simp) (by simp), setHolder_startSafe v h.start⟩

theorem tenureEnd (r : ReleaseReason) (h : OwnSafe s) : OwnSafe (endTenure r s) :=
  ⟨h.draw.of_same (endTenure_sameDraw s r) (by simp) (by simp), endTenure_startSafe r h.start⟩

end OwnSafe

/-! ### The ends of the own claims -/

/-- Whatever the sequencer's state and the line, the withdrawal leaves no own claim (R97, R111). -/
theorem withdrawClaims_noDraw {s : State} (h : DrawCore s) : NoDraw (withdrawClaims s) := by
  have h1 : NoDraw { drawWithdraw s with ssu := { (drawWithdraw s).ssu with request := false } } :=
    (drawWithdraw_noDraw h).of_same ⟨rfl, rfl, rfl, rfl, rfl, rfl, rfl⟩
  exact (h1.of_same (withdrawStart_sameDraw _)).of_same (endTenure_sameDraw _ .stopped)

theorem NoStart.tenureEnd {s : State} (r : ReleaseReason) (h : NoStart s) : NoStart (endTenure r s) := by
  rw [endTenure_ends r s h.claim]
  exact ⟨h.own, h.claim, h.settle⟩

theorem withdrawClaims_noStart (s : State) : NoStart (withdrawClaims s) :=
  (withdrawStart_noStart _).tenureEnd .stopped

namespace OwnSafe

variable {s t : State}

/-- No own claim stands, and what follows reads none. -/
theorem gone (hd : NoDraw s) (hs : NoStart s) (e : t.pvu.claims = s.pvu.claims
    ∧ t.dbu.claim = s.dbu.claim ∧ t.dbu.need = s.dbu.need ∧ t.dbu.settleAt = s.dbu.settleAt
    ∧ t.ssu.claim = s.ssu.claim ∧ t.ssu.settleAt = s.ssu.settleAt) : OwnSafe t := by
  obtain ⟨hclaims, hc, hneed, hset, hsc, hss⟩ := e
  have hown : ∀ k, t.pvu.own k = s.pvu.own k := fun k => by rw [Pvu.own, hclaims, Pvu.own]
  exact of_none ⟨(hown _).trans hd.own, hc.trans hd.claim, hneed.trans hd.need, hset.trans hd.settle⟩
    ⟨(hown _).trans hs.own, hsc.trans hs.claim, hss.trans hs.settle⟩

theorem withdrawn (h : DrawCore s) (e : t.pvu.claims = (withdrawClaims s).pvu.claims
    ∧ t.dbu.claim = (withdrawClaims s).dbu.claim ∧ t.dbu.need = (withdrawClaims s).dbu.need
    ∧ t.dbu.settleAt = (withdrawClaims s).dbu.settleAt ∧ t.ssu.claim = (withdrawClaims s).ssu.claim
    ∧ t.ssu.settleAt = (withdrawClaims s).ssu.settleAt) : OwnSafe t :=
  gone (withdrawClaims_noDraw h) (withdrawClaims_noStart s) e

theorem giveUp (q : SeqState) (h : DrawCore s) : OwnSafe (giveUpAuthority q s) := by
  unfold giveUpAuthority
  exact urgency (withdrawn h (by simp))

theorem abandon (h : DrawCore s) : OwnSafe (enterAbandoned s) := by
  have h1 : DrawCore (clearStack .abandoned s) :=
    h.of_same ⟨by rw [Pvu.own, show (clearStack .abandoned s).pvu = s.pvu by simp, Pvu.own], by simp, by simp⟩
  unfold enterAbandoned
  exact urgency (withdrawn h1 (by simp))

theorem handback (h : DrawCore s) : OwnSafe (enterHandback s) := by
  have h1 : DrawCore (writeReport (s.runningReport .completed) s) :=
    h.of_same ⟨rfl, rfl, rfl, rfl, rfl, rfl, rfl⟩
  unfold enterHandback
  exact urgency (withdrawn h1 (by simp))

theorem changed (b : State) (h : OwnSafe s) : OwnSafe (beaconIfChanged b s) := h.of_fields (by simp)

theorem beacon (h : OwnSafe s) : OwnSafe (requestBeacon s) := h.of_fields (by simp)

theorem pop (c : Context) (rest : List Context) (h : OwnSafe s) : OwnSafe (popContext c rest s) := by
  unfold popContext
  exact changed s (urgency (creep (h.of_fields (by simp))))

theorem point (h : OwnSafe s) : OwnSafe (completePoint s) := by
  have h1 : OwnSafe { s with rsq := { s.rsq with
      levelHold := false
      counters := { s.rsq.counters with pointsCompleted := s.rsq.counters.pointsCompleted + 1 } } } :=
    h.of_fields (by simp)
  unfold completePoint
  dsimp only
  split
  · split
    · exact h1.pop _ _
    · exact h1.of_fields (by simp)
  · split
    · exact handback h1.draw.toDrawCore
    · exact h1.of_fields (by simp)

theorem preconditions (h : OwnSafe s) : OwnSafe (evalPreconditions s) := by
  unfold evalPreconditions
  split
  · split
    · have h1 : OwnSafe (refreshUrgency (requestBeacon { s with rsq := { s.rsq with state := .queued } })) :=
        urgency ((h.moved { s.rsq with state := .queued } (.inl rfl)).of_fields (by simp))
      unfold enterQueued
      dsimp only
      split
      · exact h1.drive
      · exact request (h1.of_fields (by simp))
    · exact h
  · split
    · exact h
    · have h1 : DrawCore { s with rsq := { s.rsq with state := .stopped } } :=
        h.draw.toDrawCore.of_same ⟨rfl, rfl, rfl, rfl, rfl, rfl, rfl⟩
      exact urgency (withdrawn h1 (by simp))
  all_goals exact h

/-- Where a stop event leads before stop entry, the claims are as before. -/
theorem stopMet_sameDraw {u : State} {c : Cause} {e : Option Nat} (hu : s.stopMet c e = some u) :
    SameDraw s u := by
  have hpush : SameDraw s (pushContext s) := by
    unfold pushContext dropBottom
    split
    · dsimp only
      split <;> exact ⟨rfl, rfl, rfl, rfl, rfl, rfl, rfl⟩
    · exact ⟨rfl, rfl, rfl, rfl, rfl, rfl, rfl⟩
  unfold State.stopMet at hu
  split at hu
  iterate 3 exact nomatch hu
  iterate 3 cases hu; exact ⟨rfl, rfl, rfl, rfl, rfl, rfl, rfl⟩
  · cases hu
    exact ⟨hpush.own, hpush.straps, hpush.claim⟩
  · cases hu
    exact ⟨rfl, rfl, rfl, rfl, rfl, rfl, rfl⟩

theorem stopped (c : Cause) (before : State) (h : DrawCore s) : OwnSafe (stopEntry c before s) := by
  have h1 : DrawCore (setGranted (({ s with rsq := { s.rsq with
      runReq := s.rsq.runReq && decide (c ≠ .dip)
      speed := (s.entryOf s.rsq.pendingSet.profile).holdSpeed } } : State).drawOf
        (s.entryOf s.rsq.pendingSet.profile).holdSpeed) { s with rsq := { s.rsq with
      runReq := s.rsq.runReq && decide (c ≠ .dip)
      speed := (s.entryOf s.rsq.pendingSet.profile).holdSpeed } }) :=
    h.of_same ⟨by simp, by simp, by simp⟩
  unfold stopEntry
  exact changed before (urgency (withdrawn h1 (by simp)))

theorem stop (c : Cause) (e : Option Nat) (h : OwnSafe s) : OwnSafe (stopEvent c e s) := by
  rw [stopEvent_eq]
  split
  · exact h
  · next u hu => exact (stopped c s (h.draw.toDrawCore.of_same (stopMet_sameDraw hu))).preconditions

/-! ### Timers, tundish, line and inputs -/

theorem timeout (h : OwnSafe s) : OwnSafe (tenureTimeout s) := by
  have h1 : ∀ n, OwnSafe (startTimeout n s) := fun n => tenureEnd _ (h.of_fields (by simp))
  unfold tenureTimeout
  split
  · exact h.tenureEnd _
  · split
    · exact (h1 1).request
    · exact abandon (h1 2).draw.toDrawCore

theorem begins (e : Nat) (h : OwnSafe s) : OwnSafe (takeBegin e s) := by
  unfold takeBegin
  split
  · exact beacon (stop _ _ (h.of_fields (by simp)))
  · exact h

theorem ready (e : Nat) (l : Option Nat) (h : OwnSafe s) : OwnSafe (takeReady e l s) := by
  unfold takeReady
  split
  · exact preconditions (h.of_fields (by simp))
  · split
    · exact preconditions (h.of_fields (by simp))
    · exact h

theorem adopt (b : BeaconFields) (h : OwnSafe s) : OwnSafe (adoptEpoch b s) :=
  preconditions (h.of_fields (by simp))

/-- DBU and SSU take a new line state that the line already shows (R98, R111). -/
theorem lineTaken {q : LineState} (hd : DrawCore s) (hs : StartCore s)
    (hplaced : s.dbu.claim ≠ .none → MayClaim s.rsq.state) (hl : s.lnc.line = q)
    (hq : q = .active ∨ q = .deaf ∨ q = .barred) : OwnSafe (startLineChange q (drawLineChange q s)) := by
  have hlost : OwnSafe (actOnRequest (withdrawStart (drawLineLost s))) := by
    have hnone := (drawLineLost_noDraw hd).of_same (withdrawStart_sameDraw (drawLineLost s))
    exact request (of_none hnone (withdrawStart_noStart _))
  rcases hq with rfl | rfl | rfl
  · have h1 : OwnSafe s :=
      ⟨⟨hd, hplaced, fun hn => absurd hl hn⟩, ⟨hs, fun hn => absurd hl hn⟩⟩
    exact request ⟨drawViewChange_drawSafe h1.draw, h1.start.of_same (drawViewChange_sameStart s) (by simp)⟩
  · exact hlost
  · exact hlost

theorem line {q : LineState} (h : OwnSafe s) (hq : q = .active ∨ q = .deaf ∨ q = .barred) :
    OwnSafe (changeLine q s) := by
  have h1 : OwnSafe (startLineChange q (drawLineChange q
      (notify .lineChanged { s with lnc := { s.lnc with line := q } }))) :=
    lineTaken (h.draw.toDrawCore.of_same ⟨rfl, rfl, rfl, rfl, rfl, rfl, rfl⟩)
      (h.start.toStartCore.of_same ⟨rfl, rfl, rfl, rfl, rfl⟩) h.draw.placed rfl hq
  have h2 := h1.firstPoint
  show OwnSafe (lineBeacon q _)
  unfold lineBeacon
  split
  · exact h2.of_fields (by simp)
  · exact h2

theorem bar (k : FrameKind) (h : OwnSafe s) : OwnSafe (enterBarred k s) := by
  unfold enterBarred
  exact line (h.of_fields (by simp)) (.inr (.inr rfl))

theorem edge (i : Input) (rises : Bool) (h : OwnSafe s) : OwnSafe (giveEdge i rises s) := by
  unfold giveEdge
  split
  · split
    · exact h.preconditions
    · exact h.stop _ _
  · split
    · unfold drvReadyRise
      dsimp only
      split
      · exact h.drive.tenureEnd _
      · exact h.drive
    · split
      · exact h.stop _ _
      · exact h
  · split
    · exact h.stop _ _
    · exact h
  · exact h.preconditions

theorem stamp (b : State) (h : OwnSafe s) : OwnSafe (stampFault b s) := by
  rw [stampFault_does]
  exact h.of_fields (by simp)

theorem input (i : Input) (raw : Bool) (h : OwnSafe s) : OwnSafe (sampleInput i raw s) := by
  have h1 : OwnSafe { s with spu := { s.spu with inputs := inputSet s.spu.inputs i (s.sampledFilter i raw) } } :=
    h.of_fields (by simp)
  unfold sampleInput
  dsimp only
  split
  · exact h1
  · exact (h1.edge i raw).stamp s

/-- The entries of peers come and go without the own ones (R127, R131). -/
theorem removed (gone : ClaimEntry → Bool) (h : OwnSafe s) (hg : ∀ e, gone e = true → e.isOwn = false) :
    OwnSafe (removeClaims gone s) := by
  have hown : ∀ k, (removeClaims gone s).pvu.own k = s.pvu.own k := fun k => by
    simp only [Pvu.own, removeClaims, List.filter_filter]
    refine List.filter_congr fun e _ => ?_
    cases hge : gone e with
    | false => simp
    | true => simp [hg e hge]
  exact ⟨h.draw.of_same ⟨hown _, rfl, rfl, rfl, rfl, rfl, rfl⟩ rfl rfl,
    h.start.of_same ⟨hown _, rfl, rfl, rfl, rfl⟩ rfl⟩

/-- Every own entry bears the own station's number. -/
theorem own_station (h : OwnSafe s) {k : ClaimKind} {e : ClaimEntry} (he : e ∈ s.pvu.own k) :
    e.station = s.ownStation := by
  cases k with
  | draw =>
    rw [h.draw.entry] at he
    obtain ⟨st, -, rfl⟩ : ∃ st, s.dbu.claim.listed = some st ∧ s.drawEntry st = e := by simpa using he
    rfl
  | start =>
    rw [h.start.entry] at he
    obtain ⟨st, -, rfl⟩ : ∃ st, s.ssu.claim.listed = some st ∧ s.startEntry st = e := by simpa using he
    rfl

/-- A claim heard from another station replaces no own entry (R128). -/
theorem entered (e : ClaimEntry) (h : OwnSafe s) (he : e.isOwn = false) (hne : e.station ≠ s.ownStation) :
    OwnSafe (enterClaim e s) := by
  have hown : ∀ k, (enterClaim e s).pvu.own k = s.pvu.own k := fun k => by
    simp only [Pvu.own, enterClaim, List.filter_append, List.filter_filter]
    have hnew : [e].filter (fun e => e.isOwn && decide (e.kind = k)) = [] := by simp [he]
    rw [hnew, List.append_nil]
    refine List.filter_congr fun g hg => ?_
    cases hk : (g.isOwn && decide (g.kind = k)) with
    | false => simp
    | true =>
      have hst := h.own_station (List.mem_filter.mpr ⟨hg, hk⟩)
      simp [hst, Ne.symm hne]
  exact ⟨h.draw.of_same ⟨hown _, rfl, rfl, rfl, rfl, rfl, rfl⟩ rfl rfl,
    h.start.of_same ⟨hown _, rfl, rfl, rfl, rfl⟩ rfl⟩

/-- In a state where no own DRAW claim may stand, none does. -/
theorem noDraw (h : OwnSafe s) (hs : ¬ MayClaim s.rsq.state) : NoDraw s :=
  h.draw.toDrawCore.noDraw (by_contra fun hc => hs (h.draw.placed hc))

theorem idle (q : SeqState) (h : OwnSafe s) (hs : ¬ MayClaim s.rsq.state) : OwnSafe (moveIdle q s) := by
  have hd : NoDraw { s with rsq := { s.rsq with state := q } } :=
    (h.noDraw hs).of_same ⟨rfl, rfl, rfl, rfl, rfl, rfl, rfl⟩
  have h1 : OwnSafe { s with rsq := { s.rsq with state := q } } :=
    ⟨hd.safe, h.start.of_same ⟨rfl, rfl, rfl, rfl, rfl⟩ rfl⟩
  exact urgency (h1.of_fields (by simp))

theorem giveUpAll (q : SeqState) (o : ReportOutcome) (h : OwnSafe s) :
    OwnSafe (giveUpAuthority q (clearStack o s)) :=
  giveUp q (h.draw.toDrawCore.of_same
    ⟨by rw [Pvu.own, show (clearStack o s).pvu = s.pvu by simp, Pvu.own], by simp, by simp⟩)

/-- An OFF line has no own claim. -/
theorem noneOff (h : OwnSafe s) (hs : s.rsq.state = .unjoined) (hl : s.lnc.line = .off) :
    NoDraw s ∧ NoStart s :=
  ⟨h.noDraw (by simp [hs]), h.start.toStartCore.noStart (h.start.line (by simp [hl]))⟩

theorem joined (h : OwnSafe s) (hs : s.rsq.state = .unjoined) (hl : s.lnc.line = .off) :
    OwnSafe (joinLine s) := by
  obtain ⟨hd, hst⟩ := h.noneOff hs hl
  refine gone hd hst ?_
  unfold joinLine
  rw [changeLine_listen (s := s.atJoin) (by simp [State.atJoin])]
  simp [State.atJoin]

theorem straps (pins : StrapPins) (h : OwnSafe s) (hs : s.rsq.state = .unjoined) (hl : s.lnc.line = .off) :
    OwnSafe (sampleStraps pins s) := by
  obtain ⟨hd, hst⟩ := h.noneOff hs hl
  rw [sampleStraps_does]
  exact gone hd hst (by simp)

end OwnSafe

/-! ### Every step -/

/-- The own claims in place, beside the laws of the start slot, of the line and of the straps. -/
structure ClaimsSafe (s : State) : Prop extends JoinedSafe s, OwnSafe s

theorem startFrame_ownSafe {s : State} (d : Head) (h : OwnSafe s) : OwnSafe (startFrame d s) := by
  unfold startFrame
  cases d <;> exact h.of_fields (by simp)

theorem abortFrame_ownSafe {s : State} (t : Transmission) (h : OwnSafe s) : OwnSafe (abortFrame t s) := by
  unfold abortFrame
  split <;> exact h.of_fields (by simp)

theorem advance_ownSafe {s : State} (h : OwnSafe s) : OwnSafe (advance s) := by
  unfold advance nextMs lineBit
  dsimp only
  split
  · exact h
  · split <;> exact h.of_fields (by simp)

theorem claimsSafe_kept : KeptBySteps ClaimsSafe :=
  have K := joinedSafe_kept
  { aside := fun h a => by
      obtain ⟨hstate, -⟩ := a.seq
      obtain ⟨-, -, -, hc, hn, ha, hneed, hset⟩ := a.dbu
      obtain ⟨-, hsc, hsn, hss, -⟩ := a.ssu
      exact ⟨K.aside h.1 a,
        h.2.of_fields ⟨a.claims, a.port.2.2.2.1, hc, hn, ha, hneed, hset, hsc, hsn, hss, hstate, a.lnc.1⟩⟩
    stamp := fun hs h => ⟨K.stamp hs.1 h.1, h.2.stamp _⟩
    capture := fun k d h => ⟨K.capture k d h.1, h.2.of_fields (by simp)⟩
    beacon := fun h => ⟨K.beacon h.1, h.2.of_fields (by simp)⟩
    frame := fun f h hl => ⟨K.frame f h.1 hl, h.2.of_fields (by simp)⟩
    removed := fun g h hg => ⟨K.removed g h.1 hg, h.2.removed g hg⟩
    entered := fun e h h1 h2 h3 => ⟨K.entered e h.1 h1 h2 h3, h.2.entered e h1 h3⟩
    drawView := fun h => ⟨K.drawView h.1,
      drawViewChange_drawSafe h.2.draw, h.2.start.of_same (drawViewChange_sameStart _) (by simp)⟩
    holder := fun v h => ⟨K.holder v h.1, h.2.holder v⟩
    retest := fun h => ⟨K.retest h.1, h.2.draw.of_same (retestStart_sameDraw _) (by simp) (by simp),
      retestStart_startSafe h.2.start⟩
    waits := fun h hc => ⟨K.waits h.1 hc,
      h.2.draw.of_same (startWaits_sameDraw _) (by simp [startWaits]) (by simp [startWaits]),
      startWaits_startSafe h.2.start hc⟩
    tenureEnd := fun r h => ⟨K.tenureEnd r h.1, h.2.tenureEnd r⟩
    urgency := fun h => ⟨K.urgency h.1, h.2.urgency⟩
    creep := fun h => ⟨K.creep h.1, h.2.creep⟩
    need := fun n h hs ho => ⟨K.need n h.1 hs ho, h.2.need n ho (.inr hs)⟩
    dropNeed := fun h => ⟨K.dropNeed h.1, dropHeldNeed_drawSafe h.2.draw,
      h.2.start.of_same ⟨by rw [show ∀ s, (dropHeldNeed s).pvu = s.pvu from fun s => by simp], by simp, by simp⟩
        (by simp)⟩
    firstPoint := fun h => ⟨K.firstPoint h.1, h.2.firstPoint⟩
    request := fun h => ⟨K.request h.1, h.2.request⟩
    slot := fun n h hc => ⟨K.slot n h.1 hc, h.2.slot n⟩
    settled := fun h hc => ⟨K.settled h.1 hc, (settleDraw_noDraw _).safe,
      h.2.start.of_same (settleDraw_sameStart _) (by simp [settleDraw])⟩
    drawSent := fun n h => ⟨K.drawSent n h.1, drawSent_drawSafe n h.2.draw,
      h.2.start.of_same (drawSent_sameStart _ n) (by unfold drawSent; split <;> simp)⟩
    startSent := fun n h => ⟨K.startSent n h.1,
      h.2.draw.of_same (startSent_sameDraw _ n) (by unfold startSent; split <;> simp)
        (by unfold startSent; split <;> simp),
      startSent_startSafe n h.2.start⟩
    timeout := fun h ht => ⟨K.timeout h.1 ht, h.2.timeout⟩
    stop := fun c e h => ⟨K.stop c e h.1, h.2.stop c e⟩
    begins := fun e h => ⟨K.begins e h.1, h.2.begins e⟩
    ready := fun e l h => ⟨K.ready e l h.1, h.2.ready e l⟩
    adopt := fun b h => ⟨K.adopt b h.1, h.2.adopt b⟩
    latch := fun h hr => ⟨K.latch h.1 hr, OwnSafe.preconditions (h.2.of_fields (by simp))⟩
    cast := fun h hs => ⟨K.cast h.1 hs, h.2.idle _ (by simp [hs])⟩
    park := fun h hs => ⟨K.park h.1 hs, h.2.idle _ (by simp [hs])⟩
    giveUp := fun q h ha hq => ⟨K.giveUp q h.1 ha hq, OwnSafe.giveUp q h.2.draw.toDrawCore⟩
    giveUpAll := fun q o h ha hq => ⟨K.giveUpAll q o h.1 ha hq, h.2.giveUpAll q o⟩
    abandon := fun h ha => ⟨K.abandon h.1 ha, OwnSafe.abandon h.2.draw.toDrawCore⟩
    point := fun h hs => ⟨K.point h.1 hs, h.2.point⟩
    line := fun q h hl hq => ⟨K.line q h.1 hl hq, h.2.line (hq.imp_right .inl)⟩
    bar := fun k h hb => ⟨K.bar k h.1 hb, h.2.bar k⟩
    start := fun d h hs => ⟨K.start d h.1 hs, startFrame_ownSafe d h.2⟩
    abort := fun t h ht => ⟨K.abort t h.1 ht, abortFrame_ownSafe t h.2⟩
    ended := fun h => ⟨K.ended h.1, h.2.of_fields (by simp)⟩
    input := fun i raw h => ⟨K.input i raw h.1, h.2.input i raw⟩
    store := fun p f l h hs => ⟨K.store p f l h.1 hs, h.2.of_fields (by simp)⟩
    straps := fun {s} pins h hd => by
      have hs : s.rsq.state = .unjoined := by
        by_contra hs
        have hdone := h.1.straps hs
        rw [hd] at hdone
        exact nomatch hdone
      exact ⟨K.straps pins h.1 hd, h.2.straps pins hs (h.1.joined.mp hs)⟩
    join := fun h hs hf => ⟨K.join h.1 hs hf, h.2.joined hs (h.1.joined.mp hs)⟩
    read := fun h => ⟨K.read h.1, h.2.of_fields (by simp)⟩
    cleared := fun h => ⟨K.cleared h.1, h.2.of_fields (by simp)⟩
    reset := fun raw cpn p => ⟨K.reset raw cpn p, OwnSafe.of_none ⟨rfl, rfl, rfl, rfl⟩ ⟨rfl, rfl, rfl⟩⟩
    time := fun h hd hr => ⟨K.time h.1 hd hr, advance_ownSafe h.2⟩ }

end Sys2Proof.Machine
end

section
/-! SUPPORT. The urgency is the one the state calls for, but for a critical moment that the margin timer has
yet to report (R36, R37): each operation leaves what the urgency is made of alone, or evaluates it last. -/

namespace Sys2Proof.Machine

/-- What the urgency is made of, and the urgency, are as before. -/
structure SameUrgency (s t : State) : Prop where
  seq : t.rsq.state = s.rsq.state ∧ t.rsq.pendingSet = s.rsq.pendingSet ∧ t.rsq.stack = s.rsq.stack
    ∧ t.rsq.carried = s.rsq.carried ∧ t.rsq.currentCause = s.rsq.currentCause
    ∧ t.rsq.urgencyBase = s.rsq.urgencyBase ∧ t.rsq.urgency = s.rsq.urgency
  now : t.now = s.now
  pst : t.pst = s.pst

/-- The urgency has been evaluated. -/
abbrev Urged (s : State) : Prop := s.rsq.urgency = s.computeUrgency

variable {s t : State}

theorem SameUrgency.compute (e : SameUrgency s t) : t.computeUrgency = s.computeUrgency := by
  obtain ⟨⟨hs, hp, hk, hc, hcc, hb, -⟩, hn, hpst⟩ := e
  exact State.computeUrgency_congr hs hp hk hc hcc hb hn hpst

theorem UrgencyCurrent.of_same (h : UrgencyCurrent s) (e : SameUrgency s t) : UrgencyCurrent t := by
  rw [UrgencyCurrent, e.compute, e.seq.2.2.2.2.2.2]
  exact h

theorem Urged.of_same (h : Urged s) (e : SameUrgency s t) : Urged t := by
  rw [Urged, e.compute, e.seq.2.2.2.2.2.2]
  exact h

theorem Urged.current (h : Urged s) : UrgencyCurrent s := fun _ => h

theorem refreshUrgency_urged (s : State) : Urged (refreshUrgency s) := by
  rw [Urged, refreshUrgency_urgency]
  exact (State.computeUrgency_congr (by simp) (by simp) (by simp) (by simp) (by simp) (by simp) (by simp)
    (by simp)).symm

theorem Urged.changed (b : State) (h : Urged s) : UrgencyCurrent (beaconIfChanged b s) :=
  (h.of_same (by constructor <;> simp)).current

/-- A state that calls for no urgency shows none. -/
theorem UrgencyCurrent.of_calm (h : UrgencyCurrent s) (hs : s.computeUrgency = 0)
    (ht : t.computeUrgency = 0) (hu : t.rsq.urgency = s.rsq.urgency) : UrgencyCurrent t := by
  have h0 := h (by simp [hs])
  exact Urged.current (by rw [Urged, hu, h0, hs, ht])

theorem State.computeUrgency_unjoined (hs : s.rsq.state = .unjoined) : s.computeUrgency = 0 := by
  simp [State.computeUrgency, hs]

theorem State.computeUrgency_parked (hs : s.rsq.state = .parked) : s.computeUrgency = 0 := by
  simp [State.computeUrgency, hs]

/-- A release latch moves no deadline and no base urgency (R27). -/
theorem State.computeUrgency_latchAll (s : State) :
    ({ s with rsq := { s.rsq with pendingSet := latchAll s.rsq.pendingSet } } : State).computeUrgency
      = s.computeUrgency := by
  obtain ⟨_, _, _, _, ⟨_, ⟨_, _, b, h⟩⟩, _⟩ := s
  cases b <;> cases h <;> rfl

namespace UrgencyCurrent

theorem creep (h : UrgencyCurrent s) : UrgencyCurrent (creepTest s) := by
  unfold creepTest
  split
  · exact (refreshUrgency_urged _).current
  · exact h

theorem firstPoint (h : UrgencyCurrent s) : UrgencyCurrent (firstPointTest s) := by
  have hramp : ∀ u, UrgencyCurrent (enterRamping u) := fun u => (refreshUrgency_urged _).current
  unfold firstPointTest
  split
  · split
    · exact hramp s
    · split
      · exact h
      · dsimp only
        split
        · exact hramp _
        · exact h.of_same (by constructor <;> simp)
  · exact h

theorem drive (h : UrgencyCurrent s) : UrgencyCurrent (driveTest s) := by
  unfold driveTest
  split
  · exact firstPoint (h.of_same (by constructor <;> simp))
  · exact h

theorem slot (n : Nat) (h : UrgencyCurrent s) : UrgencyCurrent (takeSlot n s) :=
  drive (h.of_same (by constructor <;> simp))

theorem request (h : UrgencyCurrent s) : UrgencyCurrent (actOnRequest s) := by
  unfold actOnRequest
  split
  · split
    · exact h.of_same (by constructor <;> simp)
    · split
      · exact h.slot _
      · exact h
    · split
      · exact h.slot _
      · exact h
    all_goals exact h
  · exact h

theorem preconditions (h : UrgencyCurrent s) : UrgencyCurrent (evalPreconditions s) := by
  unfold evalPreconditions
  split
  · split
    · have h1 := (refreshUrgency_urged
        (requestBeacon { s with rsq := { s.rsq with state := .queued } })).current
      unfold enterQueued
      dsimp only
      split
      · exact drive h1
      · exact request (h1.of_same (by constructor <;> simp))
    · exact h
  · split
    · exact h
    · exact (refreshUrgency_urged _).current
  all_goals exact h

theorem stopped (c : Cause) (before s : State) : UrgencyCurrent (stopEntry c before s) := by
  unfold stopEntry
  exact (refreshUrgency_urged _).changed before

theorem stop (c : Cause) (e : Option Nat) (h : UrgencyCurrent s) : UrgencyCurrent (stopEvent c e s) := by
  rw [stopEvent_eq]
  split
  · exact h
  · exact (stopped c s _).preconditions

theorem timeout (h : UrgencyCurrent s) : UrgencyCurrent (tenureTimeout s) := by
  unfold tenureTimeout
  split
  · exact h.of_same (by constructor <;> simp)
  · split
    · exact request (h.of_same (by constructor <;> simp [startTimeout]))
    · exact (refreshUrgency_urged _).current

theorem begins (e : Nat) (h : UrgencyCurrent s) : UrgencyCurrent (takeBegin e s) := by
  have h1 : UrgencyCurrent { s with dbu := { s.dbu with
      epoch := e, phase := .opened, learned := true, mismatch := false } } :=
    h.of_same (by constructor <;> simp)
  unfold takeBegin
  split
  · exact (h1.stop .tundish (some e)).of_same (by constructor <;> simp)
  · exact h

theorem ready (e : Nat) (l : Option Nat) (h : UrgencyCurrent s) : UrgencyCurrent (takeReady e l s) := by
  unfold takeReady
  split
  · exact preconditions (h.of_same (by constructor <;> simp))
  · split
    · exact preconditions (h.of_same (by constructor <;> simp))
    · exact h

theorem adopt (b : BeaconFields) (h : UrgencyCurrent s) : UrgencyCurrent (adoptEpoch b s) :=
  preconditions (h.of_same (by constructor <;> simp))

theorem point (h : UrgencyCurrent s) : UrgencyCurrent (completePoint s) := by
  unfold completePoint
  dsimp only
  split
  · split
    · unfold popContext
      exact (refreshUrgency_urged _).changed _
    · exact h.of_same (by constructor <;> simp)
  · split
    · exact (refreshUrgency_urged _).current
    · exact h.of_same (by constructor <;> simp)

theorem line (q : LineState) (h : UrgencyCurrent s) : UrgencyCurrent (changeLine q s) := by
  have h1 : UrgencyCurrent (notify .lineChanged { s with lnc := { s.lnc with line := q } }) :=
    h.of_same (by constructor <;> simp)
  have h2 : ∀ {u : State}, UrgencyCurrent u → UrgencyCurrent (startLineChange q (drawLineChange q u)) :=
    fun {u} hu => by
      cases q with
      | active => exact request (hu.of_same (by constructor <;> simp))
      | deaf | barred => exact request (hu.of_same (by constructor <;> simp))
      | off | listen => exact hu
  have h3 := (h2 h1).firstPoint
  show UrgencyCurrent (lineBeacon q _)
  unfold lineBeacon
  split
  · exact h3.of_same (by constructor <;> simp)
  · exact h3

theorem edge (i : Input) (rises : Bool) (h : UrgencyCurrent s) : UrgencyCurrent (giveEdge i rises s) := by
  unfold giveEdge
  split
  · split
    · exact h.preconditions
    · exact h.stop _ _
  · split
    · unfold drvReadyRise
      dsimp only
      split
      · exact h.drive.of_same (by constructor <;> simp)
      · exact h.drive
    · split
      · exact h.stop _ _
      · exact h
  · split
    · exact h.stop _ _
    · exact h
  · exact h.preconditions

theorem stamp (b : State) (h : UrgencyCurrent s) : UrgencyCurrent (stampFault b s) := by
  rw [stampFault_does]
  exact h.of_same (by constructor <;> simp)

theorem input (i : Input) (raw : Bool) (h : UrgencyCurrent s) : UrgencyCurrent (sampleInput i raw s) := by
  have h1 : UrgencyCurrent { s with spu := { s.spu with
      inputs := inputSet s.spu.inputs i (s.sampledFilter i raw) } } := h.of_same (by constructor <;> simp)
  unfold sampleInput
  dsimp only
  split
  · exact h1
  · exact (h1.edge i raw).stamp s

end UrgencyCurrent

/-! ### The passing of 1 ms -/

/-- As 1 ms passes, a moment ahead comes 1 ms nearer on the signed reading as well. -/
theorem ahead_later_one {now t : Moment} (h : 0 < ahead now t) :
    ahead (later now 1) t = ahead now t - 1 := by
  have e : t - later now 1 = (t - now) - 1 := by
    unfold later
    bv_omega
  unfold ahead at *
  rw [e]
  generalize t - now = d at *
  have h1 : (d - 1).toNat = (d.toNat + (2 ^ 32 - 1)) % 2 ^ 32 := by bv_omega
  simp only [BitVec.toInt_eq_toNat_cond, h1] at *
  have hd := d.isLt
  split at h <;> split <;> omega

/-- The first of a list with one more moment in front. -/
theorem firstBy_cons (m : Moment → Int) (a : Moment) (l : List Moment) :
    firstBy m (a :: l) = some ((firstBy m l).elim a fun b => if m b < m a then b else a) := by
  rw [firstBy, List.foldr_cons, ← firstBy]
  cases firstBy m l <;> rfl

/-- The first of a list is in it, and no other comes before it. -/
theorem firstBy_mem {m : Moment → Int} {l : List Moment} {d : Moment} (h : firstBy m l = some d) :
    d ∈ l ∧ ∀ a ∈ l, m d ≤ m a := by
  induction l generalizing d with
  | nil => exact nomatch h
  | cons a l ih =>
    rw [firstBy_cons] at h
    cases hl : firstBy m l with
    | none =>
      have hnil : l = [] := by
        cases l with
        | nil => rfl
        | cons b l => exact nomatch (firstBy_cons m b l).symm.trans hl
      subst hnil
      rw [hl] at h
      cases h
      simp
    | some b =>
      obtain ⟨hmem, hle⟩ := ih hl
      rw [hl, Option.elim_some, Option.some_inj] at h
      split at h
      · next hlt =>
        subst h
        exact ⟨List.mem_cons_of_mem _ hmem, List.forall_mem_cons.mpr ⟨hlt.le, hle⟩⟩
      · next hlt =>
        subst h
        exact ⟨List.mem_cons_self, List.forall_mem_cons.mpr
          ⟨le_refl _, fun x hx => (not_lt.mp hlt).trans (hle x hx)⟩⟩

/-- Two measures that order a list alike have the same first. -/
theorem firstBy_congr {m n : Moment → Int} {l : List Moment}
    (h : ∀ a ∈ l, ∀ b ∈ l, m a < m b ↔ n a < n b) : firstBy m l = firstBy n l := by
  induction l with
  | nil => rfl
  | cons a l ih =>
    have htail := ih fun x hx y hy => h x (List.mem_cons_of_mem _ hx) y (List.mem_cons_of_mem _ hy)
    rw [firstBy_cons, firstBy_cons, htail]
    cases hl : firstBy n l with
    | none => rfl
    | some b =>
      have hb := h b (List.mem_cons_of_mem _ (firstBy_mem hl).1) a List.mem_cons_self
      simp only [Option.elim_some, hb]

/-- Where the earliest deadline lies ahead, it is still the earliest 1 ms later. -/
theorem earliestDeadline_later_one {now : Moment} {l : List Moment}
    (h : expired now (earliestDeadline now l) = false) :
    earliestDeadline (later now 1) l = earliestDeadline now l := by
  have hall : ∀ a ∈ l, 0 < ahead now a := fun a ha => by
    cases hd : firstBy (ahead now) l with
    | none =>
      cases l with
      | nil => exact nomatch ha
      | cons b l => exact nomatch (firstBy_cons _ b l).symm.trans hd
    | some d =>
      rw [earliestDeadline, hd] at h
      have hleft : timeLeft now d ≠ 0 := by simpa [expired, reached] using h
      have hpos : 0 < ahead now d := by
        unfold timeLeft at hleft
        omega
      exact hpos.trans_le ((firstBy_mem hd).2 a ha)
  refine firstBy_congr fun a ha b hb => ?_
  rw [ahead_later_one (hall a ha), ahead_later_one (hall b hb)]
  omega

/-- The passing of a bit time leaves the sequencer's part of the urgency alone. -/
theorem advance_rsq (s : State) : (advance s).rsq.state = s.rsq.state
    ∧ (advance s).rsq.pendingSet = s.rsq.pendingSet ∧ (advance s).rsq.stack = s.rsq.stack
    ∧ (advance s).rsq.carried = s.rsq.carried ∧ (advance s).rsq.currentCause = s.rsq.currentCause
    ∧ (advance s).rsq.urgencyBase = s.rsq.urgencyBase ∧ (advance s).rsq.urgency = s.rsq.urgency
    ∧ (advance s).pst = s.pst ∧ ((advance s).now = s.now ∨ (advance s).now = later s.now 1) := by
  unfold advance nextMs
  dsimp only
  split
  · simp
  · split <;> simp

/-- With no own event due no freeze has run out (R33). -/
theorem freezeExpired_of_idle (hd : s.firstDue = none) : s.freezeExpired = false := by
  rw [State.firstDue, Option.map_eq_none_iff, List.find?_eq_none] at hd
  simpa using hd (s.freezeExpired, .freezeExpiry) (by simp [State.ownEvents])

theorem advance_current (h : UrgencyCurrent s) (hd : s.firstDue = none) : UrgencyCurrent (advance s) := by
  obtain ⟨hs, hp, hk, hc, hcc, hb, hu, hpst, hnow⟩ := advance_rsq s
  rcases hnow with hnow | hnow
  · exact h.of_same ⟨⟨hs, hp, hk, hc, hcc, hb, hu⟩, hnow, hpst⟩
  · have hfreeze := freezeExpired_of_idle hd
    have hdead : (advance s).deadlineInForce = s.deadlineInForce := by
      have hlist : (advance s).deadlines = s.deadlines := by
        unfold State.deadlines
        rw [hs, hp, hk, hc, hcc]
      unfold State.deadlineInForce
      rw [hlist, hnow]
      exact earliestDeadline_later_one hfreeze
    have hmargin : (advance s).marginInUse = s.marginInUse := by
      unfold State.marginInUse State.governingCause
      rw [hs, hp, hcc, hpst]
    have hbase : (advance s).pendingBase = s.pendingBase := by
      unfold State.pendingBase
      rw [hp, hpst]
    -- A moment that is not critical 1 ms later was not critical before.
    have hcritical : (advance s).critical = false → s.critical = false := by
      unfold State.critical
      rw [hdead, hmargin, hnow]
      split
      · next d m hforce hm =>
        have hleft : timeLeft s.now d ≠ 0 := by
          have hexp := hfreeze
          rw [State.freezeExpired, hforce] at hexp
          simpa [expired, reached] using hexp
        rw [timeLeft_later_one hleft]
        simp only [decide_eq_false_iff_not]
        omega
      · simp
    have hcompute : (advance s).computeUrgency ≠ 3 → s.computeUrgency = (advance s).computeUrgency := by
      unfold State.computeUrgency
      rw [hs, hb, hbase]
      intro hne
      cases hstate : s.rsq.state with
      | unjoined | parked | watch | abandoned | handback => rfl
      | stopped | queued | ramping =>
        rw [hstate] at hne
        cases hcr : (advance s).critical with
        | true => simp [hcr] at hne
        | false => simp [hcritical hcr]
    intro hne
    have heq := hcompute hne
    rw [hu, ← heq]
    exact h (heq ▸ hne)

theorem urgencyCurrent_kept : KeptBySteps UrgencyCurrent where
  aside h a := by
    obtain ⟨hs, hp, hcc, hk, hc, hb, -, hu⟩ := a.seq
    exact h.of_same ⟨⟨hs, hp, hk, hc, hcc, hb, hu⟩, a.now, a.pst⟩
  stamp _ h := h.stamp _
  capture _ _ h := h.of_same (by constructor <;> simp)
  beacon h := h.of_same (by constructor <;> simp)
  frame _ h _ := h.of_same (by constructor <;> simp)
  removed _ h _ := h.of_same (by constructor <;> simp [removeClaims])
  entered _ h _ _ _ := h.of_same (by constructor <;> simp [enterClaim])
  drawView h := h.of_same (by constructor <;> simp)
  holder _ h := h.of_same (by constructor <;> simp)
  retest h := h.of_same (by constructor <;> simp)
  waits h _ := h.of_same (by constructor <;> simp [startWaits])
  tenureEnd _ h := h.of_same (by constructor <;> simp)
  urgency _ := (refreshUrgency_urged _).current
  creep h := h.creep
  need _ h _ _ := h.of_same (by constructor <;> simp)
  dropNeed h := h.of_same (by constructor <;> simp)
  firstPoint h := h.firstPoint
  request h := h.request
  slot n h _ := h.slot n
  settled h _ := h.of_same (by constructor <;> simp [settleDraw])
  drawSent _ h := h.of_same (by unfold drawSent; split <;> constructor <;> simp)
  startSent _ h := h.of_same (by unfold startSent; split <;> constructor <;> simp)
  timeout h _ := h.timeout
  stop c e h := h.stop c e
  begins e h := h.begins e
  ready e l h := h.ready e l
  adopt b h := h.adopt b
  latch {s} h _ := by
    refine UrgencyCurrent.preconditions ?_
    rw [UrgencyCurrent, State.computeUrgency_latchAll]
    exact h
  cast _ _ := (refreshUrgency_urged _).current
  park _ _ := (refreshUrgency_urged _).current
  giveUp _ _ _ _ := (refreshUrgency_urged _).current
  giveUpAll _ _ _ _ _ := (refreshUrgency_urged _).current
  abandon _ _ := (refreshUrgency_urged _).current
  point h _ := h.point
  line q h _ _ := h.line q
  bar k h _ := UrgencyCurrent.line .barred (h.of_same (by constructor <;> simp))
  start d h _ := h.of_same (by unfold startFrame; cases d <;> constructor <;> simp)
  abort t h _ := h.of_same (by unfold abortFrame; split <;> constructor <;> simp)
  ended h := h.of_same (by constructor <;> simp)
  input i raw h := h.input i raw
  store p f l h hs := h.of_calm (State.computeUrgency_unjoined hs) (State.computeUrgency_unjoined hs) rfl
  straps pins h _ := h.of_same (by rw [sampleStraps_does]; constructor <;> simp)
  join {s} h hs _ := h.of_calm (State.computeUrgency_unjoined hs)
    (State.computeUrgency_parked (by rw [joinLine_rsq])) (by rw [joinLine_rsq])
  read h := h
  cleared h := h
  reset _ _ _ := Urged.current rfl
  time h hd _ := advance_current h hd

end Sys2Proof.Machine
end

section
/-! SUPPORT. The sound states (R10, R36, R51, R67, R91 to R114, R127, R142, R150, R176), kept by every step and
held after a reset. -/

namespace Sys2Proof.Machine

/-- The laws of the own claims as the state's own entries show them (R127). -/
theorem OwnSafe.entriesMatch {s : State} (h : OwnSafe s) : OwnEntriesMatch s := by
  constructor
  · rw [State.ownEntries_eq, h.draw.entry]
    cases s.dbu.claim <;> rfl
  · rw [State.ownEntries_eq, h.start.entry]
    cases s.ssu.claim <;> rfl

theorem OwnSafe.needPlaced {s : State} (h : OwnSafe s) : NeedPlaced s :=
  ⟨h.draw.need, h.draw.placed, h.draw.settle, h.start.settle⟩

theorem OwnSafe.claimsOnActive {s : State} (h : OwnSafe s) : ClaimsOnActive s :=
  fun hn => ⟨h.draw.line hn, h.start.line hn⟩

/-- The own claims of a state whose entries match. -/
theorem ownSafe_of_matches {s : State} (he : OwnEntriesMatch s) (hn : NeedPlaced s) (ha : ClaimsOnActive s) :
    OwnSafe s := by
  obtain ⟨hneed, hplaced, hdraw, hstart⟩ := hn
  refine ⟨⟨⟨?_, hneed, hdraw⟩, hplaced, fun hl => (ha hl).1⟩, ⟨⟨?_, hstart⟩, fun hl => (ha hl).2⟩⟩
  · rw [← State.ownEntries_eq, he.1]
    cases s.dbu.claim <;> rfl
  · rw [← State.ownEntries_eq, he.2]
    cases s.ssu.claim <;> rfl

/-- Soundness in the groups in which it is kept. -/
theorem sound_iff {s : State} : Sound s ↔ SpeedSafe s ∧ ClaimsDistinct s ∧ SlotsDistinct s
    ∧ StackBounded s ∧ PendingPlaced s ∧ ClaimsSafe s ∧ UrgencyCurrent s := by
  constructor
  · intro h
    have hdrive : DriveSafe s := driveSafe_iff.mpr ⟨h.slot, h.drive⟩
    exact ⟨⟨h.speed, h.holdSpeeds⟩, h.claimsDistinct, h.slotsDistinct, h.stack, h.pending,
      ⟨⟨hdrive, h.silent, h.joined, h.straps⟩, ownSafe_of_matches h.ownEntries h.need h.claimsOnActive⟩,
      h.urgency⟩
  · rintro ⟨hspeed, hclaims, hslots, hstack, hpending, hsafe, hurgency⟩
    obtain ⟨hslot, hdrive⟩ := driveSafe_iff.mp hsafe.toDriveSafe
    exact ⟨hspeed.law, hspeed.holds, hclaims, hslots, hstack, hpending, hsafe.joined, hsafe.silent,
      hsafe.toOwnSafe.claimsOnActive, hslot, hdrive, hsafe.straps, hsafe.toOwnSafe.entriesMatch,
      hsafe.toOwnSafe.needPlaced, hurgency⟩

/-- Settles O18: each group of laws is kept by the operations that its rows come to. -/
theorem everyStepKeepsTheStateSound : Obligations.every_step_keeps_the_state_sound := by
  intro s t h hstep
  obtain ⟨hspeed, hclaims, hslots, hstack, hpending, hsafe, hurgency⟩ := sound_iff.mp h
  exact sound_iff.mpr ⟨(step_speedSafe hspeed).safe t hstep,
    (claimsDistinct_kept.step hclaims).of_next t hstep, (slotsDistinct_kept.step hslots).of_next t hstep,
    (stackBounded_kept.step hstack).of_next t hstep, (pendingPlaced_kept.step hpending).of_next t hstep,
    (claimsSafe_kept.step hsafe).of_next t hstep, (urgencyCurrent_kept.step hurgency).of_next t hstep⟩

/-- A state that is a reset state, whatever the port and the queue hold, is sound. -/
theorem sound_of_reset (raw : InputLevels) : Sound (State.afterPinReset raw) := by
  have hholds : ∀ c ∈ allCauses, (Pst.reset.causes.get c).holdSpeed ≤ Config.maxSpeed := by decide
  have hspeed : SpeedSafe (State.afterPinReset raw) := .of_rest rfl hholds
  exact sound_iff.mpr ⟨hspeed, claimsDistinct_kept.reset raw _ _, slotsDistinct_kept.reset raw _ _,
    stackBounded_kept.reset raw _ _, pendingPlaced_kept.reset raw _ _, claimsSafe_kept.reset raw _ _,
    urgencyCurrent_kept.reset raw _ _⟩

/-- Settles O19. -/
theorem resetIsSound : Obligations.reset_is_sound := ⟨sound_of_reset _, sound_of_reset⟩

end Sys2Proof.Machine
end

section
/-! SUPPORT. What the rows leave alone: the queue and the timebase (R30), the Profile Store (R43), the reply
and the SPI side of the port (R168 to R171), the filtered inputs, the held samples, the peer entries and the
straps (R119 to R126, R157 to R163, R178). -/

namespace Sys2Proof.Machine

/-- What a row may spare from being left alone. -/
inductive Part where
  | reply | store | inputs | held | peer (k : Nat) | straps
deriving DecidableEq

/-- From `s` to `t` the queue, the timebase and the SPI side are as before, and of the rest every part that
`may` does not name. -/
structure Outside (may : Part → Bool) (s t : State) : Prop where
  core : t.pending = s.pending ∧ t.now = s.now ∧ t.micros = s.micros ∧ t.cpn.spi = s.cpn.spi
  reply : may .reply = false → t.cpn.reply = s.cpn.reply
  store : may .store = false → t.pst = s.pst
  inputs : may .inputs = false → t.spu.inputs = s.spu.inputs
  held : may .held = false → t.spu.feedback = s.spu.feedback ∧ t.spu.level = s.spu.level
  peers : ∀ j : Fin 8, may (.peer j.val) = false → t.pvu.peers[j] = s.pvu.peers[j]
  straps : may .straps = false → t.cpn.straps = s.cpn.straps ∧ t.cpn.strapDone = s.cpn.strapDone
    ∧ t.cpn.strapSampler = s.cpn.strapSampler

namespace Outside

variable {may : Part → Bool} {s t u : State}

theorem trans (h : Outside may s t) (k : Outside may t u) : Outside may s u where
  core := by
    obtain ⟨hp, hn, hm, hs⟩ := h.core
    obtain ⟨kp, kn, km, ks⟩ := k.core
    exact ⟨kp.trans hp, kn.trans hn, km.trans hm, ks.trans hs⟩
  reply hm := (k.reply hm).trans (h.reply hm)
  store hm := (k.store hm).trans (h.store hm)
  inputs hm := (k.inputs hm).trans (h.inputs hm)
  held hm := ⟨(k.held hm).1.trans (h.held hm).1, (k.held hm).2.trans (h.held hm).2⟩
  peers j hm := (k.peers j hm).trans (h.peers j hm)
  straps hm := by
    obtain ⟨hs, hd, hp⟩ := h.straps hm
    obtain ⟨ks, kd, kp⟩ := k.straps hm
    exact ⟨ks.trans hs, kd.trans hd, kp.trans hp⟩

/-- An operation that leaves every part alone. -/
theorem of_all (h : t.pending = s.pending ∧ t.now = s.now ∧ t.micros = s.micros ∧ t.cpn.spi = s.cpn.spi
    ∧ t.cpn.reply = s.cpn.reply ∧ t.pst = s.pst ∧ t.spu.inputs = s.spu.inputs
    ∧ t.spu.feedback = s.spu.feedback ∧ t.spu.level = s.spu.level ∧ t.pvu.peers = s.pvu.peers
    ∧ t.cpn.straps = s.cpn.straps ∧ t.cpn.strapDone = s.cpn.strapDone
    ∧ t.cpn.strapSampler = s.cpn.strapSampler) : Outside may s t := by
  obtain ⟨hp, hn, hm, hs, hr, hst, hi, hf, hl, hpe, h1, h2, h3⟩ := h
  exact ⟨⟨hp, hn, hm, hs⟩, fun _ => hr, fun _ => hst, fun _ => hi, fun _ => ⟨hf, hl⟩,
    fun j _ => by rw [hpe], fun _ => ⟨h1, h2, h3⟩⟩

theorem refl (may : Part → Bool) (s : State) : Outside may s s := of_all (by simp)

/-! ### Operations above the shared ones -/

theorem stamp (b : State) (h : Outside may s t) : Outside may s (stampFault b t) := by
  rw [stampFault_does]
  exact h.trans (of_all (by simp))

theorem taken {f : State → State} (h : Outside may s (f s)) : Outside may s (frameTaken f s) := by
  unfold frameTaken
  split
  · exact h
  · exact of_all (by simp)

theorem received (s : State) : Outside may s (receivePeer s) := by
  unfold receivePeer
  dsimp only
  split
  · exact of_all (by simp)
  · split <;> exact of_all (by simp)

theorem peer {k : Nat} (hk : may (.peer k) = true) (e : PeerEntry) (s : State) :
    Outside may s (setPeer k e s) := by
  refine ⟨⟨rfl, rfl, rfl, rfl⟩, fun _ => rfl, fun _ => rfl, fun _ => rfl, fun _ => ⟨rfl, rfl⟩, ?_,
    fun _ => ⟨rfl, rfl, rfl⟩⟩
  intro j hj
  have hne : k ≠ j.val := by
    rintro rfl
    rw [hk] at hj
    exact nomatch hj
  have hget := Vector.getElem_setIfInBounds (xs := s.pvu.peers) (i := k) (x := e) (j := j.val) j.isLt
  rw [if_neg hne] at hget
  exact hget

theorem removed (gone : ClaimEntry → Bool) (s : State) : Outside may s (removeClaims gone s) :=
  of_all (by simp [removeClaims])

theorem beaconHeld (k : Nat) (b : BeaconFields) (s : State) : Outside may s (beaconHolder k b s) := by
  unfold beaconHolder
  split
  · exact of_all (by simp)
  · split
    · exact of_all (by simp)
    · exact refl may s

theorem takesBeacon {k : Nat} (hk : may (.peer k) = true) (b : BeaconFields) (s : State) :
    Outside may s (takeBeacon k b s) := by
  have h1 : Outside may s (beaconHolder k b (takeBeaconEntry k b s)) :=
    ((peer hk _ s).trans (removed _ _)).trans (beaconHeld k b _)
  have h2 : ∀ u, Outside may u (drawBeacon k b u) := fun u => of_all (by simp [drawBeacon])
  unfold takeBeacon
  dsimp only
  split
  · exact (h1.trans (of_all (by simp))).trans (h2 _)
  · exact h1.trans (h2 _)

theorem takesRelease {k : Nat} (hk : may (.peer k) = true) (r : ReleaseReason) (s : State) :
    Outside may s (takeRelease k r s) := by
  have h1 := peer (may := may) hk { s.peer k with releaseReason := some r } s
  unfold takeRelease
  dsimp only
  split <;> exact h1.trans (of_all (by simp))

theorem takesClear (n : Nat) (s : State) : Outside may s (takeClear n s) := by
  unfold takeClear
  split
  · split <;> exact of_all (by simp)
  · exact refl may s

theorem leave (gone : ClaimEntry → Bool) (s : State) : Outside may s (claimsLeave gone s) := by
  unfold claimsLeave
  dsimp only
  split <;> exact (removed gone s).trans (of_all (by simp))

theorem lost {k : Nat} (hk : may (.peer k) = true) (s : State) : Outside may s (goLost k s) := by
  have h1 : ∀ u, Outside may u (loseHolder k u) := fun u => by
    unfold loseHolder
    split
    · exact of_all (by simp)
    · exact refl may u
  have h2 := (((peer hk { s.peer k with status := .lost } s).trans (removed (claimOf k) _)).trans (h1 _))
  unfold goLost
  dsimp only
  split <;> exact h2.trans (of_all (by simp))

theorem ended (body : FrameBody) (s : State) : Outside may s (takeOwn body s) := by
  cases body with
  | beacon f => exact of_all (by simp [takeOwn])
  | claim c =>
    unfold takeOwn drawSent startSent
    dsimp only
    split <;> split <;> exact of_all (by simp)
  | withdraw | release | clear => exact refl may s
  | eventBegin e => exact of_all (by simp [takeOwn])
  | eventReady e l => exact of_all (by simp [takeOwn])

theorem badFrame (s : State) : Outside may s (takeBadFrame s) := by
  unfold takeBadFrame
  dsimp only
  split
  · exact of_all (by simp)
  · split <;> exact of_all (by simp)

theorem listenEnds (s : State) : Outside may s (endListen s) := by
  unfold endListen
  dsimp only
  split <;> exact of_all (by simp)

theorem started (levels : List Bool) (s : State) : Outside may s (tryStart (readLevels levels s)) := by
  have h1 : Outside may s (readLevels levels s) := by
    unfold readLevels
    split
    · exact refl may s
    · exact of_all (by simp)
  have h2 : ∀ d u, Outside may u (startFrame d u) := fun d u => by
    unfold startFrame
    cases d <;> exact of_all (by simp)
  unfold tryStart
  split
  · exact h1.trans (h2 _ _)
  · exact h1

theorem aborted (t : Transmission) (s : State) : Outside may s (abortFrame t s) := by
  unfold abortFrame
  split <;> exact of_all (by simp)

theorem drawSettles (s : State) :
    Outside may s (firstPointTest (requestBeacon (countSettled (settleDraw s)))) := by
  unfold countSettled settleDraw
  split <;> exact of_all (by simp)

theorem startSettles (s : State) : Outside may s (settleStart s) := by
  unfold settleStart startWaits
  split <;> exact of_all (by simp)

theorem timeout (s : State) : Outside may s (tenureTimeout s) := by
  unfold tenureTimeout startTimeout
  split
  · exact of_all (by simp)
  · split <;> exact of_all (by simp)

theorem edge (i : Input) (rises : Bool) (s : State) : Outside may s (giveEdge i rises s) := by
  unfold giveEdge drvReadyRise
  dsimp only
  split
  · split <;> exact of_all (by simp)
  · split
    · split <;> exact of_all (by simp)
    · split <;> exact of_all (by simp)
  · split <;> exact of_all (by simp)
  · exact of_all (by simp)

/-- What leaves all but the filters alone. -/
theorem filters (hm : may .inputs = true) (p : Spu) (hp : p.feedback = s.spu.feedback ∧ p.level = s.spu.level) :
    Outside may s { s with spu := p } :=
  ⟨by simp, fun _ => rfl, fun _ => rfl, fun hf => by simp [hm] at hf, fun _ => hp, fun _ _ => rfl,
    fun _ => by simp⟩

theorem sampled (hm : may .inputs = true) (i : Input) (raw : Bool) (s : State) :
    Outside may s (sampleInput i raw s) := by
  have h1 : Outside may s { s with spu := { s.spu with inputs := inputSet s.spu.inputs i (s.sampledFilter i raw) } } :=
    filters hm _ (by simp)
  unfold sampleInput
  dsimp only
  split
  · exact h1
  · exact (h1.trans (edge i raw _)).stamp s

theorem answered (hm : may .reply = true) (code : Byte) (status : Status) (data : List Byte) (s : State) :
    Outside may s (answer code status data s) :=
  ⟨⟨rfl, rfl, rfl, rfl⟩, fun hf => by simp [hm] at hf, fun _ => rfl, fun _ => rfl, fun _ => ⟨rfl, rfl⟩,
    fun _ _ => rfl, fun _ => ⟨rfl, rfl, rfl⟩⟩

theorem samplesHeld (hm : may .held = true) (p : Spu) (hp : p.inputs = s.spu.inputs) :
    Outside may s { s with spu := p } :=
  ⟨by simp, fun _ => rfl, fun _ => rfl, fun _ => hp, fun hf => by simp [hm] at hf, fun _ _ => rfl,
    fun _ => by simp⟩

theorem given (s : State) : Outside may s (giveFeedback s) := by
  have h1 : ∀ u, Outside may u (tenureCreepTest u) := fun u => by
    unfold tenureCreepTest
    split <;> exact of_all (by simp)
  unfold giveFeedback
  split <;> exact (of_all (by simp)).trans (h1 _)

theorem record (hm : may .held = true) (bytes : List Byte) (ff : Bool) (s : State) :
    Outside may s (recordEnd bytes ff s) := by
  unfold recordEnd
  dsimp only
  split
  · exact of_all (by simp)
  · split
    · next f l _ =>
      have h1 : Outside may s { s with spu := ({ s.spu with search := none } : Spu).hold s.now f l } :=
        samplesHeld hm _ rfl
      exact h1.trans (given _)
    · exact of_all (by simp)

theorem stale (hm : may .held = true) (s : State) : Outside may s (goStale s) := by
  have h1 : ∀ mark, Outside may s { s with spu := { s.spu with
      feedback := { s.spu.feedback with fresh := false }
      level := { s.spu.level with fresh := false }, staleMark := mark } } := fun mark =>
    samplesHeld hm _ rfl
  unfold goStale
  dsimp only
  split
  · exact (h1 true).trans (of_all (by simp))
  · exact h1 _

end Outside

end Sys2Proof.Machine
end

section
/-! SUPPORT. The rows by what they leave alone: every row answers a next state (R182), leaves the queue, the
timebase and the SPI side alone, and changes of the rest what `Instr.may` names. -/

namespace Sys2Proof.Machine

/-! ### Completion -/

/-- The outcome is a next state. -/
def Completes (o : Host.Outcome State Fault Refusal) : Prop := ∃ t, o = .next t

theorem Completes.released {s : State} {o : Host.Outcome State Fault Refusal} (h : Completes o) :
    Completes (released s o) := by
  unfold Machine.released
  split
  · exact ⟨s, rfl⟩
  · exact h

theorem Completes.next (t : State) : Completes (.next t) := ⟨t, rfl⟩

theorem Completes.occur (f : State → State) (s : State) : Completes (occur f s) := ⟨_, rfl⟩

/-- Every row answers a next state (R182, R187). -/
theorem exec_completes (c : Instr) (s : State) : Completes (exec c s) := by
  cases c with
  | pinReset => exact .next _
  | loadStrand | loadCause | loadSlice | join =>
    refine .released ?_
    split
    · exact ⟨_, rfl⟩
    · split <;> exact ⟨_, rfl⟩
  | stop =>
    refine .released ?_
    split
    · split <;> exact ⟨_, rfl⟩
    · exact ⟨_, rfl⟩
  | cast | park | release | take | tundishBegin | tundishReady | getPeer | getReport
  | commandRecordRejected | transmissionAbort | ownFrameEnd =>
    refine .released ?_
    split <;> exact ⟨_, rfl⟩
  | _ => exact .released ⟨_, rfl⟩

/-! ### What each row may change -/

/-- The parts that a row may change; the two resets may change more. -/
def Instr.may (c : Instr) : Part → Bool
  | .reply =>
    match c with
    | .commandRecordRejected _ => true
    | _ => (hostCommand c).isSome
  | .store =>
    match c with
    | .loadStrand _ | .loadCause _ | .loadSlice _ | .join => true
    | _ => false
  | .inputs =>
    match c with
    | .inputFilterSample _ | .inputEdgeAccepted _ => true
    | _ => false
  | .held =>
    match c with
    | .sampleRecord _ _ | .samplesGoStale | .loadStrand _ => true
    | _ => false
  | .peer k =>
    match c with
    | .beaconReceived j _ | .releaseReceived j _ | .peerSuspect j | .peerLost j => decide (j = k)
    | _ => false
  | .straps =>
    match c with
    | .strapLatched _ => true
    | _ => false

/-- The row is one of the two resets. -/
def Instr.resets : Instr → Bool
  | .softReset _ | .pinReset _ => true
  | _ => false

namespace Outside

variable {may : Part → Bool} {s : State} {f : State → State} {c : Bool}

/-- A row with an occasion. -/
theorem row (h : Outside may s (f s)) : LeadsTo (Outside may s) (released s (occur (whenever c f) s)) := by
  refine .released (refl may s) (.next ?_)
  unfold whenever
  split
  · exact h.stamp s
  · exact (refl may s).stamp s

/-- A row that captures nothing. -/
theorem quietRow (h : Outside may s (f s)) :
    LeadsTo (Outside may s) (released s (.next (whenever c f s))) := by
  refine .released (refl may s) (.next ?_)
  unfold whenever
  split
  · exact h
  · exact refl may s

/-- A row of a line frame. -/
theorem frameRow (h : ∀ u, Outside may u (f u)) :
    LeadsTo (Outside may s) (released s (occur (whenever c (frameTaken fun s => f (receivePeer s))) s)) :=
  row (taken ((received s).trans (h _)))

/-- The reply of a host command to an effect. -/
theorem replied {t : State} (hm : may .reply = true) (code : Byte) (status : Status) (data : List Byte)
    (h : Outside may s t) : Outside may s (answer code status data t) :=
  h.trans (answered hm code status data t)

theorem occurs (hm : may .reply = true) (code : Byte) (data : List Byte) (h : Outside may s (f s)) :
    LeadsTo (Outside may s) (occur (fun s => answer code .ok data (f s)) s) :=
  .next ((replied hm code .ok data h).stamp s)

theorem joined (hm : may .store = true) (s : State) : Outside may s (joinLine s) := by
  have h1 : Outside may s s.atJoin :=
    ⟨⟨rfl, rfl, rfl, rfl⟩, fun _ => rfl, fun hf => by simp [hm] at hf, fun _ => rfl, fun _ => ⟨rfl, rfl⟩,
      fun _ _ => rfl, fun _ => ⟨rfl, rfl, rfl⟩⟩
  exact h1.trans (of_all (by simp [joinLine]))

theorem loaded (hm : may .store = true) (p : Pst) :
    Outside may s { s with pst := p } :=
  ⟨⟨rfl, rfl, rfl, rfl⟩, fun _ => rfl, fun hf => by simp [hm] at hf, fun _ => rfl, fun _ => ⟨rfl, rfl⟩,
    fun _ _ => rfl, fun _ => ⟨rfl, rfl, rfl⟩⟩

end Outside

/-- Every row but the resets leaves alone what `Instr.may` does not name. -/
theorem exec_outside (c : Instr) (hc : Instr.resets c = false) (s : State) :
    LeadsTo (Outside (Instr.may c) s) (exec c s) := by
  have stay : Outside (Instr.may c) s s := .refl _ s
  cases c with
  | softReset | pinReset => exact nomatch hc
  | nop | identify | getStatus | getClaims | getFault | clearFault =>
    exact .released stay (.next (.replied rfl _ _ _ (.of_all (by simp))))
  | loadStrand p =>
    refine .released stay ?_
    split
    · exact .next (.replied rfl _ _ _ stay)
    · split
      · next r _ =>
        refine .next (.replied rfl _ _ _ ?_)
        exact (Outside.loaded (s := s) rfl { s.pst with strand := r }).trans (.samplesHeld rfl _ rfl)
      · exact .next (.replied rfl _ _ _ stay)
  | loadCause p | loadSlice p =>
    refine .released stay ?_
    split
    · exact .next (.replied rfl _ _ _ stay)
    · split
      · exact .next (.replied rfl _ _ _ (.loaded rfl _))
      · exact .next (.replied rfl _ _ _ stay)
  | join =>
    refine .released stay ?_
    split
    · exact .next (.replied rfl _ _ _ stay)
    · split
      · exact .next (.replied rfl _ _ _ stay)
      · exact Outside.occurs rfl _ _ (.joined rfl s)
  | cast =>
    refine .released stay ?_
    split
    · exact .next (.replied rfl _ _ _ (.of_all (by simp [moveIdle])))
    · exact .next (.replied rfl _ _ _ stay)
  | park =>
    refine .released stay ?_
    split
    · exact .next (.replied rfl _ _ _ (.of_all (by simp [moveIdle])))
    · exact Outside.occurs rfl _ _ (.of_all (by simp))
    · exact Outside.occurs rfl _ _ (.of_all (by simp))
    all_goals exact .next (.replied rfl _ _ _ stay)
  | stop code =>
    refine .released stay ?_
    split
    · split
      · exact Outside.occurs rfl _ _ (.of_all (by simp))
      · exact .next (.replied rfl _ _ _ stay)
    · exact .next (.replied rfl _ _ _ stay)
  | release =>
    refine .released stay ?_
    split
    · exact Outside.occurs rfl _ _ (.of_all (by simp))
    · exact .next (.replied rfl _ _ _ stay)
  | take =>
    refine .released stay ?_
    split
    iterate 5 exact Outside.occurs rfl _ _ (.of_all (by simp))
    all_goals exact .next (.replied rfl _ _ _ stay)
  | tundishBegin | tundishReady =>
    refine .released stay ?_
    split
    · exact .next (.replied rfl _ _ _ (.of_all (by simp)))
    · exact .next (.replied rfl _ _ _ stay)
  | getPeer | getReport =>
    refine .released stay ?_
    split <;> exact .next (.replied rfl _ _ _ stay)
  | commandRecordRejected bytes =>
    refine .released stay ?_
    split
    · exact .next (.replied rfl _ _ _ stay)
    · exact .next stay
  | emptyFrame => exact .released stay (.next stay)
  | strapLatched pins =>
    refine Outside.quietRow ?_
    rw [sampleStraps_does]
    exact ⟨⟨rfl, rfl, rfl, rfl⟩, fun _ => rfl, fun _ => rfl, fun _ => rfl, fun _ => ⟨rfl, rfl⟩,
      fun _ _ => rfl, nofun⟩
  | inputEdgeAccepted edge => exact Outside.quietRow (.sampled rfl _ _ s)
  | sampleRecord bytes ff => exact Outside.row (.record rfl bytes ff s)
  | samplesGoStale => exact Outside.row (.stale rfl s)
  | referenceRecordStart | referenceRecordEnd => exact Outside.quietRow (.of_all (by simp))
  | rampTick | dwellEnd | levelHoldTimeout => exact Outside.row (.of_all (by simp))
  | freezeExpiry => exact Outside.row (.of_all (by simp [expireFreeze]))
  | marginTimerExpiry => exact Outside.row (.of_all (by simp))
  | handbackTimerExpiry => exact Outside.row (.of_all (by simp))
  | drawSettle => exact Outside.row (.drawSettles s)
  | startSettleExpiry => exact Outside.row (.startSettles s)
  | tenureTimerExpiry => exact Outside.row (.timeout s)
  | beaconTimerExpiry => exact Outside.quietRow (.of_all (by simp))
  | listenTimerExpiry => exact Outside.row (.listenEnds s)
  | silenceTimerExpiry => exact Outside.row (.of_all (by simp))
  | transmissionStart levels => exact .released stay (.next (.started levels s))
  | transmissionAbort =>
    refine .released stay ?_
    split
    · exact .next (.aborted _ s)
    · exact .next stay
  | ownFrameEnd =>
    refine .released stay ?_
    split
    · next t _ =>
      refine .next (.stamp _ ?_)
      exact (Outside.of_all (t := { s with lnc := { s.lnc.atFrameEnd with tx := none } }) (by simp)).trans
        (.ended _ _)
    · exact .next stay
  | beaconReceived k b => exact Outside.frameRow fun u => .takesBeacon (decide_eq_true rfl) b u
  | claimReceived k f =>
    exact Outside.row (.taken ((Outside.received s).trans (.of_all (by simp [enterClaim]))))
  | withdrawReceived k kind n => exact Outside.frameRow fun u => .leave _ u
  | releaseReceived k r => exact Outside.frameRow fun u => .takesRelease (decide_eq_true rfl) r u
  | clearReceived k n => exact Outside.frameRow fun u => .takesClear n u
  | eventBeginReceived k e => exact Outside.frameRow fun u => .of_all (by simp)
  | eventReadyReceived k e l => exact Outside.frameRow fun u => .of_all (by simp)
  | badFrameReceived bytes ff => exact Outside.row (.taken (.badFrame s))
  | duplicateStation kind => exact Outside.row (.taken (.of_all (by simp [enterBarred])))
  | peerSuspect k =>
    have h1 : Outside (Instr.may (.peerSuspect k)) s (setPeer k { s.peer k with status := .suspect } s) :=
      .peer (decide_eq_true rfl) _ s
    exact Outside.row (h1.trans (.of_all (by simp [goSuspect])))
  | peerLost k => exact Outside.row (.lost (decide_eq_true rfl) s)
  | claimLifetimeExpiry k kind => exact Outside.row (.leave _ s)
  | inputFilterSample raw =>
    refine .released stay (.next ?_)
    have h0 : Outside (Instr.may (.inputFilterSample raw)) s { s with spu := { s.spu with sampled := true } } :=
      .of_all (by simp)
    exact (((h0.trans (.sampled rfl _ _ _)).trans (.sampled rfl _ _ _)).trans (.sampled rfl _ _ _)).trans
      (.sampled rfl _ _ _)

/-! ### The answers of host commands (R170, R171) -/

/-- The reply carries `code`, and a refusal has changed the reply alone. -/
structure Answered (code : Byte) (s t : State) : Prop where
  code : t.cpn.reply.code = code
  status : t.cpn.reply.status = .ok ∨ t.cpn.reply.status = .refusedState
    ∨ t.cpn.reply.status = .refusedParam
  refused : t.cpn.reply.status ≠ .ok → t = { s with cpn := { s.cpn with reply := t.cpn.reply } }

namespace Answered

variable {s t u : State} {code : Byte} {data : List Byte}

theorem ok (h : u.cpn.reply = { status := .ok, code := code, data := data }) : Answered code s u :=
  ⟨by rw [h], .inl (by rw [h]), fun hn => absurd (by rw [h]) hn⟩

theorem answered : LeadsTo (Answered code s) (.next (answer code .ok data t)) := .next (ok rfl)

theorem occurred (f : State → State) :
    LeadsTo (Answered code s) (occur (fun s => answer code .ok data (f s)) s) :=
  .next (ok (data := data) (by rw [stampFault_does]; rfl))

theorem state : LeadsTo (Answered code s) (.next (answer code .refusedState data s)) :=
  .next ⟨rfl, .inr (.inl rfl), fun _ => rfl⟩

theorem param : LeadsTo (Answered code s) (.next (answer code .refusedParam data s)) :=
  .next ⟨rfl, .inr (.inr rfl), fun _ => rfl⟩

/-- With RST_N high the row's own outcome is looked at. -/
theorem high {o : Host.Outcome State Fault Refusal} (hr : s.rstLow = false)
    (ho : LeadsTo (Answered code s) o) : LeadsTo (Answered code s) (Machine.released s o) := by
  rw [Machine.released, if_neg (by simp [hr])]
  exact ho

end Answered

theorem exec_answered {c : Instr} {s : State} {code : Byte} {params : List Byte} (hr : s.rstLow = false)
    (hc : Instr.resets c = false) (hcode : hostCommand c = some (code, params)) :
    LeadsTo (Answered code s) (exec c s) := by
  cases c with
  | softReset => exact nomatch hc
  | nop | identify | getStatus | getClaims | getFault | clearFault =>
    cases hcode
    exact Answered.high hr Answered.answered
  | loadStrand | loadCause | loadSlice =>
    cases hcode
    refine Answered.high hr ?_
    split
    · exact Answered.state
    · split
      · exact Answered.answered
      · exact Answered.param
  | join =>
    cases hcode
    refine Answered.high hr ?_
    split
    · exact Answered.state
    · split
      · exact Answered.param
      · exact Answered.occurred _
  | cast | tundishBegin | tundishReady =>
    cases hcode
    refine Answered.high hr ?_
    split
    · exact Answered.answered
    · exact Answered.state
  | park =>
    cases hcode
    refine Answered.high hr ?_
    split
    · exact Answered.answered
    · exact Answered.occurred _
    · exact Answered.occurred _
    all_goals exact Answered.state
  | stop =>
    cases hcode
    refine Answered.high hr ?_
    split
    · split
      · exact Answered.occurred _
      · exact Answered.param
    · exact Answered.state
  | release =>
    cases hcode
    refine Answered.high hr ?_
    split
    · exact Answered.occurred _
    · exact Answered.state
  | take =>
    cases hcode
    refine Answered.high hr ?_
    split
    iterate 5 exact Answered.occurred _
    all_goals exact Answered.state
  | getPeer | getReport =>
    cases hcode
    refine Answered.high hr ?_
    split
    · exact Answered.answered
    · exact Answered.param
  | _ => exact nomatch hcode

/-! ### The obligations -/

/-- Settles O1. -/
theorem stepTakesTheFrontCommand : Obligations.step_takes_the_front_command := fun _ _ _ => rfl

/-- Settles O3: no row touches the queue, and the resets alone start the timebase again. -/
theorem everyCommandCompletes : Obligations.every_command_completes := by
  intro c s
  obtain ⟨t, hx⟩ := exec_completes c s
  refine ⟨t, hx, ?_⟩
  cases hc : Instr.resets c with
  | false =>
    obtain ⟨hp, hn, hm, -⟩ := ((exec_outside c hc s).of_next t hx).core
    refine ⟨hp, ?_⟩
    cases c with
    | softReset | pinReset => exact nomatch hc
    | _ => exact ⟨hn, hm⟩
  | true =>
    cases c with
    | pinReset raw =>
      cases hx
      exact ⟨rfl, rfl, rfl, rfl⟩
    | softReset raw =>
      have hrow : exec (.softReset raw) s = Machine.released s _ := rfl
      rw [hrow, Machine.released] at hx
      dsimp only
      split at hx
      · next hlow =>
        cases hx
        exact ⟨rfl, by rw [if_pos hlow]⟩
      · next hlow =>
        cases hx
        exact ⟨rfl, by rw [if_neg hlow]; exact ⟨rfl, rfl, rfl⟩⟩
    | _ => exact nomatch hc

/-- After JOIN a load or a JOIN is refused (R43, R176). -/
theorem refused_after_join {s : State} {code : Byte} {o : Host.Outcome State Fault Refusal}
    (hs : s.rsq.state ≠ .unjoined) :
    LeadsTo (fun t => t.pst = s.pst) (Machine.released s
      (if s.rsq.state ≠ .unjoined then .next (answer code .refusedState [] s) else o)) := by
  rw [if_pos hs]
  exact .released rfl (.next rfl)

/-- Settles O20: the loads and JOIN act in UNJOINED alone. -/
theorem tablesChangeOnlyBeforeJoin : Obligations.tables_change_only_before_join := by
  intro c s t hx
  cases hc : Instr.resets c with
  | true =>
    cases c with
    | softReset | pinReset => exact ⟨fun _ => trivial, trivial⟩
    | _ => exact nomatch hc
  | false =>
    have hstore := ((exec_outside c hc s).of_next t hx).store
    cases c with
    | softReset | pinReset => exact nomatch hc
    | loadStrand | loadCause | loadSlice | join =>
      exact ⟨fun hs => (refused_after_join hs).of_next t hx, trivial⟩
    | _ => exact ⟨fun _ => hstore rfl, hstore rfl⟩

/-- The SPI side and, where the row is no host command, the reply are left alone. -/
theorem resets_spi {raw : InputLevels} {s t : State} (hx : exec (.softReset raw) s = .next t) :
    t.cpn.spi = s.cpn.spi := by
  have row : LeadsTo (fun t => t.cpn.spi = s.cpn.spi) (exec (.softReset raw) s) :=
    .released rfl (.next rfl)
  exact row.of_next t hx

/-- Settles O24. -/
theorem repliesEchoAndRefusalsChangeNothing :
    Obligations.replies_echo_and_refusals_change_nothing := by
  intro c s t hx
  refine ⟨fun code params hr hne hcode => ?_, ?_⟩
  · have hc : Instr.resets c = false := by
      cases c with
      | softReset raw => exact absurd rfl (hne raw)
      | pinReset => exact nomatch hcode
      | _ => rfl
    obtain ⟨hreply, hstatus, hrefused⟩ := (exec_answered hr hc hcode).of_next t hx
    exact ⟨hreply, hstatus, hrefused⟩
  · cases hc : Instr.resets c with
    | true =>
      cases c with
      | softReset => exact ⟨fun hn => (nomatch hn), resets_spi hx⟩
      | pinReset => exact ⟨fun _ => trivial, trivial⟩
      | _ => exact nomatch hc
    | false =>
      obtain ⟨⟨-, -, -, hspi⟩, hreply, -⟩ := (exec_outside c hc s).of_next t hx
      cases c with
      | softReset | pinReset => exact nomatch hc
      | commandRecordRejected => exact ⟨fun _ => trivial, hspi⟩
      | _ => first | exact ⟨fun _ => hreply rfl, hspi⟩ | exact ⟨fun hn => (nomatch hn), hspi⟩

/-- Settles O25. -/
theorem inputsAndSamplesChangeOnlyAtThePort :
    Obligations.inputs_and_samples_change_only_at_the_port := by
  intro c s t hx
  cases hc : Instr.resets c with
  | true =>
    cases c with
    | softReset | pinReset => trivial
    | _ => exact nomatch hc
  | false =>
    obtain ⟨-, -, -, hinputs, hheld, hpeers, hstraps⟩ := (exec_outside c hc s).of_next t hx
    have hall : (∀ k, Instr.may c (.peer k) = false) → t.pvu.peers = s.pvu.peers := fun hk =>
      Vector.ext fun i hi => hpeers ⟨i, hi⟩ (hk i)
    cases c with
    | softReset | pinReset => exact nomatch hc
    | inputFilterSample | inputEdgeAccepted =>
      exact ⟨trivial, hheld rfl, hall fun _ => rfl, hstraps rfl⟩
    | sampleRecord | samplesGoStale | loadStrand =>
      exact ⟨hinputs rfl, trivial, hall fun _ => rfl, hstraps rfl⟩
    | beaconReceived | releaseReceived | peerSuspect | peerLost =>
      exact ⟨hinputs rfl, hheld rfl, fun j hj => hpeers j (decide_eq_false (Ne.symm hj)), hstraps rfl⟩
    | strapLatched pins =>
      refine ⟨hinputs rfl, hheld rfl, hall fun _ => rfl, fun hdone => ?_⟩
      have row : LeadsTo (fun t => t = s) (exec (.strapLatched pins) s) :=
        .released rfl (.next (by simp [whenever, hdone]))
      exact row.of_next t hx
    | _ => exact ⟨hinputs rfl, hheld rfl, hall fun _ => rfl, hstraps rfl⟩

/-! ### The empty queue (R30, R137) -/

/-- With RST_N low no row but PIN_RESET changes anything. -/
theorem exec_low {c : Instr} {s : State} (hlow : s.rstLow = true) (hc : ∀ raw, c ≠ .pinReset raw) :
    exec c s = .next s := by
  have hreleased : ∀ o, Machine.released s o = .next s := fun o => if_pos hlow
  cases c with
  | pinReset raw => exact absurd rfl (hc raw)
  | _ => exact hreleased _

/-- The station has no reset among its own events. -/
theorem firstDue_ne_pinReset {s : State} {c : Instr} (h : s.firstDue = some c) (raw : InputLevels) :
    c ≠ .pinReset raw := by
  obtain ⟨⟨due, c'⟩, hfind, rfl⟩ := Option.map_eq_some_iff.mp h
  have hmem := List.mem_of_find?_eq_some hfind
  rintro hraw
  simp only at hraw
  subst hraw
  simp [State.ownEvents, State.lapses, stations] at hmem

theorem Transmission.bitSent_eq (t : Transmission) : t.bitSent =
    if t.sent < (frameBits t.frame.bytes).length then { t with sent := t.sent + 1 } else t := by
  unfold Transmission.bitSent
  by_cases h : t.sent < (frameBits t.frame.bytes).length
  · have hsending : t.sending = true := decide_eq_true h
    rw [if_pos h, if_pos hsending]
  · have hsent : t.sending = false := decide_eq_false h
    rw [if_neg h, hsent, if_neg Bool.false_ne_true]

/-- The idle time of SRX counts while the sample receiver searches (R156, R160; entry 43). -/
theorem Spu.srxIdle_eq (micros : Nat) (p : Spu) : p.srxIdle micros = { p with
    search := p.search.bind fun q =>
      if 80 * 10000 ≤ (q + micros) * 2304 then none else some (q + micros) } := by
  have hsearched : ∀ n, recordSearched Config.sampleLength n = decide (80 * 10000 ≤ n * 2304) := fun _ => rfl
  simp only [Spu.srxIdle, hsearched, decide_eq_true_eq]

/-- Settles O2. -/
theorem stepOnEmptyQueue : Obligations.step_on_empty_queue := by
  intro s hs
  have hdue : ∀ c, s.firstDue = some c → step s = exec c s := fun c hc => by
    simp [step, hs, hc]
  have hidle : s.firstDue = none → step s = .next (advance s) := fun hd => by
    simp [step, hs, hd]
  have hbit : lineBit s = { s.lnc.readBit s.ltx with
      tx := s.lnc.tx.map fun t =>
        if t.sent < (frameBits t.frame.bytes).length then { t with sent := t.sent + 1 } else t } := by
    rw [lineBit, funext Transmission.bitSent_eq]
  refine ⟨fun hlow => ?_, hdue, fun hr hd => ⟨fun hm => ?_, fun hm => ?_⟩⟩
  · cases hd : s.firstDue with
    | some c => rw [hdue c hd, exec_low hlow (firstDue_ne_pinReset hd)]
    | none => rw [hidle hd, advance, if_pos hlow]
  · rw [hidle hd, advance, if_neg (by simp [hr])]
    dsimp only
    rw [if_neg (by simpa [State.bitTime] using hm), hbit, Spu.srxIdle_eq]
    rfl
  · rw [hidle hd, advance, if_neg (by simp [hr])]
    dsimp only
    rw [if_pos (by simpa [State.bitTime] using hm), hbit, Spu.srxIdle_eq]
    rfl

end Sys2Proof.Machine
end

section
/-! SUPPORT. Durations, moments, epochs, rank and sample records (R29, R30, R40, R81, R129, R160). -/

namespace Sys2Proof.Machine

/-! ### Durations and moments (R29, R30) -/

theorem ageAt_later (t : Moment) {n : Nat} (h : n < 2 ^ 32) : ageAt (later t n) t = n := by
  have e : later t n - t = BitVec.ofNat 32 n := by
    unfold later
    bv_omega
  rw [ageAt, e, BitVec.toNat_ofNat, Nat.mod_eq_of_lt h]

theorem timeLeft_later (t : Moment) {n : Nat} (h : n < 2 ^ 31) : timeLeft t (later t n) = n := by
  have e : later t n - t = BitVec.ofNat 32 n := by
    unfold later
    bv_omega
  rw [timeLeft, ahead, e, BitVec.toInt_eq_toNat_cond, BitVec.toNat_ofNat]
  split <;> omega

theorem timeLeft_passed (t : Moment) {n : Nat} (h : n < 2 ^ 31) : timeLeft (later t n) t = 0 := by
  have e : t - later t n = BitVec.ofNat 32 (2 ^ 32 - n) := by
    unfold later
    bv_omega
  rw [timeLeft, ahead, e, BitVec.toInt_eq_toNat_cond, BitVec.toNat_ofNat]
  split <;> omega

/-- The ranges of the duration code and the times they stand for (R29). -/
theorem durationMs_ranges {c m : Nat} (h : durationMs c = some m) (hc : c ≤ 255) :
    (1 ≤ c ∧ c ≤ 120 ∧ m = c * 250) ∨ (121 ≤ c ∧ c ≤ 240 ∧ m = 30000 + (c - 120) * 1000)
      ∨ (241 ≤ c ∧ c ≤ 254 ∧ m = 150000 + (c - 240) * 30000) ∨ (c = 255 ∧ m = 900000) := by
  unfold durationMs at h
  split at h
  · exact nomatch h
  · split at h
    · have hm := Option.some.inj h
      omega
    · split at h
      · have hm := Option.some.inj h
        omega
      · split at h
        · have hm := Option.some.inj h
          omega
        · have hm := Option.some.inj h
          omega

/-- Of two durations the one of the greater code is the longer. -/
theorem durationMs_lt_iff {c d m n : Nat} (hc : c ≤ 255) (hd : d ≤ 255) (hm : durationMs c = some m)
    (hn : durationMs d = some n) : c < d ↔ m < n := by
  have h1 := durationMs_ranges hm hc
  have h2 := durationMs_ranges hn hd
  omega

/-- Settles O7. -/
theorem durationCodesDecode : Obligations.duration_codes_decode := by
  refine ⟨rfl, fun c h1 h2 => ?_, fun c h1 h2 => ?_, fun c h1 h2 => ?_, rfl,
    fun c d m n hc hd hm hn => durationMs_lt_iff hc hd hm hn, fun t n h => ageAt_later t h, fun t n h => ?_⟩
  · rw [durationMs, if_neg (by omega), if_pos h2]
  · rw [durationMs, if_neg (by omega), if_neg (by omega), if_pos h2]
  · rw [durationMs, if_neg (by omega), if_neg (by omega), if_neg (by omega), if_pos h2]
  · refine ⟨timeLeft_later t h, timeLeft_passed t h, (reached_iff _ _).mpr (timeLeft_passed t h), ?_⟩
    intro hn
    rw [reached, timeLeft_later t h]
    exact decide_eq_false (by omega)

/-! ### Epochs (R81) -/

/-- Settles O9. -/
theorem epochsCompareModulo256 : Obligations.epochs_compare_modulo_256 := by
  intro e c he hc
  simp only [newerEpoch, decide_eq_true_eq, decide_eq_false_iff_not]
  refine ⟨⟨fun h => ⟨(e + 256 - c % 256) % 256, h.1, h.2, by omega⟩, ?_⟩, by omega, by omega, by omega⟩
  rintro ⟨d, h1, h2, rfl⟩
  omega

/-! ### Rank (R40, R129) -/

/-- The deadline remaining as a number, an absent one above all others (R40). -/
def remainingKey (now : Moment) (d : Option Moment) : WithTop Nat := d.map (timeLeft now)

theorem lessRemaining_iff (now : Moment) (a b : Option Moment) :
    lessRemaining now a b = true ↔ remainingKey now a < remainingKey now b := by
  cases a with
  | none =>
    have htop : remainingKey now none = ⊤ := rfl
    simp [lessRemaining, htop]
  | some a =>
    have ha : remainingKey now (some a) = ((timeLeft now a : Nat) : WithTop Nat) := rfl
    cases b with
    | none =>
      have htop : remainingKey now none = ⊤ := rfl
      simp [lessRemaining, htop, ha]
    | some b =>
      have hb : remainingKey now (some b) = ((timeLeft now b : Nat) : WithTop Nat) := rfl
      simp [lessRemaining, ha, hb]

/-- The place of a claim in the rank order: urgency first, then the deadline remaining, then the station
(R40). -/
def State.rankKey (s : State) (e : ClaimEntry) : Natᵒᵈ ×ₗ WithTop Nat ×ₗ Nat :=
  toLex (OrderDual.toDual (s.entryUrgency e), toLex (remainingKey s.now (s.entryDeadline e), e.station))

theorem State.outranks_iff (s : State) (a b : ClaimEntry) :
    s.outranks a b = true ↔ s.rankKey a < s.rankKey b := by
  unfold State.rankKey State.outranks
  rw [Prod.Lex.toLex_lt_toLex, Prod.Lex.toLex_lt_toLex]
  simp only [OrderDual.toDual_lt_toDual, OrderDual.toDual_inj, ← lessRemaining_iff]
  split
  · next hne => simp [hne]
  · next heq =>
    have hu := not_not.mp heq
    split
    · next hless => simp [hu, hless]
    · next hless =>
      have hge : ¬ remainingKey s.now (s.entryDeadline a) < remainingKey s.now (s.entryDeadline b) := by
        rw [← lessRemaining_iff]
        exact hless
      split
      · next hmore =>
        have hlt := (lessRemaining_iff ..).mp hmore
        simp [hu, hless, hlt.ne']
      · next hmore =>
        have hle : ¬ remainingKey s.now (s.entryDeadline b) < remainingKey s.now (s.entryDeadline a) := by
          rw [← lessRemaining_iff]
          exact hmore
        simp [hu, hless, le_antisymm (not_lt.mp hle) (not_lt.mp hge)]

theorem State.outranks_eq_false_iff (s : State) (a b : ClaimEntry) :
    s.outranks a b = false ↔ s.rankKey b ≤ s.rankKey a := by
  rw [← not_lt, ← State.outranks_iff, Bool.not_eq_true]

/-- The list with one more claim put in its place. -/
theorem State.placed_perm (s : State) (e : ClaimEntry) (l : List ClaimEntry) :
    (l.takeWhile (s.listedBefore · e) ++ e :: l.dropWhile (s.listedBefore · e)).Perm (e :: l) := by
  have h := List.takeWhile_append_dropWhile (p := (s.listedBefore · e)) (l := l)
  exact List.perm_middle.trans (by rw [h])

/-- A claim listed before another is not outranked by it. -/
theorem State.le_of_listedBefore {s : State} {a b : ClaimEntry} (h : s.listedBefore a b = true) :
    s.rankKey a ≤ s.rankKey b := by
  unfold State.listedBefore at h
  rw [Bool.or_eq_true, Bool.and_eq_true, Bool.not_eq_true'] at h
  rcases h with h | ⟨h, -⟩
  · exact ((s.outranks_iff a b).mp h).le
  · exact (s.outranks_eq_false_iff b a).mp h

theorem State.le_of_not_listedBefore {s : State} {a b : ClaimEntry} (h : s.listedBefore a b = false) :
    s.rankKey b ≤ s.rankKey a := by
  unfold State.listedBefore at h
  rw [Bool.or_eq_false_iff] at h
  exact (s.outranks_eq_false_iff a b).mp h.1

/-- A claim put in its place leaves a ranked list ranked. -/
theorem State.placed_ranked (s : State) (e : ClaimEntry) {l : List ClaimEntry}
    (h : l.Pairwise fun a b => s.rankKey a ≤ s.rankKey b) :
    (l.takeWhile (s.listedBefore · e) ++ e :: l.dropWhile (s.listedBefore · e)).Pairwise
      fun a b => s.rankKey a ≤ s.rankKey b := by
  induction l with
  | nil => simp
  | cons a l ih =>
    obtain ⟨ha, hl⟩ := List.pairwise_cons.mp h
    cases hb : s.listedBefore a e with
    | true =>
      rw [List.takeWhile_cons_of_pos (p := (s.listedBefore · e)) hb,
        List.dropWhile_cons_of_pos (p := (s.listedBefore · e)) hb, List.cons_append,
        List.pairwise_cons]
      refine ⟨fun b hmem => ?_, ih hl⟩
      rcases List.mem_cons.mp ((s.placed_perm e l).mem_iff.mp hmem) with rfl | hin
      · exact State.le_of_listedBefore hb
      · exact ha b hin
    | false =>
      rw [List.takeWhile_cons_of_neg (p := (s.listedBefore · e)) (by simp [hb]),
        List.dropWhile_cons_of_neg (p := (s.listedBefore · e)) (by simp [hb]),
        List.nil_append, List.pairwise_cons]
      have hea := State.le_of_not_listedBefore hb
      refine ⟨fun b hmem => ?_, h⟩
      rcases List.mem_cons.mp hmem with rfl | hin
      · exact hea
      · exact hea.trans (ha b hin)

theorem State.rankedClaims_perm (s : State) : s.rankedClaims.Perm s.pvu.claims := by
  unfold State.rankedClaims
  induction s.pvu.claims with
  | nil => exact .refl _
  | cons e l ih => exact (s.placed_perm e _).trans (ih.cons e)

theorem State.rankedClaims_ranked (s : State) :
    s.rankedClaims.Pairwise fun a b => s.rankKey a ≤ s.rankKey b := by
  unfold State.rankedClaims
  induction s.pvu.claims with
  | nil => exact .nil
  | cons e l ih => exact s.placed_ranked e ih

/-- Settles O10: rank is the order of the keys. -/
theorem rankIsATotalOrderInAKind : Obligations.rank_is_a_total_order_in_a_kind := by
  intro s
  refine ⟨fun a => ?_, fun a b hab => ?_, fun a b c hab hbc => ?_, s.rankedClaims_perm, ?_⟩
  · exact (s.outranks_eq_false_iff a a).mpr le_rfl
  · have hne : s.rankKey a ≠ s.rankKey b := fun h => hab (congrArg (fun k => (ofLex (ofLex k).2).2) h)
    rcases lt_or_gt_of_ne hne with h | h
    · rw [(s.outranks_iff a b).mpr h, (s.outranks_eq_false_iff b a).mpr h.le]
      rfl
    · rw [(s.outranks_iff b a).mpr h, (s.outranks_eq_false_iff a b).mpr h.le]
      rfl
  · exact (s.outranks_iff a c).mpr (((s.outranks_iff a b).mp hab).trans ((s.outranks_iff b c).mp hbc))
  · exact s.rankedClaims_ranked.imp fun h => (s.outranks_eq_false_iff _ _).mpr h

/-! ### Sample records (R160) -/

@[simp] theorem byte_toNat (n : Nat) : (byte n).toNat = n % 256 := BitVec.toNat_ofNat n 8

theorem value16_lt (h l : Byte) : value16 h l < 65536 := by
  have hh := h.isLt
  have hl := l.isLt
  unfold value16
  omega

theorem byte_value16_high (h l : Byte) : byte (value16 h l / 256) = h := by
  have hh := h.isLt
  have hl := l.isLt
  apply BitVec.eq_of_toNat_eq
  rw [byte_toNat, value16]
  omega

theorem byte_value16_low (h l : Byte) : byte (value16 h l) = l := by
  have hh := h.isLt
  have hl := l.isLt
  apply BitVec.eq_of_toNat_eq
  rw [byte_toNat, value16]
  omega

/-- Two bytes carry a 16-bit number. -/
theorem value16_bytes {n : Nat} (h : n < 65536) : value16 (byte (n / 256)) (byte n) = n := by
  rw [value16, byte_toNat, byte_toNat]
  omega

/-- Settles O6. -/
theorem sampleRecordIsReadExactly : Obligations.sample_record_is_read_exactly := by
  intro bytes fault f level
  constructor
  · intro h
    unfold readSample at h
    split at h
    · next kind fh fl lh ll check =>
      split at h
      · next hc =>
        obtain ⟨hfault, rfl, rfl⟩ := hc
        simp only [Option.some.injEq, Prod.mk.injEq] at h
        obtain ⟨rfl, rfl⟩ := h
        simp only [byte_value16_high, byte_value16_low]
        exact ⟨value16_lt _ _, value16_lt _ _, hfault, trivial⟩
      · exact nomatch h
    · exact nomatch h
  · rintro ⟨hf, hl, rfl, rfl⟩
    simp only [readSample, and_self, if_true, value16_bytes hf, value16_bytes hl]

end Sys2Proof.Machine
end

section
/-! SUPPORT. The rows of the command port that only answer: the queries, GET_STATUS, GET_PEER and
GET_REPORT (R134, R135, R177, R178, R182, R185), and the commands that need their state (R26, R87, R172). -/

namespace Sys2Proof.Machine

/-! ### The queries -/

/-- Settles O26. -/
theorem queriesOnlyAnswer : Obligations.queries_only_answer := by
  refine ⟨fun s h => released_high _ h, fun s h => released_high _ h, fun s h => ?_, fun s e => ?_,
    fun s h => released_high _ h, fun f => ⟨rfl, rfl⟩, by decide, fun s h => released_high _ h⟩
  · rw [← s.rankedClaims_perm.length_eq]
    exact released_high _ h
  · obtain ⟨station, kind, number, amount, origin⟩ := e
    cases origin with
    | peer urgency deadline lifetime => exact ⟨rfl, rfl, rfl, rfl⟩
    | own status => cases status <;> exact ⟨rfl, rfl, rfl, rfl⟩

/-- Settles O27. -/
theorem getStatusReturnsStatusAndClearsEvents : Obligations.get_status_returns_status_and_clears_events :=
  fun _ h => released_high _ h

/-! ### GET_PEER and GET_REPORT -/

theorem State.peerBytes_present {s : State} {k : Nat} (h : (s.peer k).status ≠ .absent) :
    (s.peer k).shown = s.peer k := if_neg h

/-- Settles O28. -/
theorem getPeerAndGetReportTakeAnIndex : Obligations.get_peer_and_get_report_take_an_index := by
  refine ⟨fun k s hr hk => ?_, fun s k => ⟨rfl, fun h => ?_⟩, by decide, fun s k h hb => ?_,
    fun k s hr hk => ?_, fun k s hr => ?_, fun r => ⟨rfl, rfl⟩, fun k s hr hk => ?_⟩
  · exact (released_high _ hr).trans (if_pos hk)
  · simp only [State.peerBytes, State.peerBytes_present h]
    rfl
  · have hs : (s.peer k).shown = { PeerEntry.reset with releaseReason := (s.peer k).releaseReason } :=
      if_pos h
    have ha : bytes16 (s.ageField { PeerEntry.reset with releaseReason := (s.peer k).releaseReason })
        = [0xFF, 0xFF] := by
      show bytes16 65535 = _
      decide
    have hd : bytes16 (s.remainingField PeerEntry.reset.deadline) = [0xFF, 0xFF] := by
      show bytes16 65535 = _
      decide
    simp only [State.peerBytes, hs, ha, hd]
    rfl
  · exact (released_high _ hr).trans (if_neg (by omega))
  · have hk : s.cpn.ring[(byte k.val).toNat]? = some s.cpn.ring[k] := by
      fin_cases k <;> rfl
    refine (released_high _ hr).trans ?_
    rw [hk]
    rfl
  · have hn : s.cpn.ring[k.toNat]? = none := Vector.getElem?_eq_none (by omega)
    refine (released_high _ hr).trans ?_
    rw [hn]
    rfl

/-! ### Commands that need their state -/

/-- A beacon asked for twice is asked for once (R146). -/
@[simp] theorem Lnc.requestBeacon_requestBeacon (l : Lnc) : l.requestBeacon.requestBeacon = l.requestBeacon := by
  unfold Lnc.requestBeacon
  split
  · simp
  · rfl

/-- Without an own claim to send again, or short of a rise to 3, the urgency becomes the one called for and
a change asks for a beacon (R37). -/
theorem refreshUrgency_eq {s : State}
    (h : s.computeUrgency ≠ 3 ∨ (s.dbu.claim = .none ∧ s.ssu.claim = .none)) :
    refreshUrgency s = { s with
      rsq := { s.rsq with urgency := s.computeUrgency }
      lnc := if s.computeUrgency = s.rsq.urgency then s.lnc else s.lnc.requestBeacon } := by
  unfold refreshUrgency
  split
  · next hu => rw [hu]
  · next hu =>
    dsimp only
    split
    · next h3 =>
      obtain ⟨hd, hs⟩ := h.resolve_left (not_not_intro h3)
      simp [resendDraw, resendStart, hd, hs, requestBeacon]
    · rfl

theorem moveIdle_eq {s : State} {q : SeqState} (h : q = .watch ∨ q = .parked) :
    moveIdle q s = { s with
      rsq := { s.rsq with state := q, urgency := 0 }, lnc := s.lnc.requestBeacon } := by
  have hu : (requestBeacon { s with rsq := { s.rsq with state := q } }).computeUrgency = 0 := by
    rcases h with rfl | rfl <;> rfl
  unfold moveIdle
  rw [refreshUrgency_eq (.inl (by rw [hu]; decide)), hu]
  simp [requestBeacon]

/-- Settles O34. -/
theorem loadsAndCastNeedTheirState : Obligations.loads_and_cast_need_their_state := by
  refine ⟨fun s hr h => ?_, fun s hr h => (released_high _ hr).trans (if_neg h), fun s hr h => ?_,
    fun p s hr h => (released_high _ hr).trans (if_pos h),
    fun p s hr h => (released_high _ hr).trans (if_pos h),
    fun p s hr h => (released_high _ hr).trans (if_pos h), fun s hr hw hs ha => ?_⟩
  · refine ((released_high _ hr).trans (if_pos h)).trans ?_
    rw [moveIdle_eq (.inl rfl)]
    rfl
  · refine (released_high _ hr).trans ?_
    rw [h, moveIdle_eq (.inr rfl)]
    rfl
  · refine (released_high _ hr).trans ?_
    split <;> first | contradiction | rfl

theorem Lnc.queueFrame_active {l : Lnc} (h : l.line = .active) {f : QueuedFrame}
    (hf : ∀ k n, f ≠ .withdraw k n) : l.queueFrame f = { l with queue := putFrame f l.queue } := by
  unfold Lnc.queueFrame
  rw [h]
  cases f <;> first | rfl | exact absurd rfl (hf _ _)

/-- Settles O40. -/
theorem tundishCommandsQueueTheirEvent : Obligations.tundish_commands_queue_their_event := by
  refine ⟨fun s hr h => ?_, fun s hr h => (released_high _ hr).trans (if_neg h),
    fun l s hr h hp => ?_, fun l s hr h => ?_⟩
  · refine ((released_high _ hr).trans (if_pos h)).trans ?_
    rw [queueFrame, Lnc.queueFrame_active h (by simp)]
    rfl
  · refine ((released_high _ hr).trans (if_pos ⟨h, hp⟩)).trans ?_
    rw [queueFrame, Lnc.queueFrame_active h (by simp)]
    rfl
  · refine (released_high _ hr).trans (if_neg ?_)
    rintro ⟨ha, hp⟩
    rcases h with h | h
    · exact h ha
    · rw [h] at hp
      exact nomatch hp

/-! ### Resets and rejected records -/

/-- With RST_N low SCLK and SDI are ignored (R168). -/
theorem clockIn_inert {s : State} (h : s.rstLow = true) (bits : List Bool) : clockIn bits s = s := by
  have hb (bit : Bool) : sclkFall (sclkRise bit s) = s := by simp [sclkRise, sclkFall, h]
  induction bits with
  | nil => rfl
  | cons bit bits ih => exact (congrArg (clockIn bits) (hb bit)).trans ih

/-- Settles O41. -/
theorem resetsReturnEveryBlock : Obligations.resets_return_every_block := by
  refine ⟨fun _ _ => rfl, fun s raw hr => released_high _ hr, fun c s hr hc => exec_low hr hc,
    fun s => ⟨rfl, rfl, rfl, rfl, rfl⟩, fun s raw bits hr => ?_, by decide, fun pins s hr => ?_⟩
  · exact ⟨State.sdo_inert hr, clockIn_inert hr bits, csFall_pending s, csRise_inert raw hr⟩
  · refine (released_high _ hr).trans ?_
    cases hd : s.cpn.strapDone
    · simp only [Bool.not_false, whenever_true, sampleStraps, Bool.false_eq_true, if_false]
    · simp only [Bool.not_true, whenever_false, if_true]

theorem paramLength_isSome_iff (code : Byte) : (paramLength code).isSome = true ↔
    code ∈ ([0x01, 0x02, 0x10, 0x11, 0x12, 0x13, 0x20, 0x21, 0x22, 0x23, 0x24, 0x28, 0x29,
      0x30, 0x31, 0x32, 0x33, 0x34, 0x35, 0x3F] : List Byte) := by
  revert code
  decide

theorem recordFailure_short {code : Byte} {rest : List Byte}
    (h : rest.length < 2 ∨ rest.length < (rest.headD 0).toNat + 2) :
    recordFailure (code :: rest) = some .badLength := by
  match rest, h with
  | [], _ => rfl
  | [_], _ => rfl
  | len :: x :: rest, h =>
    refine if_pos ?_
    simp only [List.length_cons, List.headD_cons] at h ⊢
    omega

theorem recordFailure_long {code : Byte} {rest : List Byte}
    (h : ¬ (rest.length < 2 ∨ rest.length < (rest.headD 0).toNat + 2)) :
    recordFailure (code :: rest)
      = if byteSum ((code :: rest).take (3 + (rest.headD 0).toNat)) ≠ 0 then some .badCheck
        else match paramLength code with
          | none => some .unknown
          | some n => if n = (rest.headD 0).toNat then none else some .badLength := by
  match rest, h with
  | [], h => exact absurd (.inl (by decide)) h
  | [_], h => exact absurd (.inl (by simp)) h
  | len :: x :: rest, h =>
    refine if_neg ?_
    simp only [List.length_cons, List.headD_cons] at h ⊢
    omega

/-- A frame that fails a check is answered with the status of that check (R170). -/
theorem rejected_of_failure {s : State} {code : Byte} {rest : List Byte} {status : Status}
    (hr : s.rstLow = false) (h : recordFailure (code :: rest) = some status) :
    exec (.commandRecordRejected (code :: rest)) s = .next { s with cpn := { s.cpn with
        reply := { status := status, code := code, data := [] } } }
      ∧ ∀ raw, commandOfFrame raw (code :: rest) = .commandRecordRejected (code :: rest) := by
  constructor
  · refine (released_high _ hr).trans ?_
    rw [h]
    rfl
  · intro raw
    exact if_pos (by rw [h]; rfl)

/-- Settles O42. -/
theorem rejectedRecordsNameTheirCheck : Obligations.rejected_records_name_their_check := by
  refine ⟨fun s code rest hr => ⟨fun hs => ?_, fun hs hb => ?_, fun hs hb hk => ?_, fun hs hb hk hw => ?_⟩,
    fun s hr => released_high _ hr⟩ <;> refine rejected_of_failure hr ?_
  · exact recordFailure_short hs
  · rw [recordFailure_long hs, if_pos hb]
  · have hp : paramLength code = none := by
      rw [← Option.not_isSome_iff_eq_none, paramLength_isSome_iff]
      exact hk
    rw [recordFailure_long hs, if_neg hb, hp]
  · obtain ⟨n, hn⟩ := Option.isSome_iff_exists.mp ((paramLength_isSome_iff code).mpr hk)
    rw [recordFailure_long hs, if_neg hb, hn]
    exact if_neg fun he => hw (by rw [hn, he])

end Sys2Proof.Machine
end

section
/-! SUPPORT. What an occurrence leaves in the fault record and in the overcommit condition (R100, R182), and
the commands of configuration and JOIN: LOAD_STRAND (R175) and JOIN with its cross-checks (R47, R176). -/

namespace Sys2Proof.Machine

/-! ### Captures within an occurrence (R182) -/

/-- A row whose occasion holds has its whole effect. -/
theorem row_next {s : State} {c : Bool} {f : State → State} (hr : s.rstLow = false) (hc : c = true) :
    released s (occur (whenever c f) s) = .next (stampFault s (f s)) := by
  rw [released_high _ hr, hc]
  rfl

/-- A row whose occasion holds and that captures no fault is its effect. -/
theorem row_next_of_fault {s : State} {c : Bool} {f : State → State} (hr : s.rstLow = false)
    (hc : c = true) (hf : (f s).cpn.fault = s.cpn.fault) :
    released s (occur (whenever c f) s) = .next (f s) := by
  rw [row_next hr hc, stampFault_of_locked_eq (by rw [hf])]

theorem stampFault_of_fault_eq {b t : State} (h : t.cpn.fault = b.cpn.fault) : stampFault b t = t :=
  stampFault_of_locked_eq (by rw [h])

/-- A capture in the course of an occurrence stands in the record with the state before it (R182). -/
theorem stampFault_captured {b u t : State} {k : FaultKind} {d : Nat}
    (ht : t.cpn.fault = u.captured k d) (hf : u.cpn.fault = b.cpn.fault) (hn : u.now = b.now)
    (hj : u.joinedAt = b.joinedAt) : (stampFault b t).cpn.fault = b.captured k d := by
  have htime : u.sinceJoin = b.sinceJoin := by rw [State.sinceJoin, hn, hj]; rfl
  unfold State.captured at ht ⊢
  rw [hf, htime] at ht
  cases hl : b.cpn.fault.locked
  · rw [hl, if_neg Bool.false_ne_true] at ht
    simp [stampFault, hl, ht]
  · rw [hl, if_pos rfl] at ht
    simp [stampFault, hl, ht]

theorem capture_fault (k : FaultKind) (d : Nat) (s : State) :
    (capture k d s).cpn.fault = s.captured k d := rfl

/-! ### The overcommit condition (R100) -/

theorem evalOvercommit_eq (s : State) : evalOvercommit s = { s with
    dbu := { s.dbu with overcommit := s.overcommitted }
    cpn := { s.cpn with fault := (evalOvercommit s).cpn.fault } } := by
  unfold evalOvercommit
  dsimp only
  split <;> rfl

theorem evalOvercommit_fault (s : State) : (evalOvercommit s).cpn.fault =
    if s.overcommitted = true ∧ s.dbu.overcommit = false then
      s.captured .overcommit (min 65535 (s.dbu.granted + s.reportedSum - s.dbu.limit))
    else s.cpn.fault := by
  unfold evalOvercommit
  cases ho : s.overcommitted <;> cases hs : s.dbu.overcommit <;> simp [capture_fault]
  rfl

/-- Nothing is captured unless the condition rises. -/
theorem evalOvercommit_fault_eq {s : State} (h : s.overcommitted = false ∨ s.dbu.overcommit = true) :
    (evalOvercommit s).cpn.fault = s.cpn.fault := by
  rw [evalOvercommit_fault, if_neg]
  rintro ⟨ho, hs⟩
  rcases h with h | h
  · rw [h] at ho; exact nomatch ho
  · rw [h] at hs; exact nomatch hs

/-- The condition rests on these parts of the state alone. -/
theorem State.overcommitted_congr {s t : State} (hs : t.rsq.state = s.rsq.state)
    (hl : t.dbu.limit = s.dbu.limit) (hg : t.dbu.granted = s.dbu.granted)
    (hp : t.reportedSum = s.reportedSum) : t.overcommitted = s.overcommitted := by
  unfold State.overcommitted
  rw [hs, hl, hg, hp]

theorem setGranted_eq (g : Nat) (s : State) : setGranted g s = { s with
    dbu := { s.dbu with granted := g, overcommit := (setGranted g s).overcommitted }
    cpn := { s.cpn with fault := (setGranted g s).cpn.fault } } := by
  unfold setGranted
  rw [evalOvercommit_eq]
  rfl

/-- G tracks a fresh F and stands otherwise; beside G, the overcommit condition and its capture nothing
moves (R78). -/
theorem trackFeedback_eq (s : State) : trackFeedback s = { s with
    dbu := { s.dbu with
      granted := if s.isFresh s.spu.feedback then s.drawOf s.spu.feedback.value else s.dbu.granted
      overcommit := if s.isFresh s.spu.feedback then (trackFeedback s).overcommitted else s.dbu.overcommit }
    cpn := { s.cpn with fault := (trackFeedback s).cpn.fault } } := by
  unfold trackFeedback
  split
  · exact setGranted_eq _ _
  · rfl

/-! ### LOAD_STRAND (R175) -/

/-- The ranges of R175 on the fields of LOAD_STRAND; the fields that every byte or pair of bytes can hold
are free. -/
theorem strandFields_inRange_iff (p : Vector Byte 25) (source : LimitSource) :
    (strandFields p source).inRange = true ↔
      (20 ≤ value16 p[0] p[1] ∧ value16 p[0] p[1] ≤ 2000) ∧ (5 ≤ p[5].toNat ∧ p[5].toNat ≤ 100)
      ∧ (10 ≤ p[6].toNat ∧ p[6].toNat ≤ 250) ∧ (2 ≤ p[7].toNat ∧ p[7].toNat ≤ 15)
      ∧ (8 ≤ p[8].toNat ∧ p[8].toNat ≤ 96) ∧ value16 p[9] p[10] ≤ 16000
      ∧ (1 ≤ value16 p[11] p[12] ∧ value16 p[11] p[12] ≤ 500)
      ∧ (10 ≤ value16 p[13] p[14] ∧ value16 p[13] p[14] ≤ 16000)
      ∧ (1 ≤ value16 p[15] p[16] ∧ value16 p[15] p[16] ≤ 1000 ∧ value16 p[15] p[16] ≤ value16 p[13] p[14])
      ∧ (50 ≤ value16 p[19] p[20] ∧ value16 p[19] p[20] ≤ 2000)
      ∧ p[21].toNat ≤ 15 ∧ p[22].toNat ≤ 15 ∧ p[23].toNat ≤ 15 ∧ p[24].toNat ≤ 15 := by
  have hl := Nat.lt_succ_iff.mp (value16_lt p[2] p[3])
  have hs := Nat.lt_succ_iff.mp p[17].isLt
  have hh := Nat.lt_succ_iff.mp p[18].isLt
  simp only [StrandRecord.inRange, Bool.and_eq_true, decide_eq_true_eq, and_assoc]
  constructor
  · rintro ⟨h1, h2, _, h3, h4, h5, h6, h7, h8, h9, h10, h11, h12, h13, h14, h15, h16, h17, h18, _, _, hr⟩
    exact ⟨h1, h2, h3, h4, h5, h6, h7, h8, h9, h10, h11, h12, h13, h14, h15, h16, h17, h18, hr⟩
  · rintro ⟨h1, h2, h3, h4, h5, h6, h7, h8, h9, h10, h11, h12, h13, h14, h15, h16, h17, h18, hr⟩
    exact ⟨h1, h2, hl, h3, h4, h5, h6, h7, h8, h9, h10, h11, h12, h13, h14, h15, h16, h17, h18, hs, hh, hr⟩

theorem limitSourceOfCode_of_le {b : Byte} (h : b.toNat ≤ 1) :
    limitSourceOfCode b = some (if b = 0 then .line else .localSource) := by
  unfold limitSourceOfCode
  by_cases h0 : b = 0
  · rw [if_pos h0, if_pos h0]
  · have h1 : b = 1 := by
      have hn : b.toNat ≠ 0 := fun hz => h0 (BitVec.eq_of_toNat_eq hz)
      exact BitVec.eq_of_toNat_eq (show b.toNat = 1 by omega)
    rw [if_neg h0, if_neg h0, if_pos h1]

theorem limitSourceOfCode_of_gt {b : Byte} (h : ¬ b.toNat ≤ 1) : limitSourceOfCode b = none := by
  unfold limitSourceOfCode
  rw [if_neg, if_neg]
  · rintro rfl
    exact h (by decide)
  · rintro rfl
    exact h (by decide)

/-- Settles O29. -/
theorem loadStrandIsTakenInRange : Obligations.load_strand_is_taken_in_range := by
  intro p s hr hu
  have hrow : exec (.loadStrand p) s = match readStrand p with
      | some r => .next (answer 0x10 .ok [] (loadStrand r s))
      | none => .next (answer 0x10 .refusedParam [] s) :=
    (released_high _ hr).trans (if_neg (not_not_intro hu))
  rw [hrow]
  constructor
  · rintro ⟨hmass, hsource, hrest⟩
    have hin := (strandFields_inRange_iff p (if p[4] = 0 then .line else .localSource)).mpr ⟨hmass, hrest⟩
    have hread : readStrand p = some (strandFields p (if p[4] = 0 then .line else .localSource)) := by
      unfold readStrand
      rw [limitSourceOfCode_of_le hsource]
      exact if_pos hin
    rw [hread]
    rfl
  · intro hna
    have hread : readStrand p = none := by
      unfold readStrand
      by_cases hsource : p[4].toNat ≤ 1
      · rw [limitSourceOfCode_of_le hsource]
        refine if_neg fun hin => hna ?_
        obtain ⟨hmass, hrest⟩ := (strandFields_inRange_iff p _).mp hin
        exact ⟨hmass, hsource, hrest⟩
      · rw [limitSourceOfCode_of_gt hsource]
    rw [hread]
    rfl

/-! ### The cross-checks of JOIN (R47, R48, R176) -/

theorem Pst.firstLast_eq_some_iff (p : Pst) (e : CauseEntry) (n : Nat) : ∀ (i j : Nat) (q : Point),
    p.firstLast e i n = some (j, q) ↔ i ≤ j ∧ j < i + n ∧ p.point e j = some q ∧ q.last = true
      ∧ ∀ k r, i ≤ k → k < j → p.point e k = some r → r.last = false := by
  induction n with
  | zero => exact fun i j q => ⟨fun h => (nomatch h), fun h => by omega⟩
  | succ n ih =>
    intro i j q
    have later (hi : ∀ r, p.point e i = some r → r.last = false) :
        p.firstLast e (i + 1) n = some (j, q) ↔ i ≤ j ∧ j < i + (n + 1) ∧ p.point e j = some q
          ∧ q.last = true ∧ ∀ k r, i ≤ k → k < j → p.point e k = some r → r.last = false := by
      rw [ih]
      constructor
      · rintro ⟨hij, hjn, hq, hl, hb⟩
        refine ⟨by omega, by omega, hq, hl, fun k r hik hkj hr => ?_⟩
        rcases Nat.eq_or_lt_of_le hik with rfl | hik
        · exact hi r hr
        · exact hb k r hik hkj hr
      · rintro ⟨hij, hjn, hq, hl, hb⟩
        rcases Nat.eq_or_lt_of_le hij with rfl | hij
        · rw [hi q hq] at hl
          exact nomatch hl
        · exact ⟨hij, by omega, hq, hl, fun k r hik => hb k r (by omega)⟩
    unfold Pst.firstLast
    split
    · next pt hpt =>
      split
      · next hl =>
        constructor
        · intro h
          obtain ⟨rfl, rfl⟩ := Prod.mk.inj (Option.some.inj h)
          exact ⟨le_refl _, by omega, hpt, hl, fun k r hik hki => by omega⟩
        · rintro ⟨hij, _, hq, _, hb⟩
          rcases Nat.eq_or_lt_of_le hij with rfl | hij
          · rw [Option.some.inj (hpt.symm.trans hq)]
          · rw [hb i pt (le_refl _) hij hpt] at hl
            exact nomatch hl
      · next hl =>
        exact later fun r hr => by
          rw [← Option.some.inj (hpt.symm.trans hr)]
          simpa using hl
    · next hpt => exact later fun r hr => by rw [hpt] at hr; exact nomatch hr

/-- The last point of a cause's ramp is the first to carry LAST within its 16 points (R47). -/
theorem Pst.rampEnd_eq_some_iff (p : Pst) (c : Cause) (i : Nat) (q : Point) :
    p.rampEnd c = some (i, q) ↔ i ≤ 15 ∧ p.point (p.causes.get c) i = some q ∧ q.last = true
      ∧ ∀ j r, j < i → p.point (p.causes.get c) j = some r → r.last = false := by
  unfold Pst.rampEnd
  rw [Pst.firstLast_eq_some_iff]
  constructor
  · rintro ⟨-, hi, hq, hl, hb⟩
    exact ⟨by omega, hq, hl, fun j r => hb j r (Nat.zero_le j)⟩
  · rintro ⟨hi, hq, hl, hb⟩
    exact ⟨Nat.zero_le i, by omega, hq, hl, fun j r _ => hb j r⟩

theorem Pst.firstLast_isSome {p : Pst} {e : CauseEntry} {q : Point} (n : Nat) : ∀ {i j : Nat},
    i ≤ j → j < i + n → p.point e j = some q → q.last = true → (p.firstLast e i n).isSome = true := by
  induction n with
  | zero => exact fun _ _ => by omega
  | succ n ih =>
    intro i j hij hjn hq hl
    unfold Pst.firstLast
    rcases Nat.eq_or_lt_of_le hij with rfl | hij
    · simp only [hq, hl, if_true, Option.isSome_some]
    · split
      · split
        · rfl
        · exact ih hij (by omega) hq hl
      · exact ih hij (by omega) hq hl

theorem Pst.reachesLast_iff (p : Pst) (c : Cause) : p.reachesLast c = true ↔
    ∃ i q, i ≤ 15 ∧ p.point (p.causes.get c) i = some q ∧ q.last = true := by
  constructor
  · intro h
    obtain ⟨⟨i, q⟩, he⟩ := Option.isSome_iff_exists.mp h
    obtain ⟨hi, hq, hl, -⟩ := (p.rampEnd_eq_some_iff c i q).mp he
    exact ⟨i, q, hi, hq, hl⟩
  · rintro ⟨i, q, hi, hq, hl⟩
    exact Pst.firstLast_isSome 16 (Nat.zero_le i) (by omega) hq hl

theorem Pst.endsAboveCreep_iff (p : Pst) (c : Cause) : p.endsAboveCreep c = true ↔
    ∃ i q, i ≤ 15 ∧ p.point (p.causes.get c) i = some q ∧ q.last = true
      ∧ (∀ j r, j < i → p.point (p.causes.get c) j = some r → r.last = false)
      ∧ p.strand.creepThreshold ≤ q.target := by
  have hiff : p.endsAboveCreep c = true ↔ ∃ i q, p.rampEnd c = some (i, q)
      ∧ p.strand.creepThreshold ≤ q.target := by
    unfold Pst.endsAboveCreep
    cases he : p.rampEnd c with
    | none => simp
    | some e => simp [Prod.ext_iff]
  rw [hiff]
  constructor
  · rintro ⟨i, q, he, ht⟩
    obtain ⟨hi, hq, hl, hb⟩ := (p.rampEnd_eq_some_iff c i q).mp he
    exact ⟨i, q, hi, hq, hl, hb, ht⟩
  · rintro ⟨i, q, hi, hq, hl, hb, ht⟩
    exact ⟨i, q, (p.rampEnd_eq_some_iff c i q).mpr ⟨hi, hq, hl, hb⟩, ht⟩

theorem Pst.marginBelowFreeze_iff (p : Pst) (c : Cause) : p.marginBelowFreeze c = true ↔
    ((p.causes.get c).freezeCode ≠ 0 → (p.causes.get c).marginCode < (p.causes.get c).freezeCode) := by
  rw [Pst.marginBelowFreeze, decide_eq_true_iff]
  omega

theorem mem_allCauses (c : Cause) : c ∈ allCauses := by cases c <;> decide

theorem firstFailing_none {passes : Cause → Bool} (h : ∀ c, passes c = true) : firstFailing passes = none :=
  List.find?_eq_none.mpr fun c _ => by simp [h c]

/-- The cause that a check names is the first in the order of causes to fail it (R176). -/
theorem firstFailing_some {passes : Cause → Bool} {before after : List Cause} {c : Cause}
    (ho : allCauses = before ++ c :: after) (hb : ∀ b ∈ before, passes b = true)
    (hc : passes c ≠ true) : firstFailing passes = some c := by
  unfold firstFailing
  rw [ho, List.find?_append, List.find?_eq_none.mpr fun b hm => by simp [hb b hm], List.find?_cons_of_pos]
  · rfl
  · simpa using hc

theorem State.strapsValid_iff (s : State) : s.strapsValid = true ↔
    s.cpn.strapDone = true ∧ s.cpn.straps.count ≠ 0 ∧ s.ownStation < s.strandCount := by
  simp only [State.strapsValid, Bool.and_eq_true, decide_eq_true_eq, and_assoc]

section Checks

variable {s : State} {c : Cause} (hv : s.strapsValid = true) (hm : 20 ≤ s.pst.strand.mass)
include hv hm

theorem State.joinFailure_reach (h : firstFailing s.pst.reachesLast = some c) :
    s.joinFailure = some (3, some c) := by
  unfold State.joinFailure
  rw [hv, Bool.not_true, if_neg Bool.false_ne_true, if_neg (by omega), h]

theorem State.joinFailure_creep (hr : firstFailing s.pst.reachesLast = none)
    (h : firstFailing s.pst.endsAboveCreep = some c) : s.joinFailure = some (4, some c) := by
  unfold State.joinFailure
  rw [hv, Bool.not_true, if_neg Bool.false_ne_true, if_neg (by omega), hr, h]

theorem State.joinFailure_margin (hr : firstFailing s.pst.reachesLast = none)
    (hc : firstFailing s.pst.endsAboveCreep = none)
    (h : firstFailing s.pst.marginBelowFreeze = some c) : s.joinFailure = some (5, some c) := by
  unfold State.joinFailure
  rw [hv, Bool.not_true, if_neg Bool.false_ne_true, if_neg (by omega), hr, hc, h]

theorem State.joinFailure_none (hr : firstFailing s.pst.reachesLast = none)
    (hc : firstFailing s.pst.endsAboveCreep = none)
    (h : firstFailing s.pst.marginBelowFreeze = none) : s.joinFailure = none := by
  unfold State.joinFailure
  rw [hv, Bool.not_true, if_neg Bool.false_ne_true, if_neg (by omega), hr, hc, h]

end Checks

theorem execJoin_fails {s : State} {check : Nat} {c : Option Cause} (hr : s.rstLow = false)
    (hu : s.rsq.state = .unjoined) (hf : s.joinFailure = some (check, c)) :
    exec .join s = .next { s with cpn := { s.cpn with
      reply := { status := .refusedParam, code := 0x13, data := [byte check, causeCode c] } } } := by
  refine ((released_high _ hr).trans (if_neg (not_not_intro hu))).trans ?_
  rw [hf]
  rfl

/-- A store at its reset values has every ramp end at its first point, with target 0 (R44, R45). -/
theorem Pst.reset_rampEnd (strand : StrandRecord) (c : Cause) :
    ({ Pst.reset with strand := strand } : Pst).rampEnd c = some (0, Point.reset) := by
  cases c <;> rfl

/-- Settles O33. -/
theorem joinNamesTheFirstFailingCheck : Obligations.join_names_the_first_failing_check := by
  refine ⟨fun s hr hu => (released_high _ hr).trans (if_pos hu), fun s hr hu => ?_⟩
  have fails {check : Nat} {c : Option Cause} := execJoin_fails (check := check) (c := c) hr hu
  have massFails (hs : s.strapsValid = true) (hm : ¬ 20 ≤ s.pst.strand.mass) :
      s.joinFailure = some (2, none) := by
    unfold State.joinFailure
    rw [hs, Bool.not_true, if_neg Bool.false_ne_true, if_pos (by omega)]
  refine ⟨fun hs => fails ?_, fun hs hm => fails (massFails (s.strapsValid_iff.mpr hs) hm),
    fun hs hm before c after ho => ⟨fun hb hc => fails ?_, fun hall hb hc => fails ?_,
      fun hall hb hc => fails ?_⟩, fun hs hp => fails (massFails (s.strapsValid_iff.mpr hs) ?_),
    fun hs hm hp => fails ?_⟩
  · unfold State.joinFailure
    rw [Bool.eq_false_iff.mpr fun hv => hs (s.strapsValid_iff.mp hv)]
    rfl
  · exact State.joinFailure_reach (s.strapsValid_iff.mpr hs) hm
      (firstFailing_some ho (fun b hm => (s.pst.reachesLast_iff b).mpr (hb b hm))
        fun h => hc ((s.pst.reachesLast_iff c).mp h))
  · exact State.joinFailure_creep (s.strapsValid_iff.mpr hs) hm
      (firstFailing_none fun b => (s.pst.reachesLast_iff b).mpr (hall b))
      (firstFailing_some ho (fun b hm => (s.pst.endsAboveCreep_iff b).mpr (hb b hm))
        fun h => hc ((s.pst.endsAboveCreep_iff c).mp h))
  · refine State.joinFailure_margin (s.strapsValid_iff.mpr hs) hm
      (firstFailing_none fun b => (s.pst.reachesLast_iff b).mpr ?_)
      (firstFailing_none fun b => (s.pst.endsAboveCreep_iff b).mpr (hall b))
      (firstFailing_some ho (fun b hm => (s.pst.marginBelowFreeze_iff b).mpr (hb b hm))
        fun h => hc ((s.pst.marginBelowFreeze_iff c).mp h))
    obtain ⟨i, q, hi, hq, hl, -⟩ := hall b
    exact ⟨i, q, hi, hq, hl⟩
  · rw [hp]
    decide
  · have hend (c : Cause) : s.pst.rampEnd c = some (0, Point.reset) := by
      rw [hp]
      exact Pst.reset_rampEnd _ c
    refine State.joinFailure_creep (s.strapsValid_iff.mpr hs) hm
      (firstFailing_none fun b => by rw [Pst.reachesLast, hend]; rfl)
      (firstFailing_some (before := []) (c := .dip) (after := [.tundish, .breakout, .hold]) rfl (by simp) ?_)
    unfold Pst.endsAboveCreep
    rw [hend, hp]
    exact Bool.false_ne_true

/-! ### The effect of JOIN (R176) -/

/-- What JOIN sets: the sequencer and the line, DBU's JOIN values, G from a fresh F, and the overcommit
condition (R78, R101). -/
theorem joinLine_eq (s : State) : joinLine s = { s with
    joinedAt := some s.now
    rsq := { s.rsq with state := .parked }
    pst := s.pst.joined
    dbu := { s.dbu with
      granted := if s.isFresh s.spu.feedback then s.drawOf s.spu.feedback.value else s.dbu.granted
      limit := s.pst.strand.initialLimit, epoch := 0, phase := .ready, learned := false
      mismatch := false, overcommit := (joinLine s).overcommitted }
    lnc := { s.atJoin.lnc with line := .listen }
    cpn := { s.cpn with
      events := { s.cpn.events with lineChanged := true }, fault := (joinLine s).cpn.fault } } := by
  have hj : joinLine s = evalOvercommit (trackFeedback
      (notify .lineChanged { s.atJoin with lnc := { s.atJoin.lnc with line := .listen } })) := by
    unfold joinLine
    rw [changeLine_listen (by simp [State.atJoin])]
  have ht := trackFeedback_eq
    (notify .lineChanged { s.atJoin with lnc := { s.atJoin.lnc with line := .listen } })
  rw [hj, evalOvercommit_eq]
  generalize trackFeedback _ = u at ht ⊢
  rw [ht]
  rfl

/-- Without overcommit after it JOIN captures nothing. -/
theorem joinLine_fault {s : State} (h : (joinLine s).dbu.overcommit = false) :
    (joinLine s).cpn.fault = s.cpn.fault := by
  have hj : joinLine s = evalOvercommit (trackFeedback
      (notify .lineChanged { s.atJoin with lnc := { s.atJoin.lnc with line := .listen } })) := by
    unfold joinLine
    rw [changeLine_listen (by simp [State.atJoin])]
  rw [hj, evalOvercommit_overcommit] at h
  rw [hj, evalOvercommit_fault_eq (.inl h)]
  unfold trackFeedback at h ⊢
  split at h
  · next hf =>
    rw [if_pos hf, setGranted, evalOvercommit_fault_eq]
    · rfl
    · left
      rw [← h]
      exact (State.overcommitted_congr (by simp) (by simp) (by simp) (by simp [State.reportedSum])).symm
  · next hf => rw [if_neg hf]; rfl

theorem Pst.computeLength_of_rampEnd {p : Pst} {c : Cause} {i : Nat} {q : Point}
    (h : p.rampEnd c = some (i, q)) : p.computeLength c = i + 1 := by
  rw [Pst.computeLength, h]

/-- Settles O32. -/
theorem joinMovesTheStationOntoTheLine : Obligations.join_moves_the_station_onto_the_line := by
  intro s last points hr hu hdone hcount hown hmass hramp hmargin
  have hend (c : Cause) : s.pst.rampEnd c = some (last c, points c) := by
    obtain ⟨hp, hl, -, hi, hb⟩ := hramp c
    exact (s.pst.rampEnd_eq_some_iff c _ _).mpr ⟨hi, hp, hl, hb⟩
  have hf : s.joinFailure = none :=
    State.joinFailure_none (s.strapsValid_iff.mpr ⟨hdone, hcount, hown⟩) hmass
      (firstFailing_none fun c => by rw [Pst.reachesLast, hend]; rfl)
      (firstFailing_none fun c => by
        rw [Pst.endsAboveCreep, hend]
        exact decide_eq_true (hramp c).2.2.1)
      (firstFailing_none fun c => (s.pst.marginBelowFreeze_iff c).mpr (hmargin c))
  have hrow : exec .join s = .next (stampFault s (answer 0x13 .ok [] (joinLine s))) := by
    refine ((released_high _ hr).trans (if_neg (not_not_intro hu))).trans ?_
    rw [hf]
    rfl
  have hkeep (h : (joinLine s).dbu.overcommit = false) :
      (stampFault s (answer 0x13 .ok [] (joinLine s))).cpn.fault = s.cpn.fault := by
    rw [stampFault_of_fault_eq (t := answer 0x13 .ok [] (joinLine s)) (joinLine_fault h)]
    exact joinLine_fault h
  have hj := joinLine_eq s
  have hstamp := stampFault_does s (answer 0x13 .ok [] (joinLine s))
  generalize (stampFault s (answer 0x13 .ok [] (joinLine s))).cpn.fault = g at hstamp hkeep
  generalize ho : (joinLine s).overcommitted = o at hj
  generalize (joinLine s).cpn.fault = f at hj
  rw [hstamp, hj] at hrow
  rw [hj] at ho hkeep
  refine ⟨_, hrow, rfl, rfl, rfl, fun c => ?_, ?_, rfl, rfl, hkeep⟩
  · have hl := Pst.computeLength_of_rampEnd (hend c)
    cases c <;> exact hl
  · rw [← ho]
    rfl

end Sys2Proof.Machine
end

section
/-! SUPPORT. Round trips: a command record read back as its command and a frame clocked through the SPI side
of the port (R168 to R170), a line frame composed and received, and its bits on the line (R137 to R139,
R148, R186). -/

namespace Sys2Proof.Machine

/-! ### Command records (R170) -/

theorem byteSum_append (a b : List Byte) : byteSum (a ++ b) = byteSum a + byteSum b := by
  have fold : ∀ (b : List Byte) (x : Byte), b.foldl (· + ·) x = x + byteSum b := by
    intro b
    induction b with
    | nil => exact fun x => (BitVec.add_zero x).symm
    | cons y b ih =>
      intro x
      have h1 := ih (x + y)
      have h2 := ih (0#8 + y)
      simp only [byteSum, List.foldl_cons] at h1 h2 ⊢
      rw [h1, h2, BitVec.zero_add, BitVec.add_assoc]
  unfold byteSum
  rw [List.foldl_append, fold]
  rfl

/-- The check byte makes the sum of a record 0 (R170). -/
theorem byteSum_checked (l : List Byte) : byteSum (l ++ [checkByte l]) = 0#8 := by
  rw [byteSum_append]
  show byteSum l + (0#8 + (0#8 - byteSum l)) = 0#8
  generalize byteSum l = x
  bv_omega

theorem takeVector_toList {n : Nat} (v : Vector Byte n) : takeVector n v.toList = v := by
  apply Vector.ext
  intro i hi
  simp [takeVector]

/-- Code and parameter bytes of a host command have the command's length and name it (R170). -/
theorem hostCommand_named {raw : InputLevels} {c : Instr} {code : Byte} {params : List Byte}
    (h : hostCommand c = some (code, params)) (hraw : ∀ r, c = .softReset r → r = raw) :
    readCommand raw code params = some c ∧ paramLength code = some params.length ∧ params.length < 256 := by
  cases c with
  | loadStrand p | loadCause p | loadSlice p =>
    obtain ⟨rfl, rfl⟩ := Prod.mk.inj (Option.some.inj h)
    rw [Vector.length_toList]
    refine ⟨?_, rfl, by decide⟩
    simp [readCommand, takeVector_toList]
  | tundishReady limit =>
    obtain ⟨rfl, rfl⟩ := Prod.mk.inj (Option.some.inj h)
    refine ⟨?_, rfl, (by decide : 2 < 256)⟩
    simp [readCommand, bytes16, value16_bytes limit.isLt]
  | softReset r =>
    obtain ⟨rfl, rfl⟩ := Prod.mk.inj (Option.some.inj h)
    rw [hraw r rfl]
    exact ⟨rfl, rfl, by decide⟩
  | nop | identify | join | cast | park | stop | release | take | tundishBegin | getStatus | getPeer
  | getClaims | getReport | getFault | clearFault =>
    obtain ⟨rfl, rfl⟩ := Prod.mk.inj (Option.some.inj h)
    exact ⟨rfl, rfl, by simp⟩
  | _ => exact nomatch h

/-- A record of a known code with its command's length passes the four checks, whatever follows it. -/
theorem recordFailure_record {code : Byte} {params : List Byte} (more : List Byte)
    (hp : paramLength code = some params.length) (hl : params.length < 256) :
    recordFailure (commandRecord code params ++ more) = none := by
  have hlen : ((byte params.length :: (params ++ checkByte (code :: byte params.length :: params) :: more)
      : List Byte).headD 0).toNat = params.length := by
    show (byte params.length).toNat = _
    rw [byte_toNat]
    omega
  have hrec : commandRecord code params ++ more
      = code :: (byte params.length :: (params ++ checkByte (code :: byte params.length :: params) :: more)) := by
    simp [commandRecord]
  have htake : (commandRecord code params ++ more).take (3 + params.length) = commandRecord code params := by
    rw [List.take_append_of_le_length (by simp [commandRecord]; omega), List.take_of_length_le]
    simp [commandRecord]
    omega
  rw [hrec, recordFailure_long, hlen, ← hrec, htake, hp, if_neg]
  · exact if_pos rfl
  · exact not_not_intro (byteSum_checked _)
  · rw [hlen]
    simp only [List.length_cons, List.length_append]
    omega

theorem commandOfFrame_record {raw : InputLevels} {c : Instr} {code : Byte} {params : List Byte}
    (more : List Byte) (h : hostCommand c = some (code, params)) (hraw : ∀ r, c = .softReset r → r = raw) :
    commandOfFrame raw (commandRecord code params ++ more) = c := by
  obtain ⟨hread, hp, hl⟩ := hostCommand_named h hraw
  have hpass := recordFailure_record more hp hl
  have hrec : commandRecord code params ++ more
      = code :: (byte params.length :: (params ++ checkByte (code :: byte params.length :: params) :: more)) := by
    simp [commandRecord]
  rw [hrec] at hpass ⊢
  unfold commandOfFrame
  rw [hpass]
  simp only [Option.isSome_none, Bool.false_eq_true, if_false, List.drop_succ_cons, List.drop_zero,
    List.headD_cons, byte_toNat, Nat.mod_eq_of_lt hl, List.take_left, hread, Option.getD_some]

/-! ### The SPI side (R168) -/

theorem byteOfBits_spiBits (b : Byte) : byteOfBits (spiBits b) = b := by
  revert b
  decide

theorem completeBytes_extra {l : List Bool} (h : l.length < 8) : completeBytes l = [] := by
  match l, h with
  | [], _ | [_], _ | [_, _], _ | [_, _, _], _ | [_, _, _, _], _ | [_, _, _, _, _], _
  | [_, _, _, _, _, _], _ | [_, _, _, _, _, _, _], _ => rfl
  | _ :: _ :: _ :: _ :: _ :: _ :: _ :: _ :: _, h => simp only [List.length_cons] at h; omega

/-- The bits of whole bytes give those bytes, and a part of a byte after them is discarded. -/
theorem completeBytes_spiBits (bytes : List Byte) {extra : List Bool} (h : extra.length < 8) :
    completeBytes (bytes.flatMap spiBits ++ extra) = bytes := by
  induction bytes with
  | nil => exact completeBytes_extra h
  | cons b bytes ih =>
    show byteOfBits (spiBits b) :: completeBytes (bytes.flatMap spiBits ++ extra) = b :: bytes
    rw [ih, byteOfBits_spiBits]

/-- In a frame that is not ignored each SCLK pulse takes a bit and moves SDO on. -/
theorem clockIn_eq (bits : List Bool) : ∀ {s : State}, s.rstLow = false → s.cpn.spi.csLow = true →
    s.cpn.spi.ignoring = false →
    clockIn bits s = { s with cpn := { s.cpn with spi := { s.cpn.spi with
      bits := s.cpn.spi.bits ++ bits, shifted := s.cpn.spi.shifted + bits.length } } } := by
  induction bits with
  | nil => exact fun _ _ _ => by simp [clockIn]
  | cons bit bits ih =>
    intro s hr hc hi
    have hb : sclkFall (sclkRise bit s) = { s with cpn := { s.cpn with spi := { s.cpn.spi with
        bits := s.cpn.spi.bits ++ [bit], shifted := s.cpn.spi.shifted + 1 } } } := by
      simp [sclkRise, sclkFall, hr, hc, hi]
    show clockIn bits (sclkFall (sclkRise bit s)) = _
    rw [hb, ih]
    · simp [Nat.add_comm, Nat.add_left_comm]
    · exact hr
    · exact hc
    · exact hi

theorem sclkRise_spi (bit : Bool) (s : State) : (sclkRise bit s).cpn.spi.csLow = s.cpn.spi.csLow
    ∧ (sclkRise bit s).cpn.spi.ignoring = s.cpn.spi.ignoring := by
  unfold sclkRise
  split <;> exact ⟨rfl, rfl⟩

theorem sclkFall_spi (s : State) : (sclkFall s).cpn.spi.csLow = s.cpn.spi.csLow
    ∧ (sclkFall s).cpn.spi.ignoring = s.cpn.spi.ignoring := by
  unfold sclkFall
  split <;> exact ⟨rfl, rfl⟩

/-- SCLK and SDI touch neither the queue nor the frame's standing. -/
theorem clockIn_keeps (bits : List Bool) : ∀ s : State, (clockIn bits s).pending = s.pending
    ∧ (clockIn bits s).cpn.spi.csLow = s.cpn.spi.csLow
    ∧ (clockIn bits s).cpn.spi.ignoring = s.cpn.spi.ignoring := by
  induction bits with
  | nil => exact fun _ => ⟨rfl, rfl, rfl⟩
  | cons bit bits ih =>
    intro s
    obtain ⟨hp, hc, hi⟩ := ih (sclkFall (sclkRise bit s))
    obtain ⟨hfc, hfi⟩ := sclkFall_spi (sclkRise bit s)
    obtain ⟨hrc, hri⟩ := sclkRise_spi bit s
    exact ⟨hp.trans (by simp), hc.trans (hfc.trans hrc), hi.trans (hfi.trans hri)⟩

/-- With CS_N high SDO is high impedance (R168). -/
theorem State.sdo_idle {s : State} (h : s.cpn.spi.csLow = false) : s.sdo = none := by
  simp [State.sdo, h]

theorem csFall_begins {s : State} (h : s.cpn.spi.csLow = false) : csFall s = { s with
    cpn := { s.cpn with spi := { Spi.idle with csLow := true } } } :=
  if_neg (by simp [h])

/-- Settles O4. -/
theorem commandRecordRoundTrip : Obligations.command_record_round_trip := by
  refine ⟨fun raw c code params more h hraw => commandOfFrame_record more h hraw,
    fun raw bytes extra s hr hc he => ?_, fun bits s hr hc => ⟨?_, ?_⟩, fun raw levels bits s t hx => ?_⟩
  · have ht := clockIn_eq (bytes.flatMap spiBits ++ extra) (s := csFall s) ((csFall_rstLow s).trans hr)
      (csFall_csLow s) (by rw [csFall_begins hc]; rfl)
    rw [csFall_begins hc] at ht ⊢
    have hbytes := completeBytes_spiBits bytes he
    dsimp only
    rw [ht]
    refine ⟨hbytes, ?_, ?_, State.sdo_idle (csRise_csLow _ _)⟩
    · unfold csRise
      dsimp only
      split <;> exact hbytes
    · simp [csRise, hr, Spi.idle, State.received, hbytes]
  · exact State.sdo_idle hc
  · have ht := clockIn_eq bits (s := csFall s) ((csFall_rstLow s).trans hr) (csFall_csLow s)
      (by rw [csFall_begins hc]; rfl)
    rw [ht, csFall_begins hc]
    simp [State.sdo, hr, Spi.idle]
  · obtain ⟨hp, hcs, hi⟩ := clockIn_keeps bits t
    obtain rfl := (Host.Outcome.next.inj hx).symm
    have hoff : ((rstRise levels (rstFall s)).cpn.spi.csLow
        && !(rstRise levels (rstFall s)).cpn.spi.ignoring) = false :=
      Bool.and_not_self _
    unfold csRise
    rw [hcs, hi, hoff, Bool.false_and, if_neg Bool.false_ne_true]
    exact hp

/-! ### Line frames (R148, R186) -/

theorem causeOfCode_causeCode (c : Option Cause) : causeOfCode (causeCode c) = some c := by
  rcases c with _ | c
  · rfl
  · cases c <;> rfl

theorem seqStateOfCode_seqStateCode (q : SeqState) : seqStateOfCode (seqStateCode q) = some q := by
  cases q <;> rfl

theorem claimKindOfCode_claimKindCode (k : ClaimKind) : claimKindOfCode (claimKindCode k) = some k := by
  cases k <;> rfl

theorem reasonOfCode_reasonCode (r : ReleaseReason) : reasonOfCode (reasonCode r) = some r := by
  cases r <;> rfl

theorem byte_toNat_of_lt {n : Nat} (h : n < 256) : (byte n).toNat = n :=
  (byte_toNat n).trans (Nat.mod_eq_of_lt h)

/-- The five flags of a BEACON stand at bits 0 to 4 of its flag byte (R186). -/
theorem beaconFlags_bits (b : BeaconFields) :
    bitSet (byte (beaconFlags b)) 0 = b.auth ∧ bitSet (byte (beaconFlags b)) 1 = b.slotHeld
    ∧ bitSet (byte (beaconFlags b)) 2 = b.deaf ∧ bitSet (byte (beaconFlags b)) 3 = b.limitLocal
    ∧ bitSet (byte (beaconFlags b)) 4 = b.phaseReady := by
  unfold beaconFlags
  generalize b.auth = a, b.slotHeld = h, b.deaf = d, b.limitLocal = l, b.phaseReady = p
  revert a h d l p
  decide

theorem readBeacon_bytes {b : BeaconFields} (h : b.wf = true) :
    readBeacon (byte b.sequence) (byte b.periodCode) (seqStateCode b.state) (causeCode b.cause)
      (byte b.urgency) (byte (b.draw / 256)) (byte b.draw) (byte (b.speed / 256)) (byte b.speed)
      (byte (b.deadline / 256)) (byte b.deadline) (byte (beaconFlags b))
      (byte (b.settledDraw * 16 + b.settledStart)) (byte b.epoch) (byte (b.limit / 256)) (byte b.limit)
      = some b := by
  simp only [BeaconFields.wf, Bool.and_eq_true, decide_eq_true_eq] at h
  obtain ⟨⟨⟨⟨⟨⟨⟨⟨⟨hsq, hpc⟩, hur⟩, hdr⟩, hsp⟩, hdl⟩, hsd⟩, hss⟩, hep⟩, hlm⟩ := h
  obtain ⟨ha, hh, hd, hl, hp⟩ := beaconFlags_bits b
  have hnumbers : (byte (b.settledDraw * 16 + b.settledStart)).toNat = b.settledDraw * 16 + b.settledStart :=
    byte_toNat_of_lt (by omega)
  have hdraw : (b.settledDraw * 16 + b.settledStart) / 16 = b.settledDraw := by omega
  have hstart : (b.settledDraw * 16 + b.settledStart) % 16 = b.settledStart := by omega
  simp only [readBeacon, seqStateOfCode_seqStateCode, causeOfCode_causeCode, ha, hh, hd, hl, hp, hnumbers,
    hdraw, hstart, value16_bytes hdr, value16_bytes hsp, value16_bytes hdl, value16_bytes hlm,
    byte_toNat_of_lt hsq, byte_toNat_of_lt hpc, byte_toNat_of_lt hep,
    byte_toNat_of_lt (Nat.lt_trans hur (by decide)), Nat.mod_eq_of_lt hur]

theorem readClaim_bytes {c : ClaimFields} (h : c.wf = true) :
    readClaim (claimKindCode c.kind) (byte c.number) (byte c.urgency) (byte (c.deadline / 256))
      (byte c.deadline) (byte (c.amount / 256)) (byte c.amount) (byte c.settle) = some c := by
  simp only [ClaimFields.wf, Bool.and_eq_true, decide_eq_true_eq] at h
  obtain ⟨⟨⟨⟨hnr, hur⟩, hdl⟩, ham⟩, hst⟩ := h
  simp only [readClaim, claimKindOfCode_claimKindCode, value16_bytes hdl, value16_bytes ham,
    byte_toNat_of_lt hst, byte_toNat_of_lt (Nat.lt_trans hnr (by decide)), Nat.mod_eq_of_lt hnr,
    byte_toNat_of_lt (Nat.lt_trans hur (by decide)), Nat.mod_eq_of_lt hur]

/-- A body whose fields fit its layout is read back from its bytes (R186). -/
theorem readBody_bytes {f : LineFrame} (h : f.wf = true) :
    readBody (frameKindCode f.body.frameKind) f.body.bytes = some f.body := by
  obtain ⟨station, body⟩ := f
  cases body with
  | beacon b => exact congrArg (Option.map FrameBody.beacon) (readBeacon_bytes h)
  | claim c => exact congrArg (Option.map FrameBody.claim) (readClaim_bytes h)
  | withdraw kind number =>
    have hn : number < 16 := of_decide_eq_true h
    show (claimKindOfCode (claimKindCode kind)).map _ = _
    rw [claimKindOfCode_claimKindCode, byte_toNat_of_lt (by omega), Nat.mod_eq_of_lt hn]
    rfl
  | release reason =>
    show (reasonOfCode (reasonCode reason)).map _ = _
    rw [reasonOfCode_reasonCode]
    rfl
  | clear target =>
    show some (FrameBody.clear (byte target).toNat) = _
    rw [byte_toNat_of_lt (of_decide_eq_true h)]
  | eventBegin epoch =>
    show some (FrameBody.eventBegin (byte epoch).toNat) = _
    rw [byte_toNat_of_lt (of_decide_eq_true h)]
  | eventReady epoch limit =>
    obtain ⟨he, hl⟩ : epoch < 256 ∧ limit < 65536 := of_decide_eq_true h
    show some (FrameBody.eventReady (byte epoch).toNat (value16 (byte (limit / 256)) (byte limit))) = _
    rw [byte_toNat_of_lt he, value16_bytes hl]

theorem LineFrame.content_length (f : LineFrame) : f.content.length + 2 = frameLength f.body.frameKind := by
  obtain ⟨station, body⟩ := f
  cases body <;> rfl

theorem LineFrame.bytes_length (f : LineFrame) : f.bytes.length = frameLength f.body.frameKind :=
  (List.length_append).trans f.content_length

theorem validFrame_bytes {f : LineFrame} {strands : Nat} (hw : f.wf = true) (hs : f.station < strands)
    (h8 : strands ≤ 8) : validFrame strands f.bytes false = some f := by
  have hlen : f.bytes.length - 2 = f.content.length := by
    rw [f.bytes_length, ← f.content_length]
    rfl
  have htake : f.bytes.take (f.bytes.length - 2) = f.content := by rw [hlen]; exact List.take_left
  have hdrop : f.bytes.drop (f.bytes.length - 2) = crcBytes f.content := by rw [hlen]; exact List.drop_left
  have hfour : ¬ f.bytes.length < 4 := by
    rw [f.bytes_length]
    cases f.body.frameKind <;> decide
  have hread : readContent f.content = some f := by
    show (readBody (frameKindCode f.body.frameKind) f.body.bytes).map _ = _
    rw [readBody_bytes hw, byte_toNat_of_lt (by omega)]
    rfl
  unfold validFrame
  rw [htake, hdrop]
  simp only [hfour, hread, hs, if_true, Bool.false_eq_true, ne_eq, not_true, or_self, if_false]

/-! ### Bits on the line (R137, R138) -/

theorem frameBits_length (bytes : List Byte) : (frameBits bytes).length = 10 * bytes.length := by
  induction bytes with
  | nil => rfl
  | cons b bytes ih =>
    show (characterBits b ++ frameBits bytes).length = _
    rw [List.length_append, ih, List.length_cons]
    show 10 + _ = _
    omega

/-- Within a character the level does not matter: its bits pass, and the quiet time is 0 (R137). -/
theorem readBits_character (bits : List Bool) : ∀ l : Lnc, l.quiet = some 0 → l.charLeft = bits.length →
    bits.foldl Lnc.readBit l = { l with charLeft := 0 } := by
  induction bits with
  | nil =>
    intro l _ hc
    have hc0 : l.charLeft = 0 := hc
    rw [← hc0]
    rfl
  | cons bit bits ih =>
    intro l hq hc
    have hb : l.readBit bit = { l with charLeft := bits.length } := by
      simp [Lnc.readBit, hq, hc]
    show bits.foldl Lnc.readBit (l.readBit bit) = _
    rw [hb]
    exact ih { l with charLeft := bits.length } hq rfl

theorem readBits_characterBits {l : Lnc} {q : Nat} (b : Byte) (hq : l.quiet = some q)
    (hs : l.synced = true) (hc : l.charLeft = 0) :
    (characterBits b).foldl Lnc.readBit l = { l with quiet := some 0 } := by
  have hstart : l.readBit false = { l with quiet := some 0, charLeft := 9 } := by
    simp [Lnc.readBit, hq, hs, hc]
  show (characterBits b).tail.foldl Lnc.readBit (l.readBit false) = _
  rw [hstart, readBits_character _ _ rfl rfl]
  simp [← hc]

theorem readBits_frameBits (bytes : List Byte) : ∀ {l : Lnc} {q : Nat}, bytes ≠ [] → l.quiet = some q →
    l.synced = true → l.charLeft = 0 →
    (frameBits bytes).foldl Lnc.readBit l = { l with quiet := some 0 } := by
  induction bytes with
  | nil => exact fun h => absurd rfl h
  | cons b bytes ih =>
    intro l q _ hq hs hc
    show (characterBits b ++ frameBits bytes).foldl Lnc.readBit l = _
    rw [List.foldl_append, readBits_characterBits b hq hs hc]
    rcases bytes with _ | ⟨c, bytes⟩
    · rfl
    · exact ih (l := { l with quiet := some 0 }) (List.cons_ne_nil _ _) rfl hs hc

/-- Outside a character recessive bits add to the quiet time, and the tenth in a row ends the search. -/
theorem readBits_recessive (n : Nat) : ∀ (l : Lnc) (q : Nat), l.quiet = some q → l.charLeft = 0 →
    (List.replicate n true).foldl Lnc.readBit l
      = { l with quiet := some (q + n), synced := l.synced || decide (0 < n ∧ 10 ≤ q + n) } := by
  induction n with
  | zero => exact fun l q hq _ => by simp [← hq]
  | succ n ih =>
    intro l q hq hc
    have hb : l.readBit true = { l with quiet := some (q + 1), synced := l.synced || decide (10 ≤ q + 1) } := by
      simp [Lnc.readBit, hq, hc]
    have hsum : q + 1 + n = q + (n + 1) := by omega
    have hsync : (decide (10 ≤ q + 1) || decide (0 < n ∧ 10 ≤ q + (n + 1)))
        = decide (0 < n + 1 ∧ 10 ≤ q + (n + 1)) := by
      rw [Bool.eq_iff_iff, Bool.or_eq_true, decide_eq_true_iff, decide_eq_true_iff, decide_eq_true_iff]
      omega
    show (List.replicate n true).foldl Lnc.readBit (l.readBit true) = _
    rw [hb, ih { l with quiet := some (q + 1), synced := l.synced || decide (10 ≤ q + 1) } (q + 1) rfl hc]
    simp only [hsum, Bool.or_assoc, hsync]

/-- Settles O5. -/
theorem lineFrameRoundTrip : Obligations.line_frame_round_trip := by
  refine ⟨fun f n hw hs h8 => ⟨validFrame_bytes hw hs h8, f.bytes_length⟩,
    fun s t ht => ⟨?_, fun h => ?_, fun h => ?_⟩, fun s h => ⟨?_, ?_⟩, fun l q n bytes hq hs hc hb => ?_,
    fun l n hq hs hc => ?_⟩
  · rw [State.ltxen, ht, ← frameBits_length]
    exact decide_eq_true_iff
  · rw [State.ltx, ht]
    exact List.getD_eq_getElem _ _ h
  · rw [State.ltx, ht]
    exact List.getD_eq_default _ _ (by rw [Transmission.bits, frameBits_length]; exact h)
  · rw [State.ltxen, h]
  · rw [State.ltx, h]
  · rw [List.foldl_append, readBits_frameBits bytes hb hq hs hc,
      readBits_recessive n { l with quiet := some 0 } 0 rfl hc]
    simp [hs]
  · rw [readBits_recessive n l 0 hq hc]
    have h : decide (0 < n ∧ 10 ≤ 0 + n) = decide (10 ≤ n) := by
      rw [decide_eq_decide]
      omega
    rw [h, hs, Bool.false_or, Nat.zero_add]

end Sys2Proof.Machine
end

section
/-! SUPPORT. Where RUN_REQ and AUTH come from (R6, R23, R112): row by row, RUN_REQ rises only with the slot
in view or with authority taken from WATCH, and AUTH only from WATCH. -/

namespace Sys2Proof.Machine

/-- From `s` to `t` RUN_REQ has risen only with the own station in view or with authority taken from WATCH
with the drive ready, and AUTH only from WATCH. -/
structure Rises (s t : State) : Prop where
  run : t.rsq.runReq = true → s.rsq.runReq = true ∨ t.ssu.holder = some t.ownStation
    ∨ (s.rsq.state = .watch ∧ s.drvReady = true)
  auth : t.auth = true → s.auth = true ∨ s.rsq.state = .watch

/-- RUN_REQ stands, has fallen, or has been set with the own station in view. -/
def SlotRun (s t : State) : Prop :=
  t.rsq.runReq = true → s.rsq.runReq = true ∨ t.ssu.holder = some t.ownStation

/-! ### The slot -/

namespace SlotRun

variable {s t u : State}

theorem of_run (h : t.rsq.runReq = s.rsq.runReq) : SlotRun s t := fun ht => .inl (h ▸ ht)

theorem fallen (h : t.rsq.runReq = false) : SlotRun s t := fun ht => absurd ht (by simp [h])

theorem before (h : t.rsq.runReq = true → s.rsq.runReq = true) (k : SlotRun t u) : SlotRun s u :=
  fun hu => (k hu).imp_left h

theorem after (h : SlotRun s t) (k : u.rsq.runReq = t.rsq.runReq ∧ u.ssu.holder = t.ssu.holder
    ∧ u.cpn.straps = t.cpn.straps) : SlotRun s u := by
  obtain ⟨hrun, hholder, hstraps⟩ := k
  intro hu
  rw [hholder, State.ownStation, hstraps]
  exact h (hrun ▸ hu)

/-- A take leaves the own station in view (R112). -/
theorem takeSlot (n : Nat) (s : State) : SlotRun s (takeSlot n s) := fun _ => .inr (by
  simp [Machine.takeSlot, slotTaken, State.ownStation])

theorem actOnRequest (s : State) : SlotRun s (actOnRequest s) := by
  unfold Machine.actOnRequest
  split
  · split
    · exact of_run (by simp)
    · split
      · exact takeSlot _ s
      · exact of_run rfl
    · split
      · exact takeSlot _ s
      · exact of_run rfl
    all_goals exact of_run rfl
  · exact of_run rfl

theorem evalPreconditions (s : State) : SlotRun s (evalPreconditions s) := by
  unfold Machine.evalPreconditions
  split
  · split
    · unfold enterQueued
      dsimp only
      split
      · exact of_run (by simp)
      · exact (actOnRequest _).before (by simp)
    · exact of_run rfl
  · split
    · exact of_run rfl
    · exact of_run (by simp [returnToStopped])
  all_goals exact of_run rfl

theorem changeLine (q : LineState) (s : State) : SlotRun s (changeLine q s) := by
  have hline : ∀ u : State, SlotRun u (startLineChange q (drawLineChange q u)) := fun u => by
    cases q with
    | active => exact (actOnRequest (drawViewChange u)).before (by simp)
    | deaf | barred => exact (actOnRequest (withdrawStart (drawLineLost u))).before (by simp)
    | off | listen => exact of_run rfl
  have hnoted : SlotRun s _ := (hline (notify .lineChanged { s with lnc := { s.lnc with line := q } })).before
    (by simp)
  exact hnoted.after (u := lineBeacon q (firstPointTest _)) (by simp)

theorem takeReady (e : Nat) (l : Option Nat) (s : State) : SlotRun s (takeReady e l s) := by
  unfold Machine.takeReady
  split
  · exact (evalPreconditions _).before (by simp)
  · split
    · exact (evalPreconditions _).before (by simp)
    · exact of_run rfl

end SlotRun

/-! ### Authority -/

/-- The sequencer's moves take no authority (R1). -/
theorem SeqMoved.auth {s t : State} (m : SeqMoved s t) (h : t.auth = true) : s.auth = true := by
  have hpend : mayPend s.rsq.state = true → s.auth = true := fun hp => by
    unfold State.auth
    cases hs : s.rsq.state <;> simp_all [mayPend, hasAuthority]
  rcases m.moves with ⟨hstate, -⟩ | ⟨hp, -⟩ | ⟨hp, -⟩
  · rwa [State.auth_congr hstate] at h
  · exact hpend hp
  · exact hpend hp

/-- A stop event that is taken finds authority or WATCH, and leaves STOPPED or goes on from there (R5). -/
theorem State.stopMet_auth {s u : State} {c : Cause} {e : Option Nat} (h : s.stopMet c e = some u) :
    s.auth = true ∨ s.rsq.state = .watch := by
  unfold State.stopMet at h
  split at h
  iterate 3 exact nomatch h
  · next hs => exact .inr hs
  all_goals next hs => exact .inl (by simp [State.auth, hs, hasAuthority])

/-- RUN_REQ as a stop event finds it: authority taken from WATCH sets it from DRV_READY (R6). -/
theorem State.stopMet_runReq {s u : State} {c : Cause} {e : Option Nat} (h : s.stopMet c e = some u) :
    u.rsq.runReq = if s.rsq.state = .watch then s.drvReady else s.rsq.runReq := by
  unfold State.stopMet at h
  split at h
  iterate 3 exact nomatch h
  all_goals
    next hs =>
    cases h
    simp [hs, authorityTaken, causeMerged, handbackStopped]

/-- Stop entry keeps RUN_REQ but for a DIP stop, which clears it (R7). -/
theorem stopEntry_runReq (c : Cause) (b u : State) :
    (stopEntry c b u).rsq.runReq = (u.rsq.runReq && decide (c ≠ .dip)) :=
  (stopEntry_does c b u).2.2.1

namespace Rises

variable {s t u : State}

theorem of_moves (m : SeqMoved s t) (r : SlotRun s t) : Rises s t :=
  ⟨fun ht => (r ht).imp_right .inl, fun ht => .inl (m.auth ht)⟩

theorem of_same (h : t.rsq.state = s.rsq.state ∧ t.rsq.runReq = s.rsq.runReq) : Rises s t :=
  ⟨fun ht => .inl (h.2 ▸ ht), fun ht => .inl ((State.auth_congr h.1).symm.trans ht)⟩

theorem refl (s : State) : Rises s s := of_same ⟨rfl, rfl⟩

/-- RUN_REQ is clear, and there was authority, or there is none. -/
theorem of_clear (hr : t.rsq.runReq = false) (ha : s.auth = true ∨ t.auth = false) : Rises s t :=
  ⟨fun ht => absurd ht (by simp [hr]), fun ht => ha.elim .inl fun h => absurd ht (by simp [h])⟩

theorem before (k : Rises t u) (h : t.rsq.state = s.rsq.state ∧ t.rsq.runReq = s.rsq.runReq
    ∧ t.drvReady = s.drvReady) : Rises s u := by
  obtain ⟨hstate, hrun, hdrive⟩ := h
  refine ⟨fun hu => ?_, fun hu => ?_⟩
  · rw [← hrun, ← hstate, ← hdrive]
    exact k.run hu
  · rw [← State.auth_congr hstate, ← hstate]
    exact k.auth hu

theorem after (h : Rises s t) (k : u.rsq.state = t.rsq.state ∧ u.rsq.runReq = t.rsq.runReq
    ∧ u.ssu.holder = t.ssu.holder ∧ u.cpn.straps = t.cpn.straps) : Rises s u := by
  obtain ⟨hstate, hrun, hholder, hstraps⟩ := k
  refine ⟨fun hu => ?_, fun hu => h.auth ((State.auth_congr hstate).symm.trans hu)⟩
  rw [hholder, State.ownStation, hstraps]
  exact h.run (hrun ▸ hu)

theorem stamp (b : State) (h : Rises s t) : Rises s (stampFault b t) :=
  h.after (by rw [stampFault_does]; simp)

theorem stop (c : Cause) (e : Option Nat) (s : State) : Rises s (stopEvent c e s) := by
  rw [stopEvent_eq]
  cases hmet : s.stopMet c e with
  | none => exact refl s
  | some u =>
    refine ⟨fun ht => ?_, fun _ => State.stopMet_auth hmet⟩
    rcases SlotRun.evalPreconditions _ ht with hrun | hholder
    · rw [stopEntry_runReq, Bool.and_eq_true, State.stopMet_runReq hmet] at hrun
      by_cases hw : s.rsq.state = .watch
      · exact .inr (.inr ⟨hw, by simpa [hw] using hrun.1⟩)
      · exact .inl (by simpa [hw] using hrun.1)
    · exact .inr (.inl hholder)

theorem preconditions (s : State) : Rises s (evalPreconditions s) :=
  of_moves (.evalPreconditions s) (.evalPreconditions s)

theorem request (s : State) : Rises s (actOnRequest s) := of_moves (.actOnRequest s) (.actOnRequest s)

theorem line (q : LineState) (s : State) : Rises s (changeLine q s) :=
  of_moves (.changeLine q s) (.changeLine q s)

theorem ready (e : Nat) (l : Option Nat) (s : State) : Rises s (takeReady e l s) :=
  of_moves (.takeReady e l s) (.takeReady e l s)

theorem adopt (b : BeaconFields) (s : State) : Rises s (adoptEpoch b s) :=
  of_moves (.adoptEpoch b s) ((SlotRun.evalPreconditions _).before (by simp))

theorem begins (e : Nat) (s : State) : Rises s (takeBegin e s) := by
  unfold takeBegin
  split
  · have hstop := stop .tundish (some e)
      { s with dbu := { s.dbu with epoch := e, phase := .opened, learned := true, mismatch := false } }
    have hs := hstop.before (s := s) ⟨rfl, rfl, rfl⟩
    exact hs.after (u := requestBeacon _) (by simp)
  · exact refl s

theorem deaf (d : Nat) (s : State) : Rises s (goDeaf d s) :=
  (line .deaf (Machine.capture .lineDeaf d s)).before (by simp [State.drvReady])

/-! ### The rows of the line -/

theorem taken {f : State → State} (h : Rises s (f s)) : Rises s (frameTaken f s) := by
  unfold frameTaken
  split
  · exact h
  · exact of_same (by simp)

/-- An operation of the sequencer's moves that leaves RUN_REQ and DRV_READY alone may go before. -/
theorem moved (m : SeqMoved s t) (hr : t.rsq.runReq = s.rsq.runReq) (hd : t.drvReady = s.drvReady)
    (k : Rises t u) : Rises s u := by
  have hwatch : t.rsq.state = .watch → s.rsq.state = .watch := fun hw => by
    rcases m.moves with ⟨hstate, -⟩ | ⟨-, hp, -⟩ | ⟨-, hp, -⟩
    · exact hstate.symm.trans hw
    · simp [hw, mayPend] at hp
    · simp [hw] at hp
  exact ⟨fun hu => (k.run hu).imp (hr ▸ ·) (Or.imp_right fun h => ⟨hwatch h.1, hd ▸ h.2⟩),
    fun hu => (k.auth hu).imp m.auth hwatch⟩

end Rises

/-- On an ACTIVE line a standing request forms its claim and takes no slot (R105). -/
theorem actOnRequest_runReq {s : State} (h : s.lnc.line = .active) :
    (actOnRequest s).rsq.runReq = s.rsq.runReq := by
  unfold actOnRequest
  split
  · simp [h]
  · rfl

theorem changeLine_active_runReq (s : State) : (changeLine .active s).rsq.runReq = s.rsq.runReq := by
  simp [changeLine, startLineChange, drawLineChange, actOnRequest_runReq]

/-- A valid peer frame brings back the line at most, which takes no slot and no authority (R148, R152). -/
theorem receivePeer_moved (s : State) : SeqMoved s (receivePeer s)
    ∧ (receivePeer s).rsq.runReq = s.rsq.runReq ∧ (receivePeer s).drvReady = s.drvReady := by
  unfold receivePeer
  dsimp only
  split
  · exact ⟨.of_fields (by simp), rfl, rfl⟩
  · split
    · exact ⟨(SeqMoved.of_fields (by simp)).trans (.changeLine _ _), by simp [changeLine_active_runReq],
        by simp [State.drvReady]⟩
    · exact ⟨.of_fields (by simp), rfl, rfl⟩

namespace Rises

variable {s t u : State}

/-- A row of a line frame. -/
theorem frameRow {f : State → State} {c : Bool} (hf : ∀ u, Rises u (f u)) :
    LeadsTo (Rises s) (released s (occur (whenever c (frameTaken fun s => f (receivePeer s))) s)) := by
  refine .released (refl s) (.next (stamp _ ?_))
  cases c with
  | false => exact refl s
  | true =>
    obtain ⟨hm, hr, hd⟩ := receivePeer_moved s
    exact taken (f := fun s => f (receivePeer s)) ((hf _).moved hm hr hd)

/-- A row with an occasion. -/
theorem row {f : State → State} {c : Bool} (h : c = true → Rises s (f s)) :
    LeadsTo (Rises s) (released s (occur (whenever c f) s)) := by
  refine .released (refl s) (.next (stamp _ ?_))
  cases c with
  | false => exact refl s
  | true => exact h rfl

/-- A row that captures nothing. -/
theorem quietRow {f : State → State} {c : Bool} (h : Rises s (f s)) :
    LeadsTo (Rises s) (released s (.next (whenever c f s))) := by
  refine .released (refl s) (.next ?_)
  cases c with
  | false => exact refl s
  | true => exact h

theorem replied {code : Byte} {status : Status} {data : List Byte} (h : Rises s t) :
    Rises s (answer code status data t) := h.after (by simp)

theorem occurs {f : State → State} {code : Byte} {data : List Byte} (h : Rises s (f s)) :
    LeadsTo (Rises s) (occur (fun s => answer code .ok data (f s)) s) :=
  .next (stamp _ (replied h))

/-! ### Operations of the rows -/

theorem deafened (s : State) : Rises s (takeBadFrame s) := by
  unfold takeBadFrame
  dsimp only
  split
  · exact of_same (by simp)
  · split
    · exact .before (deaf detailErrors _) ⟨rfl, rfl, rfl⟩
    · exact of_same (by simp)

theorem listened (s : State) : Rises s (endListen s) := by
  unfold endListen
  dsimp only
  split
  · exact .before (deaf detailErrors _) ⟨rfl, rfl, rfl⟩
  · exact .before (line .active _) ⟨rfl, rfl, rfl⟩

theorem event (e l : Nat) (s : State) : Rises s (takeReadyEvent e l s) := by
  unfold takeReadyEvent
  dsimp only
  split
  · exact ready ..
  · exact (ready e (some l) s).after (by simp)

theorem repaired (b : BeaconFields) (s : State) : Rises s (repairTundish b s) := by
  unfold repairTundish
  split
  · exact adopt b s
  · split
    · split
      · exact ready ..
      · exact begins ..
    · split
      · exact ready ..
      · exact refl s

theorem beacon (k : Nat) (b : BeaconFields) (s : State) : Rises s (takeBeacon k b s) := by
  have hdraw : ∀ u, Rises u (drawBeacon k b u) := fun u => (repaired b u).after (by simp [drawBeacon])
  have hheld : ∀ u : State, (beaconHolder k b u).rsq = u.rsq ∧ (beaconHolder k b u).spu = u.spu := fun u => by
    unfold beaconHolder
    split
    · simp
    · split <;> simp
  unfold takeBeacon
  refine .before (hdraw _) ?_
  split <;> simp [State.drvReady, hheld, takeBeaconEntry, removeClaims, setPeer]

theorem own (body : FrameBody) (s : State) : Rises s (takeOwn body s) := by
  cases body with
  | beacon => exact of_same ⟨rfl, rfl⟩
  | claim c =>
    unfold takeOwn drawSent startSent
    dsimp only
    split <;> split <;> exact of_same ⟨rfl, rfl⟩
  | withdraw | release | clear => exact refl s
  | eventBegin e => exact begins e s
  | eventReady e l => exact event e l s

theorem slot (n : Nat) (s : State) : Rises s (takeSlot n s) := of_moves (.takeSlot n s) (.takeSlot n s)

theorem startSettles (s : State) : Rises s (settleStart s) := by
  unfold settleStart
  split
  · exact slot ..
  · exact of_same (by simp [startWaits])

theorem drawSettles (s : State) : Rises s (firstPointTest (requestBeacon (countSettled (settleDraw s)))) := by
  have hsettled : SeqMoved s (countSettled (settleDraw s)) ∧ (countSettled (settleDraw s)).rsq.runReq = s.rsq.runReq := by
    unfold countSettled
    split <;> exact ⟨.of_fields (by simp [settleDraw]), by simp [settleDraw]⟩
  obtain ⟨hmoved, hrun⟩ := hsettled
  exact of_moves (hmoved.trans ((SeqMoved.of_fields (by simp)).trans (.firstPointTest _)))
    (.of_run (by simp [hrun]))

theorem selfTake (s : State) : Rises s (selfTakeTest (refreshUrgency s)) := by
  unfold selfTakeTest
  split
  · exact (request _).before (by simp [State.drvReady])
  · exact (request _).before (by simp [State.drvReady])
  all_goals exact of_same (by simp)

/-- The tenure timer: a timeout gives RUN_REQ up before a slot is taken again, and finds authority for
ABANDONED where a tenure stands in its place (R113, R114). -/
theorem timeout (h : s.auth = true) : Rises s (tenureTimeout s) := by
  unfold tenureTimeout
  split
  · exact of_same (by simp)
  · split
    · refine of_moves ((SeqMoved.startTimeout 1 s).trans (.actOnRequest _)) ?_
      exact (SlotRun.actOnRequest _).before (by simp [startTimeout])
    · exact of_clear (by simp) (.inl h)

theorem ticked (s : State) : Rises s (takeTick s) := by
  by_cases hs : s.rsq.state = .ramping
  · exact ⟨fun ht => .inl (by simpa using ht), fun _ => .inl (by simp [State.auth, hs, hasAuthority])⟩
  · exact of_same (by simp [takeTick, hs])

theorem given (s : State) : Rises s (giveFeedback s) := of_same (by
  unfold giveFeedback tenureCreepTest
  split <;> split <;> simp)

theorem record (bytes : List Byte) (ff : Bool) (s : State) : Rises s (recordEnd bytes ff s) := by
  unfold recordEnd
  dsimp only
  split
  · exact of_same (by simp)
  · split
    · exact .before (given _) ⟨rfl, rfl, rfl⟩
    · exact of_same (by simp)

/-- A DIP stop sets RUN_REQ with the slot alone (R6, R7). -/
theorem dipStop (s : State) : SlotRun s (stopEvent .dip none s) := by
  rw [stopEvent_eq]
  cases hmet : s.stopMet .dip none with
  | none => exact .of_run rfl
  | some u => exact (SlotRun.evalPreconditions _).before (by simp [stopEntry_runReq])

/-- A drive that comes ready moves the sequencer as its test does, and leaves RUN_REQ alone (R15, R116). -/
theorem driveRise (s : State) : SeqMoved s (drvReadyRise s) ∧ (drvReadyRise s).rsq.runReq = s.rsq.runReq := by
  have hdrive : SeqMoved s (driveTest s) := .driveTest s
  unfold drvReadyRise
  dsimp only
  split
  · exact ⟨hdrive.trans (.of_fields (by simp)), by simp⟩
  · exact ⟨hdrive, by simp⟩

/-- The edge of an input's accepted change (R158). -/
theorem edge (i : Input) (raw : Bool) (s : State) : Rises s (giveEdge i raw (s.withInput i raw)) := by
  cases i with
  | supplyOk =>
    refine .before ?_ (t := s.withInput .supplyOk raw) ⟨rfl, rfl, rfl⟩
    cases raw with
    | true => exact preconditions _
    | false => exact stop ..
  | drvReady =>
    cases raw with
    | true =>
      obtain ⟨hmoved, hrun⟩ := driveRise (s.withInput .drvReady true)
      exact of_moves ((SeqMoved.of_fields (by simp [State.withInput])).trans hmoved) (.of_run hrun)
    | false =>
      show Rises s (if _ then stopEvent .dip none (s.withInput .drvReady false) else _)
      split
      · exact ⟨fun ht => (dipStop _ ht).imp_right .inl, (stop .dip none (s.withInput .drvReady false)).auth⟩
      · exact of_same ⟨rfl, rfl⟩
  | brkIn =>
    refine .before ?_ (t := s.withInput .brkIn raw) ⟨rfl, rfl, rfl⟩
    cases raw with
    | true => exact stop ..
    | false => exact refl _
  | dummyIn => exact .before (preconditions (s.withInput .dummyIn raw)) ⟨rfl, rfl, rfl⟩

theorem sampled (i : Input) (raw : Bool) (s : State) : Rises s (sampleInput i raw s) := by
  by_cases h : Accepts s i raw
  · rw [sampleInput_accepts h]
    exact (edge i raw s).stamp s
  · rw [sampleInput_counts h]
    exact of_same ⟨rfl, rfl⟩

end Rises

theorem claimsLeave_same (gone : ClaimEntry → Bool) (s : State) :
    (claimsLeave gone s).rsq.state = s.rsq.state ∧ (claimsLeave gone s).rsq.runReq = s.rsq.runReq := by
  unfold claimsLeave
  dsimp only
  split <;> simp [removeClaims]

theorem readLevels_rsq (levels : List Bool) (s : State) : (readLevels levels s).rsq = s.rsq := by
  unfold readLevels
  split <;> rfl

theorem tryStart_rsq (s : State) : (tryStart s).rsq = s.rsq := by
  unfold tryStart
  split
  · next h _ => cases h <;> rfl
  · rfl

/-! ### Every row but the sample of all four inputs -/

/-- A tenure in its place stands with authority (R114). -/
theorem SlotPlaced.auth_of_tenure {s : State} (h : SlotPlaced s) (ht : s.ssu.tenure = true) : s.auth = true := by
  obtain ⟨-, -, htenure⟩ := h
  rcases (htenure ht).1 with hs | hs <;> simp [State.auth, hs, hasAuthority]

/-- Each row raises RUN_REQ and AUTH as the rules say; the sample of the four inputs is a sequence of
samples (R157). -/
theorem exec_rises {c : Instr} {s : State} (hc : ∀ raw, c ≠ .inputFilterSample raw) (h : SlotPlaced s) :
    LeadsTo (Rises s) (exec c s) := by
  have stay : Rises s s := .refl s
  cases c with
  | inputFilterSample raw => exact absurd rfl (hc raw)
  | softReset | pinReset =>
    have hreset : ∀ t : State, t.rsq = Rsq.reset → Rises s t := fun t ht =>
      .of_clear (by rw [ht]; rfl) (.inr (by rw [State.auth, ht]; rfl))
    first
      | exact .released stay (.next (hreset _ rfl))
      | exact .next (hreset _ rfl)
  | nop | identify | getStatus | getClaims | getFault | clearFault =>
    exact .released stay (.next (.of_same ⟨rfl, rfl⟩))
  | loadStrand | loadCause | loadSlice =>
    refine .released stay ?_
    split
    · exact .next stay.replied
    · split
      · exact .next (.of_same ⟨rfl, rfl⟩)
      · exact .next stay.replied
  | join =>
    refine .released stay ?_
    split
    · exact .next stay.replied
    · split
      · exact .next stay.replied
      · refine Rises.occurs ⟨fun ht => .inl ?_, fun ht => absurd ht ?_⟩
        · rwa [joinLine_rsq] at ht
        · simp [State.auth, joinLine_rsq, hasAuthority]
  | cast =>
    refine .released stay ?_
    split
    · refine .next (Rises.replied ⟨fun ht => .inl (by simpa [moveIdle] using ht), fun ht => absurd ht ?_⟩)
      simp [State.auth, moveIdle, hasAuthority]
    · exact .next stay.replied
  | park =>
    refine .released stay ?_
    split
    · refine .next (Rises.replied ⟨fun ht => .inl (by simpa [moveIdle] using ht), fun ht => absurd ht ?_⟩)
      simp [State.auth, moveIdle, hasAuthority]
    iterate 2 exact Rises.occurs (.of_clear (by simp) (.inr (by simp [State.auth, hasAuthority])))
    all_goals exact .next stay.replied
  | stop code =>
    refine .released stay ?_
    split
    · split
      · exact Rises.occurs (.stop ..)
      · exact .next stay.replied
    · exact .next stay.replied
  | release =>
    refine .released stay ?_
    split
    · exact Rises.occurs (.before (.preconditions _) ⟨rfl, rfl, rfl⟩)
    · exact .next stay.replied
  | take =>
    refine .released stay ?_
    split
    iterate 5 exact Rises.occurs (.of_clear (by simp) (.inr (by simp [State.auth, hasAuthority])))
    all_goals exact .next stay.replied
  | tundishBegin | tundishReady =>
    refine .released stay ?_
    split
    · exact .next (.of_same ⟨rfl, rfl⟩)
    · exact .next stay.replied
  | getPeer | getReport =>
    refine .released stay ?_
    split <;> exact .next stay.replied
  | commandRecordRejected bytes =>
    refine .released stay ?_
    split
    · exact .next stay.replied
    · exact .next stay
  | emptyFrame => exact .released stay (.next stay)
  | strapLatched pins => exact Rises.quietRow (.of_same (by rw [sampleStraps_does]; simp))
  | inputEdgeAccepted edge => exact Rises.quietRow (.sampled _ _ s)
  | sampleRecord bytes ff => exact Rises.row fun _ => .record bytes ff s
  | samplesGoStale =>
    refine Rises.row fun _ => .of_same ?_
    unfold goStale
    dsimp only
    split <;> simp
  | referenceRecordStart | referenceRecordEnd => exact Rises.quietRow (.of_same ⟨rfl, rfl⟩)
  | rampTick | dwellEnd | levelHoldTimeout => exact Rises.row fun _ => .ticked s
  | freezeExpiry =>
    exact Rises.row fun he => .of_clear (by simp [expireFreeze]) (.inl (Kept.auth_of_freezeExpired he))
  | marginTimerExpiry => exact Rises.row fun _ => .selfTake s
  | handbackTimerExpiry => exact Rises.row fun _ => .of_same (by simp)
  | drawSettle => exact Rises.row fun _ => .drawSettles s
  | startSettleExpiry => exact Rises.row fun _ => .startSettles s
  | tenureTimerExpiry =>
    exact Rises.row fun hc => .timeout (h.auth_of_tenure (by simp_all))
  | beaconTimerExpiry => exact Rises.quietRow (.of_same (by simp))
  | listenTimerExpiry => exact Rises.row fun _ => .listened s
  | silenceTimerExpiry => exact Rises.row fun _ => .deaf _ s
  | transmissionStart levels =>
    refine .released stay (.next (.of_same ?_))
    rw [tryStart_rsq, readLevels_rsq]
    exact ⟨rfl, rfl⟩
  | transmissionAbort =>
    refine .released stay ?_
    split
    · refine .next (.of_same ?_)
      unfold abortFrame
      split <;> simp
    · exact .next stay
  | ownFrameEnd =>
    refine .released stay ?_
    split
    · exact .next (.stamp _ (.before (.own _ _) ⟨rfl, rfl, rfl⟩))
    · exact .next stay
  | beaconReceived k b => exact Rises.frameRow fun u => .beacon k b u
  | claimReceived k f =>
    exact Rises.frameRow (f := fun u => drawViewChange (enterClaim (u.claimEntry k f) u)) fun u =>
      .of_same (by simp [enterClaim])
  | withdrawReceived k kind n => exact Rises.frameRow fun u => .of_same (by simp [claimsLeave_same])
  | releaseReceived k r =>
    refine Rises.frameRow fun u => .of_same ?_
    unfold takeRelease
    dsimp only
    split <;> simp [setPeer]
  | clearReceived k n =>
    refine Rises.frameRow fun u => .of_same ?_
    unfold takeClear
    split
    · split <;> simp
    · simp
  | eventBeginReceived k e => exact Rises.frameRow fun u => .begins e u
  | eventReadyReceived k e l => exact Rises.frameRow fun u => .event e l u
  | badFrameReceived bytes ff => exact Rises.row fun _ => .taken (.deafened s)
  | duplicateStation kind =>
    exact Rises.row fun _ => .taken (.before (.line .barred _) (by simp [State.drvReady]))
  | peerSuspect k => exact Rises.row fun _ => .of_same (by simp [goSuspect, setPeer])
  | peerLost k =>
    refine Rises.row fun _ => .of_same ?_
    unfold goLost loseHolder
    dsimp only
    split <;> split <;> simp [removeClaims, setPeer]
  | claimLifetimeExpiry k kind => exact Rises.row fun _ => .of_same (by simp [claimsLeave_same])

/-! ### The sample of the four inputs (R157) -/

/-- A condition on the state that one sample keeps: it reads no count, no level and no fault, and the edge
keeps it. -/
theorem sampleInput_keeps {P : State → Prop} {i : Input} {raw : Bool} {s : State} (h : P s)
    (hcount : P s → P (s.countInput i raw)) (hstamp : ∀ {u}, P u → P (stampFault s u))
    (hedge : raw ≠ s.filtered i → P (giveEdge i raw (s.withInput i raw))) : P (sampleInput i raw s) := by
  by_cases ha : Accepts s i raw
  · rw [sampleInput_accepts ha]
    exact hstamp (hedge ha.1)
  · rw [sampleInput_counts ha]
    exact hcount h

/-- The state has authority, or may take it at a stop (R1, R6). -/
def State.mayTake (s : State) : Prop := s.auth = true ∨ s.rsq.state = .watch

theorem State.mayTake_congr {s t : State} (h : t.rsq.state = s.rsq.state) : t.mayTake ↔ s.mayTake := by
  unfold State.mayTake
  rw [State.auth_congr h, h]

theorem SeqMoved.mayTake {s t : State} (m : SeqMoved s t) (h : t.mayTake) : s.mayTake := by
  rcases h with ha | hw
  · exact .inl (m.auth ha)
  · rcases m.moves with ⟨hstate, -⟩ | ⟨-, hp, -⟩ | ⟨-, hp, -⟩
    · exact .inr (hstate.symm.trans hw)
    · simp [hw, mayPend] at hp
    · simp [hw] at hp

/-- An edge leads to WATCH or to authority from there alone. -/
theorem giveEdge_mayTake (i : Input) (raw : Bool) (s : State) (h : (giveEdge i raw s).mayTake) : s.mayTake := by
  have hstop : ∀ c e, (stopEvent c e s).mayTake → s.mayTake := fun c e ht => by
    rw [stopEvent_eq] at ht
    cases hmet : s.stopMet c e with
    | none => rwa [hmet] at ht
    | some u => exact State.stopMet_auth hmet
  cases i with
  | supplyOk => cases raw with
    | true => exact (SeqMoved.evalPreconditions s).mayTake h
    | false => exact hstop _ _ h
  | drvReady => cases raw with
    | true => exact (Rises.driveRise s).1.mayTake h
    | false =>
      change (if _ then stopEvent .dip none s else s : State).mayTake at h
      split at h
      · exact hstop _ _ h
      · exact h
  | brkIn => cases raw with
    | true => exact hstop _ _ h
    | false => exact h
  | dummyIn => exact (SeqMoved.evalPreconditions s).mayTake h

theorem sampleInput_mayTake (i : Input) (raw : Bool) (s : State) (h : (sampleInput i raw s).mayTake) :
    s.mayTake := by
  refine sampleInput_keeps (P := fun t => t.mayTake → s.mayTake) id (fun _ => id) (fun {u} hu ht => hu ?_)
    (fun _ => giveEdge_mayTake i raw _) h
  rw [stampFault_does] at ht
  exact ht

/-- A pending record keeps the sequencer in STOPPED whatever DUMMY_IN shows (R13, R14). -/
structure Stuck (s : State) : Prop where
  stopped : s.rsq.state = .stopped
  cause : (s.rsq.pendingSet.dip.isSome = true ∧ s.filtered .supplyOk = false)
    ∨ ∃ r, s.rsq.pendingSet.breakout = some r ∧ r.latch = some false

namespace Stuck

variable {s t : State}

theorem congr (h : Stuck s) (hs : t.rsq.state = s.rsq.state) (hp : t.rsq.pendingSet = s.rsq.pendingSet)
    (hi : t.filtered .supplyOk = s.filtered .supplyOk) : Stuck t :=
  ⟨hs.trans h.stopped, by rw [hp, hi]; exact h.cause⟩

theorem allMet (h : Stuck s) : s.allMet = false := by
  rcases h.cause with ⟨hdip, hsupply⟩ | ⟨r, hbreak, hlatch⟩
  · obtain ⟨r, hr⟩ := Option.isSome_iff_exists.mp hdip
    simp [State.allMet, allCauses, PerCause.get, hr, State.preconditionMet, hsupply]
  · simp [State.allMet, allCauses, PerCause.get, hbreak, State.preconditionMet, hlatch]

theorem stays (h : Stuck s) : evalPreconditions s = s := by
  simp [evalPreconditions, h.stopped, h.allMet]

end Stuck

/-- Where the sample of the inputs is after each input, begun in WATCH with RUN_REQ clear: still there, or
in STOPPED for good; RUN_REQ is set only if `b` allows it and the drive is ready. -/
structure FromWatch (b : Prop) (s : State) : Prop where
  run : s.rsq.runReq = true → b ∧ s.drvReady = true
  place : s.rsq.state = .watch ∨ Stuck s

namespace FromWatch

variable {b : Prop} {s t : State}

theorem same (h : FromWatch b s) (hr : t.rsq = s.rsq) (hi : t.drvReady = s.drvReady)
    (hf : t.filtered .supplyOk = s.filtered .supplyOk) : FromWatch b t where
  run ht := by
    rw [hr] at ht
    rw [hi]
    exact h.run ht
  place := by
    rw [hr]
    exact h.place.imp_right fun hs => hs.congr (by rw [hr]) (by rw [hr]) hf

theorem stays (h : FromWatch b s) : evalPreconditions s = s := by
  rcases h.place with hs | hs
  · simp [evalPreconditions, hs]
  · exact hs.stays

theorem sampled {i : Input} {raw : Bool} (h : FromWatch b s)
    (hedge : raw ≠ s.filtered i → FromWatch b (giveEdge i raw (s.withInput i raw))) :
    FromWatch b (sampleInput i raw s) :=
  sampleInput_keeps h (fun h => h.same rfl (s.filtered_countInput i .drvReady raw)
      (s.filtered_countInput i .supplyOk raw))
    (fun {u} hu => hu.same (by rw [stampFault_does]) (by rw [stampFault_does]; rfl)
      (by rw [stampFault_does]; rfl)) hedge

/-- A stop event leaves STOPPED for good where it makes a record pend that is not met (R6, R10, R11). -/
theorem stopped {c : Cause} (hr : t.rsq.runReq = true → c ≠ .dip → b ∧ t.drvReady = true) (ht : Stuck t) :
    FromWatch b (evalPreconditions (stopEntry c s t)) := by
  have hs : Stuck (stopEntry c s t) := ht.congr (by simp) (by simp) (by simp [State.filtered])
  rw [hs.stays]
  refine ⟨fun hrun => ?_, .inr hs⟩
  rw [stopEntry_runReq, Bool.and_eq_true, decide_eq_true_eq] at hrun
  obtain ⟨hall, hdrive⟩ := hr hrun.1 hrun.2
  exact ⟨hall, by simpa [State.drvReady] using hdrive⟩

/-- A fall of SUPPLY_OK (R5, R6). -/
theorem supply (h : FromWatch b s) (hw : s.rsq.state = .watch) (raw : Bool) :
    FromWatch b (sampleInput .supplyOk raw s) := by
  refine h.sampled fun hne => ?_
  have hw' : (s.withInput .supplyOk raw).rsq.state = .watch := hw
  cases raw with
  | true => simpa [giveEdge, evalPreconditions, hw'] using ⟨h.run, .inl hw'⟩
  | false =>
    show FromWatch b (stopEvent .dip none (s.withInput .supplyOk false))
    rw [stopEvent, hw']
    exact stopped (fun _ hc => absurd rfl hc) ⟨rfl, .inl ⟨by simp [authorityTaken, PerCause.set], rfl⟩⟩

/-- Edges of DRV_READY find no request and RUN_REQ clear (R15, R158). -/
theorem drive (h : FromWatch False s) (raw : Bool) : FromWatch False (sampleInput .drvReady raw s) := by
  refine h.sampled fun _ => ?_
  have hrun : s.rsq.runReq = false := Bool.eq_false_iff.mpr fun hr => (h.run hr).1
  have h1 : FromWatch False (s.withInput .drvReady raw) :=
    ⟨fun hr => (h.run hr).1.elim, h.place.imp_right fun hs => hs.congr rfl rfl rfl⟩
  have hq : (s.withInput .drvReady raw).rsq.state ≠ .queued := fun hq => by
    rcases h1.place with hs | hs
    · simp [hq] at hs
    · have hstopped := hs.stopped
      simp [hq] at hstopped
  cases raw with
  | true =>
    show FromWatch False (drvReadyRise (s.withInput .drvReady true))
    have htest : driveTest (s.withInput .drvReady true) = s.withInput .drvReady true := by
      simp [driveTest, hq]
    unfold drvReadyRise
    simp only [htest]
    split
    · exact h1.same (by simp) (by simp [State.drvReady]) (by simp [State.filtered])
    · exact h1
  | false =>
    have hcalm : (s.withInput .drvReady false).rsq.runReq = false := hrun
    simpa [giveEdge, hcalm] using h1

/-- A rise of BRK_IN takes authority with the drive ready, or joins the pending causes (R5, R6, R11). -/
theorem brk (h : FromWatch False s) (raw : Bool) : FromWatch True (sampleInput .brkIn raw s) := by
  have h0 : FromWatch True s := ⟨fun hr => (h.run hr).1.elim, h.place⟩
  refine h0.sampled fun _ => ?_
  have h1 : FromWatch True (s.withInput .brkIn raw) := h0.same rfl rfl rfl
  cases raw with
  | false => exact h1
  | true =>
    show FromWatch True (stopEvent .breakout none (s.withInput .brkIn true))
    generalize s.withInput .brkIn true = u at h1 ⊢
    rcases h1.place with hs | hs
    · rw [stopEvent, hs]
      refine stopped (fun hr _ => ⟨trivial, hr⟩) ⟨rfl, .inr ⟨u.newRecord .breakout none, ?_, rfl⟩⟩
      unfold authorityTaken
      dsimp only
      split <;> rfl
    · rw [stopEvent, hs.stopped]
      refine stopped (fun hr _ => h1.run hr) ⟨rfl, .inr ?_⟩
      simp only [causeMerged, State.mergeCause, PerCause.get]
      split <;> exact ⟨_, rfl, rfl⟩

theorem dummy (h : FromWatch b s) (raw : Bool) : FromWatch b (sampleInput .dummyIn raw s) := by
  refine h.sampled fun _ => ?_
  have h1 : FromWatch b (s.withInput .dummyIn raw) := h.same rfl rfl rfl
  show FromWatch b (evalPreconditions (s.withInput .dummyIn raw))
  rwa [h1.stays]

end FromWatch

/-- The sample of the four inputs, begun in WATCH with RUN_REQ clear, sets it only with the drive ready after
the sample (R6, R157; entry 9). -/
theorem execInputFilterSample_fromWatch {raw : InputLevels} {s : State} (hw : s.rsq.state = .watch)
    (hrun : s.rsq.runReq = false) : LeadsTo (FromWatch True) (execInputFilterSample raw s) := by
  have hcalm : ∀ b, FromWatch b s := fun b => ⟨fun hr => absurd hr (by simp [hrun]), .inl hw⟩
  have h1 : FromWatch False { s with spu := { s.spu with sampled := true } } := (hcalm _).same rfl rfl rfl
  exact .released (hcalm _) (.next ((((h1.supply hw _).drive _).brk _).dummy _))

theorem execInputFilterSample_mayTake {raw : InputLevels} {s : State} :
    LeadsTo (fun t => t.mayTake → s.mayTake) (execInputFilterSample raw s) := by
  refine .released id (.next fun h => ?_)
  have hbrk := sampleInput_mayTake _ _ _ (sampleInput_mayTake _ _ _ h)
  have hstart := sampleInput_mayTake _ _ _ (sampleInput_mayTake _ _ _ hbrk)
  exact (State.mayTake_congr rfl).mp hstart

/-- Settles O23. -/
theorem runRequestRisesOnlyWithTheSlot : Obligations.run_request_rises_only_with_the_slot := by
  intro c s t hexec hplaced
  have hauth : (t.auth = true → s.auth = true ∨ s.rsq.state = .watch) →
      s.auth = false → t.auth = true → s.rsq.state = .watch := fun h hs ht =>
    (h ht).resolve_left (by simp [hs])
  by_cases hc : ∃ raw, c = .inputFilterSample raw
  · obtain ⟨raw, rfl⟩ := hc
    refine ⟨fun hw hs ht => ?_, hauth fun ht => ?_⟩
    · exact (((execInputFilterSample_fromWatch hw hs).of_next t hexec).run ht).2
    · exact execInputFilterSample_mayTake.of_next t hexec (.inl ht)
  · have hrises := (exec_rises (fun raw h => hc ⟨raw, h⟩) hplaced).of_next t hexec
    refine ⟨?_, hauth hrises.auth⟩
    have hrun : s.rsq.runReq = false → t.rsq.runReq = true →
        t.ssu.holder = some t.ownStation ∨ (s.rsq.state = .watch ∧ s.drvReady = true) := fun hs ht =>
      (hrises.run ht).resolve_left (by simp [hs])
    split
    · next raw => exact absurd ⟨raw, rfl⟩ hc
    · exact hrun

end Sys2Proof.Machine
end

section
/-! SUPPORT. What stop entry, the ends of authority and the end of the own claims do, as equations over the
state (R3, R7, R97, R111, R114), for the statements of stops, TAKE, PARK and ABANDONED. -/

namespace Sys2Proof.Machine

/-! ### The end of the own claims (R97, R111, R114) -/

/-- The DRAW unit after the own claim has ended. -/
def Dbu.claimEnded (d : Dbu) : Dbu :=
  { d with
    claim := .none
    need := if d.claim = .none then d.need else none
    settleAt := if d.claim.outstanding then none else d.settleAt }

/-- The start slot unit after request, claim and tenure have ended. -/
def State.slotEnded (s : State) : Ssu :=
  { s.ssu with
    request := false, claim := .none, settleAt := none, clearSent := false, tenure := false
    tenureAt := if s.ssu.tenure then none else s.ssu.tenureAt
    clearPending := s.ssu.clearPending && !s.ssu.tenure
    holder := if s.ssu.tenure = true ∧ s.ssu.holder = some s.ownStation then none else s.ssu.holder }

/-- The transmit queue after request, claims and tenure have ended. -/
def State.queueEnded (s : State) : List QueuedFrame :=
  s.releaseQueued .stopped (s.claimsWithdrawn s.lnc.queue)

/-- A line controller's beacon request, where `asked` says so. -/
def Lnc.askIf (l : Lnc) (asked : Bool) : Lnc := if asked then l.requestBeacon else l

@[simp] theorem Lnc.askIf_true (l : Lnc) : l.askIf true = l.requestBeacon := rfl

@[simp] theorem Lnc.askIf_false (l : Lnc) : l.askIf false = l := rfl

/-- A beacon request reads and sets no frame of the queue. -/
theorem Lnc.requestBeacon_queue (l : Lnc) (q : List QueuedFrame) :
    ({ l with queue := q } : Lnc).requestBeacon = { l.requestBeacon with queue := q } := by
  unfold Lnc.requestBeacon
  dsimp only
  split <;> rfl

theorem Lnc.askIf_queue (l : Lnc) (q : List QueuedFrame) (asked : Bool) :
    ({ l with queue := q } : Lnc).askIf asked = { l.askIf asked with queue := q } := by
  cases asked
  · rfl
  · exact l.requestBeacon_queue q

theorem Lnc.askIf_askIf (l : Lnc) (a b : Bool) : (l.askIf a).askIf b = l.askIf (a || b) := by
  cases a <;> cases b <;> simp

/-- A request sets the BEACON slot alone. -/
theorem Lnc.askIf_beacon (l : Lnc) (asked : Bool) : l.askIf asked = { l with beacon := (l.askIf asked).beacon } := by
  cases asked
  · rfl
  · unfold Lnc.askIf Lnc.requestBeacon
    cases l.line.allowsBeacon && decide (l.beacon = .empty) <;> rfl

/-- What ending the own claims, the request and the tenure does. -/
theorem withdrawClaims_eq (s : State) : withdrawClaims s = { s with
    dbu := s.dbu.claimEnded
    ssu := s.slotEnded
    pvu := { s.pvu with claims := s.claimsWithoutOwn }
    lnc := { s.lnc.askIf s.ssu.tenure with queue := s.queueEnded } } := by
  obtain ⟨-, -, -, -, -, hclaims, hqueue⟩ := withdrawClaims_ends s
  have hdraw : ∃ p q, withdrawStart { drawWithdraw s with ssu := { (drawWithdraw s).ssu with request := false } }
      = { s with
        dbu := s.dbu.claimEnded
        ssu := { s.ssu with request := false, claim := .none, settleAt := none, clearSent := false }
        pvu := { s.pvu with claims := p }
        lnc := { s.lnc with queue := q } } := by
    rw [drawWithdraw_ends, withdrawStart_ends]
    cases ho : s.dbu.claim.outstanding
    · exact ⟨_, _, by rw [Dbu.claimEnded, ho]; rfl⟩
    · exact ⟨_, _, by rw [Dbu.claimEnded, ho]; rfl⟩
  obtain ⟨p, q, hdraw⟩ := hdraw
  have hends : withdrawClaims s = { s with
      dbu := s.dbu.claimEnded
      ssu := s.slotEnded
      pvu := { s.pvu with claims := (withdrawClaims s).pvu.claims }
      lnc := { s.lnc.askIf s.ssu.tenure with queue := (withdrawClaims s).lnc.queue } } := by
    have hdef : withdrawClaims s = endTenure .stopped (withdrawStart
        { drawWithdraw s with ssu := { (drawWithdraw s).ssu with request := false } }) := rfl
    rw [hdef, hdraw, endTenure_ends _ _ rfl]
    cases ht : s.ssu.tenure
    · simp [State.slotEnded, ht]
    · simp [State.slotEnded, ht, Lnc.requestBeacon_queue, State.ownStation]
  rw [hclaims, hqueue] at hends
  exact hends

/-! ### The fault record and the overcommit condition through an occurrence (R100, R182) -/

/-- The fault record of `t` is that of `s`, or a rise of the overcommit condition has been captured on the
way from `s` to `t`, at the time of `s`. -/
def OvercommitOnWay (s t : State) : Prop :=
  ∃ v : State, v.cpn.fault = s.cpn.fault ∧ v.now = s.now ∧ v.joinedAt = s.joinedAt
    ∧ t.cpn.fault = if t.dbu.overcommit = true ∧ s.dbu.overcommit = false then
        v.captured .overcommit (min 65535 (t.dbu.granted + t.reportedSum - t.dbu.limit))
      else s.cpn.fault

/-- With the occurrence the capture stands in the record with the values before it. -/
theorem OvercommitOnWay.stamped {s t : State} (h : OvercommitOnWay s t) :
    OvercommitAlone s (stampFault s t) := by
  obtain ⟨v, hf, hn, hj, ht⟩ := h
  have hstamp := stampFault_does s t
  have hfault : (stampFault s t).cpn.fault = if t.dbu.overcommit = true ∧ s.dbu.overcommit = false then
      s.captured .overcommit (min 65535 (t.dbu.granted + t.reportedSum - t.dbu.limit))
      else s.cpn.fault := by
    split at ht
    · next hc => rw [if_pos hc, stampFault_captured ht hf hn hj]
    · next hc => rw [if_neg hc, stampFault_of_fault_eq ht, ht]
  generalize (stampFault s t).cpn.fault = g at hstamp hfault
  rw [hstamp]
  exact hfault

theorem OvercommitOnWay.of_fault {s t : State} (h : t.cpn.fault = s.cpn.fault)
    (ho : t.dbu.overcommit = s.dbu.overcommit) : OvercommitOnWay s t := by
  refine ⟨s, rfl, rfl, rfl, ?_⟩
  rw [h, ho, if_neg]
  rintro ⟨h1, h2⟩
  rw [h1] at h2
  exact nomatch h2

/-- Setting G evaluates the condition and captures its rise. -/
theorem setGranted_onWay (g : Nat) (s : State) : OvercommitOnWay s (setGranted g s) := by
  refine ⟨{ s with dbu := { s.dbu with granted := g } }, rfl, rfl, rfl, ?_⟩
  have hf := evalOvercommit_fault { s with dbu := { s.dbu with granted := g } }
  have hs : (setGranted g s).dbu.overcommit = ({ s with dbu := { s.dbu with granted := g } } : State).overcommitted :=
    evalOvercommit_overcommit _
  have hr : (setGranted g s).reportedSum = s.reportedSum := by simp [State.reportedSum]
  have hl : (setGranted g s).dbu.limit = s.dbu.limit := by simp
  rw [hs, hr, hl, setGranted_granted]
  exact hf

/-! ### Stop entry (R7) -/

/-- What stop entry for cause `c` makes of the state `u` that the stop event leads to; `b` is the state the
event met. -/
structure StopEntered (c : Cause) (b u t : State) : Prop where
  same : t = { u with
    rsq := t.rsq, dbu := t.dbu, ssu := t.ssu, pvu := t.pvu, lnc := t.lnc,
    spu := { u.spu with refWaiting := true }, cpn := t.cpn }
  rsq : t.rsq = { u.rsq with
    runReq := u.rsq.runReq && decide (c ≠ .dip)
    speed := (u.entryOf u.rsq.pendingSet.profile).holdSpeed, urgency := t.computeUrgency }
  dbu : t.dbu = { u.dbu with
    granted := u.drawOf t.rsq.speed, claim := .none, need := t.dbu.need
    settleAt := t.dbu.settleAt, overcommit := t.overcommitted }
  gone : OwnClaimsGone u t
  attempts : t.ssu.attempts = 0
  lnc : t.lnc = { u.lnc with queue := t.lnc.queue, beacon := t.lnc.beacon }
  asked : b.rsq.state ≠ u.rsq.state → t.lnc = { u.lnc.requestBeacon with queue := t.lnc.queue }
  cpn : t.cpn = { u.cpn with events := { u.cpn.events with stopTaken := true }, fault := t.cpn.fault }

/-- The urgency evaluated where no own claim is to be sent again sets itself and asks for its beacon
alone. -/
theorem refreshUrgency_quiet {s : State} (hd : s.dbu.claim.outstanding = false) (hs : s.ssu.claim = .none) :
    ∃ a, refreshUrgency s
      = { s with rsq := { s.rsq with urgency := s.computeUrgency }, lnc := s.lnc.askIf a } := by
  have hdraw : ∀ t : State, t.dbu.claim = s.dbu.claim → resendDraw t = t := fun t ht => by
    unfold resendDraw
    rw [ht]
    cases hc : s.dbu.claim <;> simp_all [DrawStatus.outstanding]
  unfold refreshUrgency
  split
  · next hu => exact ⟨false, by rw [hu]; rfl⟩
  · refine ⟨true, ?_⟩
    dsimp only
    rw [hdraw _ (by simp)]
    split
    · simp [resendStart, hs, requestBeacon]
    · rfl

theorem beaconIfChanged_eq (b s : State) : ∃ a, beaconIfChanged b s = { s with lnc := s.lnc.askIf a }
    ∧ (b.rsq.state ≠ s.rsq.state → a = true) := by
  unfold beaconIfChanged
  split
  · next h => exact ⟨false, rfl, fun hn => absurd h.1 hn⟩
  · exact ⟨true, rfl, fun _ => rfl⟩

/-- RUN_REQ and S as stop entry for cause `c` sets them first. -/
def State.atStop (u : State) (c : Cause) : State :=
  { u with rsq := { u.rsq with
    runReq := u.rsq.runReq && decide (c ≠ .dip)
    speed := (u.entryOf u.rsq.pendingSet.profile).holdSpeed } }

theorem stopEntry_steps (c : Cause) (b u : State) : stopEntry c b u = beaconIfChanged b (refreshUrgency
    (notify .stopTaken (requestReference
      { withdrawClaims (setGranted (u.drawOf (u.atStop c).rsq.speed) (u.atStop c)) with
        ssu := { (withdrawClaims (setGranted (u.drawOf (u.atStop c).rsq.speed) (u.atStop c))).ssu with
          attempts := 0 } }))) := rfl

/-- Stop entry up to the evaluation of the urgency, with the overcommit condition `o` and the fault record
`f` that it leaves. -/
def State.stopFields (u : State) (c : Cause) (o : Bool) (f : FaultRecord) : State :=
  { u.atStop c with
    dbu := { u.dbu.claimEnded with granted := u.drawOf (u.atStop c).rsq.speed, overcommit := o }
    ssu := { u.slotEnded with attempts := 0 }
    pvu := { u.pvu with claims := u.claimsWithoutOwn }
    lnc := { u.lnc.askIf u.ssu.tenure with queue := u.queueEnded }
    spu := { u.spu with refWaiting := true }
    cpn := { u.cpn with events := { u.cpn.events with stopTaken := true }, fault := f } }

theorem stopEntry_fields (c : Cause) (b : State) {u : State} (hs : u.rsq.state ≠ .unjoined) :
    ∃ o f, stopEntry c b u = beaconIfChanged b (refreshUrgency (u.stopFields c o f))
      ∧ o = (u.stopFields c o f).overcommitted ∧ OvercommitOnWay u (u.stopFields c o f) := by
  obtain ⟨v, hf, hn, hj, hway⟩ := setGranted_onWay (u.drawOf (u.atStop c).rsq.speed) (u.atStop c)
  have hset := setGranted_eq (u.drawOf (u.atStop c).rsq.speed) (u.atStop c)
  have hdef := stopEntry_steps c b u
  generalize setGranted _ _ = w at hway hset hdef
  generalize hover : w.overcommitted = o at hset
  generalize w.cpn.fault = f at hset hway
  rw [hset] at hdef hway hover
  rw [withdrawClaims_eq] at hdef
  refine ⟨o, f, ?_, hover.symm, v, hf, hn, hj, hway⟩
  rw [hdef, requestReference, if_neg]
  · rfl
  · exact hs

theorem stopEntry_entered (c : Cause) (b : State) {u : State} (hs : u.rsq.state ≠ .unjoined) :
    StopEntered c b u (stopEntry c b u) ∧ OvercommitOnWay u (stopEntry c b u) := by
  obtain ⟨o, f, hdef, hover, hway⟩ := stopEntry_fields c b hs
  obtain ⟨a, hurgency⟩ := refreshUrgency_quiet (s := u.stopFields c o f) rfl rfl
  rw [hurgency] at hdef
  obtain ⟨a', hbeacon, hasked⟩ := beaconIfChanged_eq b { u.stopFields c o f with
    rsq := { (u.stopFields c o f).rsq with urgency := (u.stopFields c o f).computeUrgency }
    lnc := (u.stopFields c o f).lnc.askIf a }
  rw [hbeacon] at hdef
  have hlnc : ((u.stopFields c o f).lnc.askIf a).askIf a'
      = { u.lnc.askIf (u.ssu.tenure || a || a') with queue := u.queueEnded } := by
    show (({ u.lnc.askIf u.ssu.tenure with queue := u.queueEnded } : Lnc).askIf a).askIf a' = _
    rw [Lnc.askIf_askIf, Lnc.askIf_queue, Lnc.askIf_askIf, Bool.or_assoc]
  rw [hdef, hlnc]
  refine ⟨?_, hway⟩
  exact {
    same := rfl
    rsq := rfl
    dbu := by
      show ({ u.dbu.claimEnded with granted := u.drawOf (u.atStop c).rsq.speed, overcommit := o } : Dbu) = _
      rw [hover]
      rfl
    gone := ⟨rfl, rfl, rfl, rfl, rfl, rfl, rfl⟩
    attempts := rfl
    lnc := by
      show ({ u.lnc.askIf _ with queue := u.queueEnded } : Lnc) = _
      rw [u.lnc.askIf_beacon]
    asked := fun hne => by
      rw [hasked hne, Bool.or_true]
      rfl
    cpn := rfl }

/-- What stop entry says of its state holds of the whole occurrence. -/
theorem StopEntered.stamp {c : Cause} {b u t : State} (h : StopEntered c b u t) (s : State) :
    StopEntered c b u (stampFault s t) := by
  rw [stampFault_does]
  exact {
    same := congrArg (fun v : State => { v with cpn := { t.cpn with fault := (stampFault s t).cpn.fault } }) h.same
    rsq := h.rsq
    dbu := h.dbu
    gone := h.gone
    attempts := h.attempts
    lnc := h.lnc
    asked := h.asked
    cpn := congrArg (fun v : Cpn => { v with fault := (stampFault s t).cpn.fault }) h.cpn }

/-- A reply is no part of an occurrence's captures. -/
theorem stampFault_answer (s t : State) (code : Byte) (status : Status) (data : List Byte) :
    stampFault s (answer code status data t) = answer code status data (stampFault s t) := by
  unfold stampFault
  split <;> split <;> first | rfl | contradiction

end Sys2Proof.Machine
end

section
/-! SUPPORT. The host's STOP (R5 to R11, R27): the state a stop event leads to in each state it is taken in,
and the row around stop entry. -/

namespace Sys2Proof.Machine

/-! ### The records a stop event makes (R10, R11, R31) -/

/-- A cause other than TUNDISH makes a record without an epoch, and with a clear latch where it has one. -/
theorem State.newRecord_eq (s : State) {c : Cause} (hc : c ≠ .tundish) :
    s.newRecord c none =
      { stopTime := s.now, deadline := (durationMs (s.pst.causes.get c).freezeCode).map (later s.now)
        epoch := none, latch := if c = .dip then none else some false } := by
  cases c <;> first | rfl | exact absurd rfl hc

theorem State.newRecord_latched (s : State) {c : Cause} (hc : c = .breakout ∨ c = .hold) :
    s.newRecord c none =
      { stopTime := s.now, deadline := (durationMs (s.pst.causes.get c).freezeCode).map (later s.now)
        epoch := none, latch := some false } := by
  rcases hc with rfl | rfl <;> rfl

theorem PendingRecord.repeated_eq (r : PendingRecord) {c : Cause} (hc : c ≠ .tundish) (e : Option Nat) :
    r.repeated c e = { r with latch := if c = .dip then r.latch else some false } := by
  cases c <;> first | rfl | exact absurd rfl hc

theorem PendingSet.set_profile (c : Cause) (r : PendingRecord) :
    (PendingSet.empty.set c (some r)).profile = some c := by cases c <;> rfl

theorem State.newRecord_dip (s : State) : s.newRecord .dip none =
    { stopTime := s.now, deadline := (durationMs s.pst.causes.dip.freezeCode).map (later s.now)
      epoch := none, latch := none } := rfl

/-- The pending set of authority taken from WATCH (R6). -/
theorem authorityTaken_pending (s : State) (c : Cause) :
    (authorityTaken c none s).rsq.pendingSet = (if s.drvReady then PendingSet.empty else
      { PendingSet.empty with dip := some (s.newRecord .dip none) }).set c (some (s.newRecord c none)) := by
  unfold authorityTaken
  cases s.drvReady <;> cases c <;> simp [PerCause.set]

theorem authorityTaken_profile (s : State) (c : Cause) :
    (authorityTaken c none s).rsq.pendingSet.profile = some (if s.drvReady then c else .dip) := by
  rw [authorityTaken_pending s c]
  cases s.drvReady <;> cases c <;> rfl

/-! ### Preconditions that a stop leaves unmet (R13) -/

/-- A pending record whose precondition is not met keeps the preconditions from being met. -/
theorem State.allMet_of_unmet {s : State} {c : Cause} {r : PendingRecord}
    (hr : s.rsq.pendingSet.get c = some r) (h : s.preconditionMet c r = false) : s.allMet = false := by
  refine Bool.eq_false_iff.mpr fun hall => ?_
  have hc := List.all_eq_true.mp hall c (mem_allCauses c)
  rw [hr] at hc
  exact absurd (h.symm.trans hc) (by simp)

theorem State.preconditionMet_latch (s : State) {c : Cause} {r : PendingRecord} (hc : c = .breakout ∨ c = .hold)
    (h : r.latch = some false) : s.preconditionMet c r = false := by
  rcases hc with rfl | rfl <;> simp [State.preconditionMet, h]

theorem evalPreconditions_stays {s : State} (hs : s.rsq.state ≠ .queued) (h : s.allMet = false) :
    evalPreconditions s = s := by
  unfold evalPreconditions
  split
  · simp [h]
  · next hq => exact absurd hq hs
  all_goals rfl

/-- The command port with the reply of an accepted command without data. -/
def Cpn.answered (code : Byte) (p : Cpn) : Cpn :=
  { p with reply := { status := .ok, code := code, data := [] } }

/-! ### The row of STOP (R27) -/

/-- The causes a host STOP names. -/
theorem stopCause_eq {c : Cause} {code : Byte} (h : (c = .breakout ∧ code = 0x03) ∨ (c = .hold ∧ code = 0x04)) :
    stopCause code = some c ∧ (c = .breakout ∨ c = .hold) ∧ c ≠ .tundish ∧ c ≠ .dip := by
  rcases h with ⟨rfl, rfl⟩ | ⟨rfl, rfl⟩ <;> decide

/-- A STOP taken in a state that its event leads to `u` makes stop entry and nothing after it, since its
record's latch is clear. -/
theorem execStop_entered {c : Cause} {code : Byte} {s u : State} {r : PendingRecord} (hr : s.rstLow = false)
    (hcode : stopCause code = some c) (hc : c = .breakout ∨ c = .hold) (hmet : s.stopMet c none = some u)
    (hget : u.rsq.pendingSet.get c = some r) (hlatch : r.latch = some false) :
    exec (.stop code) s = .next (stampFault s (answer 0x22 .ok [] (stopEntry c s u))) := by
  have hstop : stoppable s.rsq.state = true := by
    unfold State.stopMet at hmet
    cases hs : s.rsq.state <;> simp_all [stoppable]
  have hevent : stopEvent c none s = stopEntry c s u := by
    rw [stopEvent_eq, hmet]
    refine evalPreconditions_stays (by simp [(State.stopMet_does hmet).1])
      (State.allMet_of_unmet (c := c) (r := r) (by simpa using hget) ?_)
    exact State.preconditionMet_latch _ hc hlatch
  refine ((released_high _ hr).trans (if_pos hstop)).trans ?_
  rw [hcode]
  show occur (fun s => answer 0x22 .ok [] (stopEvent c none s)) s = _
  rw [occur_next, hevent]

/-- The stop event of a cause whose record is then not met, from the state `u` before stop entry. -/
theorem stopEvent_entered {c : Cause} {s u : State} {r : PendingRecord} (hmet : s.stopMet c none = some u)
    (hget : u.rsq.pendingSet.get c = some r) (hunmet : (stopEntry c s u).preconditionMet c r = false) :
    stopEvent c none s = stopEntry c s u := by
  rw [stopEvent_eq, hmet]
  exact evalPreconditions_stays (by simp [(State.stopMet_does hmet).1])
    (State.allMet_of_unmet (c := c) (r := r) (by simpa using hget) hunmet)

/-- Settles O35. -/
theorem stopInWatchTakesAuthority : Obligations.stop_in_watch_takes_authority := by
  intro c code s hr hw hcode
  obtain ⟨hcause, hlatched, htundish, hdip⟩ := stopCause_eq hcode
  have hpending := authorityTaken_pending s c
  have hprofile := authorityTaken_profile s c
  rw [s.newRecord_latched hlatched, s.newRecord_dip] at hpending
  have hrow := execStop_entered hr hcause hlatched (by rw [State.stopMet, hw])
    (by rw [hpending, PerCause.get_set_same]) rfl
  obtain ⟨hx, hway⟩ := stopEntry_entered c s (u := authorityTaken c none s) (by simp [authorityTaken])
  have hover := OvercommitOnWay.stamped (s := s) hway
  replace hx := hx.stamp s
  rw [stampFault_answer] at hrow
  generalize stampFault s (stopEntry c s (authorityTaken c none s)) = x at hrow hx hover
  refine ⟨_, hrow, ?_, ?_, hx.dbu, hx.gone, hx.attempts, ?_, ?_, hover⟩
  · exact congrArg (answer _ _ _) hx.same
  · refine hx.rsq.trans ?_
    rw [hprofile, ← hpending]
    have hrun : ((authorityTaken c none s).rsq.runReq && decide (c ≠ .dip)) = s.drvReady := by
      simp [authorityTaken, hdip]
    rw [hrun]
    rfl
  · exact hx.asked (by simp [authorityTaken, hw])
  · exact congrArg (Cpn.answered 0x22) hx.cpn

/-! ### The stop in RAMPING (R8, R68, R69) -/

theorem State.mergeCause_none (s : State) {p : PendingSet} {c : Cause} {e : Option Nat} (h : p.get c = none) :
    s.mergeCause p c e = p.set c (some (s.newRecord c e)) := by
  unfold State.mergeCause
  rw [h]

theorem State.mergeCause_some (s : State) {p : PendingSet} {c : Cause} {e : Option Nat} {r : PendingRecord}
    (h : p.get c = some r) : s.mergeCause p c e = p.set c (some (r.repeated c e)) := by
  unfold State.mergeCause
  rw [h]

theorem PendingSet.get_empty (c : Cause) : PendingSet.empty.get c = none := by cases c <;> rfl

/-- A full stack drops its bottom context, with a report and a capture; a stack with room stands (R69). -/
theorem dropBottom_eq {s : State} (h : s.rsq.stack.length ≤ 3) : dropBottom s = { s with
    rsq := { s.rsq with stack := s.rsq.stack.take 2 }, cpn := (dropBottom s).cpn } := by
  unfold dropBottom
  split
  · split
    · rfl
    · next hroom =>
      rw [List.take_of_length_le (by simp [Config.stackDepth] at hroom; omega)]
  · next hnone =>
    rw [List.getLast?_eq_none_iff.mp hnone]
    rw [List.take_nil, ← List.getLast?_eq_none_iff.mp hnone]

theorem dropBottom_room {s : State} (h : s.rsq.stack.length < 3) : dropBottom s = s := by
  unfold dropBottom
  split
  · rw [if_neg (by simp [Config.stackDepth]; omega)]
  · rfl

theorem dropBottom_full {s : State} {bottom : Context} (hb : s.rsq.stack.getLast? = some bottom)
    (h : s.rsq.stack.length = 3) : (dropBottom s).cpn = (Machine.capture .stackDrop (causeCode bottom.cause).toNat
      (writeReport (s.contextReport .dropped bottom) s)).cpn := by
  unfold dropBottom
  rw [hb]
  simp [h, Config.stackDepth]

/-- The state a stop event without an epoch leads to in RAMPING, before stop entry: the restart
is pushed, and its cause is alone in the pending set (R8, R68). -/
def State.pushed (s : State) (c : Cause) : State :=
  { s with
    rsq := { s.rsq with
      state := .stopped
      stack := s.rsq.context :: s.rsq.stack.take 2
      currentCause := none, step := 0, dwell := 0, levelHoldTime := 0, levelHold := false
      carried := none, counters := Counters.start
      pendingSet := PendingSet.empty.set c (some (s.newRecord c none)) }
    cpn := (dropBottom s).cpn }

theorem stopMet_ramping {c : Cause} {s : State} (hs : s.rsq.state = .ramping)
    (hp : s.rsq.pendingSet = PendingSet.empty) (h : s.rsq.stack.length ≤ 3) :
    s.stopMet c none = some (s.pushed c) := by
  have hdrop := dropBottom_eq h
  unfold State.stopMet State.pushed
  rw [hs]
  unfold causeMerged pushContext
  generalize dropBottom s = d at hdrop ⊢
  rw [hdrop]
  dsimp only
  rw [hp, State.mergeCause_none _ (PendingSet.get_empty c)]
  rfl

/-- A record locked before it keeps its first fault through a rise of the overcommit condition. -/
theorem OvercommitOnWay.locked {s t : State} (h : OvercommitOnWay s t) (hl : s.cpn.fault.locked = true) :
    t.cpn.fault = { s.cpn.fault with multiple := t.cpn.fault.multiple, later := t.cpn.fault.later } := by
  obtain ⟨v, hf, -, -, ht⟩ := h
  split at ht
  · rw [ht, State.captured, hf, if_pos hl]
  · rw [ht]

/-- The end of the own claims reads the claims, the line controller and the station number alone. -/
theorem OwnClaimsGone.congr {s u t : State} (h : OwnClaimsGone u t) (hd : u.dbu = s.dbu) (hs : u.ssu = s.ssu)
    (hp : u.pvu = s.pvu) (hl : u.lnc = s.lnc) (hst : u.cpn.straps = s.cpn.straps) : OwnClaimsGone s t := by
  have hown : u.ownStation = s.ownStation := by rw [State.ownStation, hst]; rfl
  have hfrom : ∀ k n q, u.withdrawnFrom k n q = s.withdrawnFrom k n q := fun k n q => by
    simp only [State.withdrawnFrom, hl]
  have hqueue : u.releaseQueued .stopped (u.claimsWithdrawn u.lnc.queue)
      = s.releaseQueued .stopped (s.claimsWithdrawn s.lnc.queue) := by
    simp only [State.releaseQueued, State.claimsWithdrawn, hfrom, hd, hs, hl]
  have hclaims : u.claimsWithoutOwn = s.claimsWithoutOwn := by
    simp only [State.claimsWithoutOwn, hd, hp]
  unfold OwnClaimsGone at h
  rw [hown, hd, hs, hp, hclaims, hqueue] at h
  exact h

theorem stampFault_locked {b t : State} (h : t.cpn.fault.locked = true) :
    (stampFault b t).cpn.fault.locked = true ∧ (stampFault b t).cpn.fault.kind = t.cpn.fault.kind
      ∧ (stampFault b t).cpn.fault.detail = t.cpn.fault.detail
      ∧ (b.cpn.fault.locked = false → (stampFault b t).cpn.fault.state = b.rsq.state) := by
  unfold stampFault
  cases hb : b.cpn.fault.locked <;> simp [h]

/-- Settles O36. -/
theorem stopInRampingPushesTheRestart : Obligations.stop_in_ramping_pushes_the_restart := by
  intro c code s hr hs hp hlen hcode
  obtain ⟨hcause, hlatched, htundish, hdip⟩ := stopCause_eq hcode
  have hmet := stopMet_ramping (c := c) hs hp hlen
  have hrow := execStop_entered hr hcause hlatched hmet (PerCause.get_set_same _ _ _)
    (by rw [s.newRecord_latched hlatched])
  obtain ⟨hx, hway⟩ := stopEntry_entered c s (u := s.pushed c) (by simp [State.pushed])
  have hdropped (bottom : Context) (hb : s.rsq.stack.getLast? = some bottom) (h3 : s.rsq.stack.length = 3)
      (hl : s.cpn.fault.locked = false) :
      (stopEntry c s (s.pushed c)).cpn.fault.locked = true
        ∧ (stopEntry c s (s.pushed c)).cpn.fault.kind = some .stackDrop
        ∧ (stopEntry c s (s.pushed c)).cpn.fault.detail = (causeCode bottom.cause).toNat := by
    have hfault : (s.pushed c).cpn.fault = (writeReport (s.contextReport .dropped bottom) s).captured
        .stackDrop (causeCode bottom.cause).toNat := congrArg Cpn.fault (dropBottom_full hb h3)
    have hopen : (writeReport (s.contextReport .dropped bottom) s).cpn.fault.locked = false := hl
    rw [State.captured, hopen, if_neg Bool.false_ne_true] at hfault
    rw [hway.locked (by rw [hfault]), hfault]
    exact ⟨rfl, rfl, rfl⟩
  have hover (hroom : s.rsq.stack.length < 3) : OvercommitAlone s (stampFault s (stopEntry c s (s.pushed c))) := by
    refine OvercommitOnWay.stamped ?_
    have hu : (s.pushed c).cpn = s.cpn := by
      show (dropBottom s).cpn = s.cpn
      rw [dropBottom_room hroom]
    unfold OvercommitOnWay at hway
    rw [hu] at hway
    exact hway
  have hlocked := stampFault_locked (b := s) (t := stopEntry c s (s.pushed c))
  replace hx := hx.stamp s
  rw [stampFault_answer] at hrow
  generalize stopEntry c s (s.pushed c) = y at hdropped hlocked hx hover hrow
  generalize stampFault s y = x at hlocked hx hover hrow
  have hgranted : x.dbu.granted = s.drawOf x.rsq.speed := congrArg Dbu.granted hx.dbu
  refine ⟨_, hrow, congrArg (answer _ _ _) hx.same, ?_, hgranted, ?_,
    hx.gone.congr rfl rfl rfl rfl (by simp [State.pushed]), hx.attempts,
    hx.asked (by simp [State.pushed, hs]), ?_, fun bottom hb h3 => ⟨?_, fun hl => ?_⟩,
    fun hroom => ⟨hover hroom, ?_⟩⟩
  · refine hx.rsq.trans ?_
    rw [show (s.pushed c).rsq.pendingSet.profile = some c from PendingSet.set_profile c _]
    have hrun : ((s.pushed c).rsq.runReq && decide (c ≠ .dip)) = s.rsq.runReq := by simp [State.pushed, hdip]
    rw [hrun, ← s.newRecord_latched hlatched]
    rfl
  · refine hx.dbu.trans ?_
    rw [← show x.dbu.granted = (s.pushed c).drawOf x.rsq.speed from hgranted]
    rfl
  · exact (congrArg (fun p : Cpn => p.events.stopTaken) hx.cpn :)
  · have hring : x.cpn.ring = (dropBottom s).cpn.ring := (congrArg Cpn.ring hx.cpn :)
    show x.cpn.ring[0] = _
    rw [hring, dropBottom_full hb h3]
    rfl
  · obtain ⟨hl3, hkind, hdetail⟩ := hdropped bottom hb h3 hl
    obtain ⟨hsl, hsk, hsd, hss⟩ := hlocked hl3
    exact ⟨hsl, hsk.trans hkind, (hss hl).trans hs, hsd.trans hdetail⟩
  · have hcpn := congrArg (Cpn.answered 0x22) hx.cpn
    rw [State.pushed, dropBottom_room hroom] at hcpn
    exact hcpn

/-! ### The stop in STOPPED, QUEUED and HANDBACK (R9, R10, R11) -/

/-- The record of `c` after a repeated or a first event of a cause with a latch. -/
def State.mergedRecord (s : State) (c : Cause) : PendingRecord :=
  match s.rsq.pendingSet.get c with
  | some r => { r with latch := some false }
  | none => s.newRecord c none

theorem State.mergedRecord_latch (s : State) {c : Cause} (hc : c = .breakout ∨ c = .hold) :
    (s.mergedRecord c).latch = some false := by
  unfold State.mergedRecord
  split
  · rfl
  · rw [s.newRecord_latched hc]

theorem State.mergeCause_latched (s : State) {c : Cause} (hc : c = .breakout ∨ c = .hold) :
    s.mergeCause s.rsq.pendingSet c none = s.rsq.pendingSet.set c (some (s.mergedRecord c)) := by
  unfold State.mergedRecord
  split
  · next r hr =>
    rw [s.mergeCause_some hr, r.repeated_eq (by rcases hc with rfl | rfl <;> decide)]
    rcases hc with rfl | rfl <;> rfl
  · next hn => rw [s.mergeCause_none hn]

theorem stopMet_stopped {c : Cause} {s : State} (hs : s.rsq.state = .stopped ∨ s.rsq.state = .queued)
    (e : Option Nat) : s.stopMet c e = some (causeMerged c e s) := by
  unfold State.stopMet
  rcases hs with hs | hs <;> rw [hs]

theorem stopMet_handback {c : Cause} {s : State} (hs : s.rsq.state = .handback) (e : Option Nat) :
    s.stopMet c e = some (handbackStopped c e s) := by
  unfold State.stopMet
  rw [hs]

/-- Settles O37. -/
theorem stopMergesAndNeedsItsState : Obligations.stop_merges_and_needs_its_state := by
  refine ⟨fun c code s hr hs hcode => ?_, fun c code s hr hs hcode => ?_, fun code s hr hs => ?_,
    fun code s hr hu hp ha h3 h4 => ?_⟩
  · obtain ⟨hcause, hlatched, -, hdip⟩ := stopCause_eq hcode
    have hmerge := s.mergeCause_latched hlatched
    have hget : (causeMerged c none s).rsq.pendingSet.get c = some (s.mergedRecord c) := by
      show (s.mergeCause s.rsq.pendingSet c none).get c = _
      rw [hmerge, PerCause.get_set_same]
    have hrow := execStop_entered hr hcause hlatched (stopMet_stopped hs none) hget (s.mergedRecord_latch hlatched)
    obtain ⟨hx, hway⟩ := stopEntry_entered c s (u := causeMerged c none s) (by simp [causeMerged])
    have hover := OvercommitOnWay.stamped (s := s) hway
    replace hx := hx.stamp s
    rw [stampFault_answer] at hrow
    generalize stampFault s (stopEntry c s (causeMerged c none s)) = x at hrow hx hover
    have hpending : x.rsq.pendingSet = (causeMerged c none s).rsq.pendingSet := (congrArg Rsq.pendingSet hx.rsq :)
    refine ⟨_, hrow, congrArg (answer _ _ _) hx.same, ?_, hx.dbu, hx.gone, hx.attempts, hx.lnc, hover,
      congrArg (Cpn.answered 0x22) hx.cpn⟩
    refine hx.rsq.trans ?_
    have hrun : ((causeMerged c none s).rsq.runReq && decide (c ≠ .dip)) = s.rsq.runReq := by
      simp [causeMerged, hdip]
    show _ = ({ s.rsq with state := .stopped, speed := (s.entryOf x.rsq.pendingSet.profile).holdSpeed
                           pendingSet := _, urgency := x.computeUrgency } : Rsq)
    rw [hrun, hpending]
    refine Eq.trans (b := { s.rsq with
      state := .stopped, speed := (s.entryOf (causeMerged c none s).rsq.pendingSet.profile).holdSpeed
      pendingSet := s.rsq.pendingSet.set c (some (s.mergedRecord c)), urgency := x.computeUrgency }) ?_ ?_
    · exact congrArg (fun p : PendingSet => ({ s.rsq with
        state := .stopped, speed := (s.entryOf (causeMerged c none s).rsq.pendingSet.profile).holdSpeed
        pendingSet := p, urgency := x.computeUrgency } : Rsq)) hmerge
    · unfold State.mergedRecord
      cases s.rsq.pendingSet.get c with
      | some r => rfl
      | none => simp [s.newRecord_latched hlatched]
  · obtain ⟨hcause, hlatched, -, hdip⟩ := stopCause_eq hcode
    have hrow := execStop_entered hr hcause hlatched (stopMet_handback hs none) (PerCause.get_set_same _ _ _)
      (by rw [s.newRecord_latched hlatched])
    obtain ⟨hx, hway⟩ := stopEntry_entered c s (u := handbackStopped c none s) (by simp [handbackStopped])
    have hover := OvercommitOnWay.stamped (s := s) hway
    replace hx := hx.stamp s
    rw [stampFault_answer] at hrow
    generalize stampFault s (stopEntry c s (handbackStopped c none s)) = x at hrow hx hover
    refine ⟨_, hrow, congrArg (answer _ _ _) hx.same, ?_, hx.dbu, hx.gone, hx.attempts,
      hx.asked (by simp [handbackStopped, hs]), hover, congrArg (Cpn.answered 0x22) hx.cpn⟩
    refine hx.rsq.trans ?_
    have hrun : ((handbackStopped c none s).rsq.runReq && decide (c ≠ .dip)) = s.rsq.runReq := by
      simp [handbackStopped, hdip]
    rw [show (handbackStopped c none s).rsq.pendingSet.profile = some c from PendingSet.set_profile c _, hrun,
      ← s.newRecord_latched hlatched]
    rfl
  · have hstop : stoppable s.rsq.state = false := by rcases hs with hs | hs | hs <;> rw [hs] <;> rfl
    exact (released_high _ hr).trans (if_neg (by simp [hstop]))
  · have hstop : stoppable s.rsq.state = true := by cases hs : s.rsq.state <;> simp_all [stoppable]
    refine ((released_high _ hr).trans (if_pos hstop)).trans ?_
    rw [stopCause, if_neg h3, if_neg h4]
    rfl

end Sys2Proof.Machine
end

section
/-! SUPPORT. On from STOPPED and QUEUED (R13 to R17): where the preconditions lead, with RELEASE (R27). -/

namespace Sys2Proof.Machine

/-! ### A state from its parts -/

/-- A state that differs from another in the blocks alone. -/
theorem State.of_blocks {s t : State} (h : t.rstLow = s.rstLow ∧ t.now = s.now ∧ t.micros = s.micros
    ∧ t.joinedAt = s.joinedAt ∧ t.pst = s.pst ∧ t.spu = s.spu ∧ t.pending = s.pending) :
    t = { s with rsq := t.rsq, dbu := t.dbu, ssu := t.ssu, pvu := t.pvu, lnc := t.lnc, cpn := t.cpn } := by
  obtain ⟨hrst, hnow, hmicros, hjoined, hpst, hspu, hpending⟩ := h
  rw [← hrst, ← hnow, ← hmicros, ← hjoined, ← hpst, ← hspu, ← hpending]

/-! ### Back to STOPPED (R17) -/

theorem returnToStopped_eq (s : State) : returnToStopped s = { s with
    rsq := { s.rsq with
      state := .stopped
      urgency := ({ s with rsq := { s.rsq with state := .stopped } } : State).computeUrgency }
    dbu := s.dbu.claimEnded
    ssu := s.slotEnded
    pvu := { s.pvu with claims := s.claimsWithoutOwn }
    lnc := { s.lnc.requestBeacon with queue := s.queueEnded } } := by
  unfold returnToStopped
  rw [withdrawClaims_eq]
  obtain ⟨a, ha⟩ := refreshUrgency_quiet (s := requestBeacon { s with
    rsq := { s.rsq with state := .stopped }
    dbu := s.dbu.claimEnded
    ssu := s.slotEnded
    pvu := { s.pvu with claims := s.claimsWithoutOwn }
    lnc := { s.lnc.askIf s.ssu.tenure with queue := s.queueEnded } }) rfl rfl
  refine ha.trans ?_
  have hlnc : (({ s.lnc.askIf s.ssu.tenure with queue := s.queueEnded } : Lnc).askIf true).askIf a
      = { s.lnc.requestBeacon with queue := s.queueEnded } := by
    rw [Lnc.askIf_askIf, Lnc.askIf_queue, Lnc.askIf_askIf, Bool.true_or, Bool.or_true]
    rfl
  rw [← hlnc]
  rfl

/-! ### On from QUEUED (R15, R16, R18) -/

/-- From `s` in QUEUED to `t` the sequencer has stayed there, with its request unless the drive has come to
run, or has entered RAMPING with the drive running. -/
def WentOn (s t : State) : Prop :=
  (t.rsq.state = .queued ∧ t.rsq.pendingSet = s.rsq.pendingSet
    ∧ (t.rsq.runReq = false → t.ssu.request = s.ssu.request))
  ∨ (t.rsq.state = .ramping ∧ t.rsq.pendingSet = PendingSet.empty ∧ t.rsq.step = 0
    ∧ t.rsq.currentCause = s.rsq.pendingSet.profile ∧ t.driveRunning = true
    ∧ t.cpn.events.rampStarted = true)

namespace WentOn

variable {s t u : State}

theorem refl (h : s.rsq.state = .queued) : WentOn s s := .inl ⟨h, rfl, fun _ => rfl⟩

/-- What leaves the sequencer's place and RUN_REQ alone may go before. -/
theorem before (k : WentOn t u) (hp : t.rsq.pendingSet = s.rsq.pendingSet)
    (hr : u.rsq.runReq = false → t.ssu.request = s.ssu.request) : WentOn s u := by
  rcases k with ⟨hs, hq, hreq⟩ | ⟨hs, hq, hstep, hcause, hrest⟩
  · exact .inl ⟨hs, hq.trans hp, fun h => (hreq h).trans (hr h)⟩
  · exact .inr ⟨hs, hq, hstep, hp ▸ hcause, hrest⟩

theorem after (h : WentOn s t) (k : u.rsq = t.rsq ∧ u.ssu.request = t.ssu.request ∧ u.spu = t.spu
    ∧ u.cpn.events = t.cpn.events) : WentOn s u := by
  obtain ⟨hrsq, hreq, hspu, hevents⟩ := k
  unfold WentOn State.driveRunning State.drvReady
  rw [hrsq, hreq, hspu, hevents]
  exact h

theorem ramping (h : s.driveRunning = true) : WentOn s (enterRamping s) :=
  .inr ⟨by simp [enterRamping, Rsq.rampingFrom], by simp [enterRamping, Rsq.rampingFrom],
    by simp [enterRamping, Rsq.rampingFrom], by simp [enterRamping, Rsq.rampingFrom],
    by simpa [State.driveRunning, State.drvReady] using h,
    by simp [enterRamping, notify, EventNotices.raise]⟩

theorem firstPoint (h : s.rsq.state = .queued) : WentOn s (firstPointTest s) := by
  unfold firstPointTest
  split
  · next hq =>
    split
    · exact ramping hq.2
    · split
      · exact refl h
      · dsimp only
        have hdrive : (giveNeed (s.drawOf s.firstTarget - s.dbu.granted) s).driveRunning = true := by
          simpa [State.driveRunning, State.drvReady] using hq.2
        split
        · exact (ramping hdrive).before (by simp) (by simp)
        · exact .inl ⟨by simpa using h, by simp, by simp⟩
  · exact refl h

theorem drive (h : s.rsq.state = .queued) : WentOn s (driveTest s) := by
  unfold driveTest
  split
  · next hq =>
    have hrun : s.rsq.runReq = true := by
      have := hq.2
      simp only [State.driveRunning, Bool.and_eq_true] at this
      exact this.1
    exact (firstPoint (by simpa using h)).before (by simp) (by simp [hrun])
  · exact refl h

theorem slot (n : Nat) (h : s.rsq.state = .queued) : WentOn s (takeSlot n s) :=
  (drive (s := requestBeacon (slotTaken n s)) (by simpa using h)).before (by simp) (by simp)

theorem request (h : s.rsq.state = .queued) : WentOn s (actOnRequest s) := by
  unfold actOnRequest
  split
  · split
    · exact .inl ⟨by simpa using h, by simp, by simp⟩
    · split
      · exact slot _ h
      · exact refl h
    · split
      · exact slot _ h
      · exact refl h
    all_goals exact refl h
  · exact refl h

end WentOn

/-- Entry to QUEUED with RUN_REQ clear leaves a request standing, unless the slot is taken at once. -/
theorem enterQueued_wentOn (s : State) : WentOn
    { s with ssu := { s.ssu with request := s.ssu.request || !s.rsq.runReq } } (enterQueued s) := by
  unfold enterQueued
  dsimp only
  cases s.rsq.runReq
  · rw [if_neg (by simp)]
    exact (WentOn.request (by simp)).before (by simp) (by simp)
  · rw [if_pos (by simp)]
    exact (WentOn.drive (by simp)).before (by simp) (by simp)

/-! ### Beacons stay asked for -/

/-- A beacon is queued or awaits its retry. -/
def Asked (s : State) : Prop := s.lnc.beacon ≠ .empty

namespace Asked

variable {s t : State}

theorem of_line (h : t.lnc.beacon = s.lnc.beacon) (hs : Asked s) : Asked t := by
  unfold Asked
  rwa [h]

theorem request (hs : Asked s) : Asked (requestBeacon s) := by
  unfold Asked requestBeacon Lnc.requestBeacon
  dsimp only
  split
  · exact fun h => nomatch h
  · exact hs

theorem urgency (hs : Asked s) : Asked (refreshUrgency s) := by
  unfold refreshUrgency
  dsimp only
  split
  · exact hs
  · have h1 : Asked (requestBeacon { s with rsq := { s.rsq with urgency := s.computeUrgency } }) :=
      request (of_line rfl hs)
    split
    · exact of_line (by simp) h1
    · exact h1

theorem creep (hs : Asked s) : Asked (creepTest s) := by
  unfold creepTest
  split
  · exact urgency (of_line rfl hs)
  · exact hs

theorem ramping (hs : Asked s) : Asked (enterRamping s) := urgency (creep (request (of_line rfl hs)))

theorem need (n : Nat) (hs : Asked s) : Asked (giveNeed n s) := by
  have hform : ∀ u : State, Asked u → Asked (formDraw u) := fun u => of_line (by
    unfold formDraw
    split
    · rfl
    · dsimp only
      split <;> simp)
  unfold giveNeed
  split
  · split
    · exact hform _ (of_line rfl hs)
    · exact hform _ (of_line rfl hs)
    all_goals exact of_line rfl hs
  · exact of_line rfl hs
  · unfold soloRaise
    dsimp only
    split
    · exact request (of_line (by simp) hs)
    · exact of_line rfl hs
  · unfold soloRaise
    dsimp only
    split
    · exact request (of_line (by simp) hs)
    · exact of_line rfl hs
  · exact hs

theorem firstPoint (hs : Asked s) : Asked (firstPointTest s) := by
  unfold firstPointTest
  dsimp only
  split
  · split
    · exact ramping hs
    · split
      · exact hs
      · split
        · exact ramping (need _ hs)
        · exact need _ hs
  · exact hs

theorem drive (hs : Asked s) : Asked (driveTest s) := by
  unfold driveTest
  split
  · exact firstPoint (of_line (by simp) hs)
  · exact hs

theorem slot (n : Nat) (hs : Asked s) : Asked (takeSlot n s) := drive (request (of_line (by simp) hs))

theorem act (hs : Asked s) : Asked (actOnRequest s) := by
  unfold actOnRequest
  split
  · split
    · exact of_line (by simp) hs
    · split
      · exact slot _ hs
      · exact hs
    · split
      · exact slot _ hs
      · exact hs
    all_goals exact hs
  · exact hs

/-- Entry to QUEUED asks for a beacon (R25). -/
theorem queued (h : s.lnc.line.allowsBeacon = true) : Asked (enterQueued s) := by
  have h1 : Asked (refreshUrgency (requestBeacon { s with rsq := { s.rsq with state := .queued } })) :=
    urgency (requestBeacon_beacon h)
  unfold enterQueued
  dsimp only
  split
  · exact drive h1
  · exact act (of_line rfl h1)

end Asked

/-! ### The START claim formed at entry to QUEUED (R105, R106) -/

theorem nextNumber_eq (number lastSettled : Nat) : nextNumber number lastSettled =
    if (number + 1) % 16 = lastSettled then (lastSettled + 1) % 16 else (number + 1) % 16 := by
  unfold nextNumber
  dsimp only
  split
  · next h => rw [h]
  · rfl

/-- A standing request on an ACTIVE line, without a claim or a tenure, forms its claim. -/
theorem actOnRequest_active {s : State} (hr : s.ssu.request = true) (hc : s.ssu.claim = .none)
    (ht : s.ssu.tenure = false) (hl : s.lnc.line = .active) : actOnRequest s = formStart s := by
  unfold actOnRequest
  rw [if_pos ⟨hr, ht, hc⟩, hl]

theorem formStart_eq {s : State} (hl : s.lnc.line = .active) : formStart s = { s with
    ssu := { s.ssu with
      claim := .sent, claimNumber := nextNumber s.ssu.claimNumber s.ssu.lastSettled, settleAt := none }
    pvu := s.pvu.placeOwn s.ownStation .start (nextNumber s.ssu.claimNumber s.ssu.lastSettled) 0
    lnc := { s.lnc with
      queue := putFrame (s.startFrame (nextNumber s.ssu.claimNumber s.ssu.lastSettled)) s.lnc.queue } } := by
  unfold formStart
  dsimp only
  rw [Lnc.queueFrame_active hl (by simp [State.startFrame])]

/-- The urgency and the beacon at entry to QUEUED, where no own claim is to be sent again. -/
theorem queued_quiet {s : State} (hd : s.dbu.claim.outstanding = false) (hc : s.ssu.claim = .none) :
    refreshUrgency (requestBeacon { s with rsq := { s.rsq with state := .queued } }) = { s with
      rsq := { s.rsq with
        state := .queued
        urgency := ({ s with rsq := { s.rsq with state := .queued } } : State).computeUrgency }
      lnc := s.lnc.requestBeacon } := by
  obtain ⟨a, ha⟩ := refreshUrgency_quiet
    (s := requestBeacon { s with rsq := { s.rsq with state := .queued } }) hd hc
  have hlnc : (s.lnc.askIf true).askIf a = s.lnc.requestBeacon := by
    rw [Lnc.askIf_askIf, Bool.true_or]
    rfl
  rw [ha, ← hlnc]
  rfl

theorem enterQueued_claims (s : State) : QueuedWithClaim s (enterQueued s) := by
  intro hrun hline htenure hclaim hdraw
  have hu := queued_quiet hdraw hclaim
  have hbeacon := s.lnc.askIf_beacon true
  rw [Lnc.askIf_true] at hbeacon
  generalize s.lnc.requestBeacon.beacon = b at hbeacon
  rw [hbeacon] at hu
  unfold enterQueued
  rw [hu]
  dsimp only
  rw [if_neg (by simp [hrun]), actOnRequest_active, formStart_eq, nextNumber_eq]
  · exact ⟨rfl, hrun, ⟨rfl, rfl, rfl, rfl, rfl, rfl⟩, rfl, rfl, rfl⟩
  · exact hline
  · rfl
  · exact hclaim
  · exact htenure
  · exact hline

/-! ### The preconditions evaluated (R13, R14, R17) -/

theorem evalPreconditions_leaves {s : State} (hs : s.rsq.state = .stopped) (h : s.allMet = true) :
    evalPreconditions s = enterQueued s := by
  unfold evalPreconditions
  rw [hs, h]
  rfl

theorem evalPreconditions_returns {s : State} (hs : s.rsq.state = .queued) (h : s.allMet = false) :
    evalPreconditions s = returnToStopped s := by
  unfold evalPreconditions
  rw [hs, h]
  rfl

theorem evalPreconditions_queued {s : State} (hs : s.rsq.state = .queued) (h : s.allMet = true) :
    evalPreconditions s = s := by
  unfold evalPreconditions
  rw [hs, h]
  rfl

/-- Preconditions that come to be met in STOPPED lead on from there (R14 to R18). -/
structure LeftStopped (s t : State) : Prop where
  same : t = { s with rsq := t.rsq, dbu := t.dbu, ssu := t.ssu, pvu := t.pvu, lnc := t.lnc, cpn := t.cpn }
  went : (t.rsq.state = .queued ∧ t.rsq.pendingSet = s.rsq.pendingSet
      ∧ (s.rsq.runReq = false → t.rsq.runReq = false → t.ssu.request = true))
    ∨ (t.rsq.state = .ramping ∧ t.rsq.pendingSet = PendingSet.empty ∧ t.rsq.step = 0
      ∧ t.rsq.currentCause = s.rsq.pendingSet.profile ∧ t.driveRunning = true
      ∧ t.cpn.events.rampStarted = true)
  keeps : t.rsq.speed = s.rsq.speed ∧ t.rsq.stack = s.rsq.stack ∧ t.pvu.peers = s.pvu.peers
    ∧ t.cpn.ring = s.cpn.ring ∧ t.cpn.reply = s.cpn.reply
  asked : s.lnc.line.allowsBeacon = true → t.lnc.beacon ≠ .empty
  claims : QueuedWithClaim s t

theorem enterQueued_left (s : State) : LeftStopped s (enterQueued s) where
  same := State.of_blocks (by simp)
  went := by
    rcases enterQueued_wentOn s with ⟨hs, hp, hr⟩ | h
    · exact .inl ⟨hs, hp, fun hsr htr => (hr htr).trans (by simp [hsr])⟩
    · exact .inr h
  keeps := by simp
  asked := Asked.queued
  claims := enterQueued_claims s

/-- What holds where the preconditions lead holds of the whole occurrence. -/
theorem LeftStopped.stamp {s t : State} (h : LeftStopped s t) (b : State) : LeftStopped s (stampFault b t) := by
  rw [stampFault_does]
  exact {
    same := congrArg (fun v : State => { v with cpn := { t.cpn with fault := (stampFault b t).cpn.fault } }) h.same
    went := h.went
    keeps := h.keeps
    asked := h.asked
    claims := h.claims }

/-! ### RELEASE (R27) -/

theorem State.releasable_iff (s : State) : s.releasable = true ↔ (s.rsq.state = .stopped ∨ s.rsq.state = .queued)
    ∧ (s.rsq.pendingSet.hold.isSome = true ∨ s.rsq.pendingSet.breakout.isSome = true) := by
  simp [State.releasable]

theorem execRelease_taken {s : State} (hr : s.rstLow = false)
    (hs : s.rsq.state = .stopped ∨ s.rsq.state = .queued)
    (hp : s.rsq.pendingSet.hold.isSome = true ∨ s.rsq.pendingSet.breakout.isSome = true) :
    exec .release s = .next (answer 0x23 .ok [] (stampFault s (evalPreconditions s.afterRelease))) := by
  refine ((released_high _ hr).trans (if_pos (s.releasable_iff.mpr ⟨hs, hp⟩))).trans ?_
  rw [← stampFault_answer]
  rfl

theorem PendingSet.latchAll_profile (p : PendingSet) : (latchAll p).profile = p.profile := by
  unfold PerCause.profile latchAll
  refine List.find?_congr fun c _ => ?_
  cases c <;> simp [PerCause.get]

/-- Settles O38. -/
theorem releaseSetsTheLatches : Obligations.release_sets_the_latches := by
  refine ⟨fun s hr hs hp hm => ?_, fun s hr hs hp hm => ?_, fun s hr hs hp hm => ?_,
    fun s hr hs hp hm => ?_, fun s hr hn => ?_⟩
  · rw [execRelease_taken hr (.inl hs) hp, evalPreconditions_stays (by simp [State.afterRelease, hs]) hm,
      stampFault_of_fault_eq (b := s) (t := s.afterRelease) rfl]
    rfl
  · have hrow := execRelease_taken hr (.inl hs) hp
    rw [evalPreconditions_leaves (s := s.afterRelease) hs hm] at hrow
    have hx := (enterQueued_left s.afterRelease).stamp s
    generalize stampFault s (enterQueued s.afterRelease) = x at hrow hx
    obtain ⟨hspeed, hstack, hpeers, hring, hreply⟩ := hx.keeps
    refine ⟨_, hrow, congrArg (answer _ _ _) hx.same, ?_, hspeed, hstack, hpeers, hring, rfl, hx.asked, hx.claims⟩
    rcases hx.went with h | ⟨hramp, hempty, hstep, hcause, hrest⟩
    · exact .inl h
    · refine .inr ⟨hramp, hempty, hstep, hcause.trans ?_, hrest⟩
      exact PendingSet.latchAll_profile _
  · rw [execRelease_taken hr (.inr hs) hp, evalPreconditions_queued (s := s.afterRelease) hs hm,
      stampFault_of_fault_eq (b := s) (t := s.afterRelease) rfl]
    rfl
  · have hrow := execRelease_taken hr (.inr hs) hp
    rw [evalPreconditions_returns (s := s.afterRelease) hs hm, returnToStopped_eq, stampFault_of_fault_eq (b := s) (by rfl)] at hrow
    exact ⟨_, hrow, rfl, rfl, rfl, ⟨rfl, rfl, rfl, rfl, rfl, rfl, rfl⟩, rfl, rfl, rfl⟩
  · exact (released_high _ hr).trans (if_neg fun h => hn (s.releasable_iff.mp h))

end Sys2Proof.Machine
end

section
/-! SUPPORT. Authority given up (R3, R28, R72, R78): TAKE and PARK. -/

namespace Sys2Proof.Machine

/-! ### The stack cleared (R72, R75) -/

theorem foldl_writeReport (g : Context → Report) (stack : List Context) : ∀ s : State,
    s.cpn.events.reportReady = true → stack.foldl (fun t c => writeReport (g c) t) s
      = { s with cpn := { s.cpn with ring := stack.foldl (fun ring c => pushReport ring (g c)) s.cpn.ring } } := by
  induction stack with
  | nil => exact fun s _ => rfl
  | cons c rest ih =>
    intro s h
    have hready : writeReport (g c) s = { s with cpn := { s.cpn with ring := pushReport s.cpn.ring (g c) } } := by
      unfold writeReport notify EventNotices.raise
      dsimp only
      rw [← h]
    refine (List.foldl_cons ..).trans ?_
    rw [hready]
    exact ih { s with cpn := { s.cpn with ring := pushReport s.cpn.ring (g c) } } h

/-- The end that clears the stack writes the report of the restart and of each context, and empties the
stack. -/
theorem clearStack_eq (o : ReportOutcome) (s : State) : clearStack o s = { s with
    rsq := { s.rsq with stack := [] }
    cpn := { s.cpn with
      ring := s.ringAfterEnd o, events := { s.cpn.events with reportReady := true } } } := by
  unfold clearStack
  dsimp only
  rw [foldl_writeReport (s.contextReport o) _ _ rfl]
  rfl

/-! ### Authority given up (R3, R78) -/

/-- G where it tracks a fresh F. -/
def State.trackedDraw (s : State) : Nat :=
  if s.isFresh s.spu.feedback then s.drawOf s.spu.feedback.value else s.dbu.granted

/-- What giving up authority for the state `q` makes of `s`, with the reports `ring` and the notices
`events`. -/
structure GaveUp (q : SeqState) (ring : Vector Report 4) (events : EventNotices) (s t : State) : Prop where
  same : t = { s with
    rsq := t.rsq, dbu := t.dbu, ssu := t.ssu, pvu := t.pvu, lnc := t.lnc
    spu := { s.spu with refWaiting := true }, cpn := t.cpn }
  rsq : t.rsq = { s.rsq with
    state := q, pendingSet := PendingSet.empty, currentCause := none, step := 0
    dwell := 0, levelHoldTime := 0, levelHold := false, speed := 0, stack := []
    carried := none, counters := Counters.start, handbackAt := none, runReq := false
    urgency := 0 }
  dbu : t.dbu = { s.dbu with
    granted := if s.isFresh s.spu.feedback then s.drawOf s.spu.feedback.value else s.dbu.granted
    claim := .none, need := t.dbu.need, settleAt := t.dbu.settleAt, overcommit := t.dbu.overcommit }
  condition : t.dbu.overcommit = if s.isFresh s.spu.feedback then t.overcommitted else s.dbu.overcommit
  gone : OwnClaimsGone s t
  attempts : t.ssu.attempts = 0
  lnc : t.lnc = { s.lnc.requestBeacon with queue := t.lnc.queue }
  cpn : t.cpn = { s.cpn with ring := ring, events := events, fault := t.cpn.fault }

theorem trackFeedback_onWay (s : State) : OvercommitOnWay s (trackFeedback s) := by
  unfold trackFeedback
  split
  · exact setGranted_onWay _ s
  · exact .of_fault rfl rfl

theorem GaveUp.stamp {q : SeqState} {ring : Vector Report 4} {events : EventNotices} {s t : State}
    (h : GaveUp q ring events s t) (b : State) : GaveUp q ring events s (stampFault b t) := by
  rw [stampFault_does]
  exact {
    same := congrArg (fun v : State => { v with cpn := { t.cpn with fault := (stampFault b t).cpn.fault } }) h.same
    rsq := h.rsq
    dbu := h.dbu
    condition := h.condition
    gone := h.gone
    attempts := h.attempts
    lnc := h.lnc
    cpn := congrArg (fun v : Cpn => { v with fault := (stampFault b t).cpn.fault }) h.cpn }

/-- Giving up authority up to G, which then tracks a fresh F. -/
def State.withoutAuthority (s : State) (q : SeqState) : State :=
  { s with
    rsq := s.rsq.withoutAuthority q
    dbu := s.dbu.claimEnded
    ssu := { s.slotEnded with attempts := 0 }
    pvu := { s.pvu with claims := s.claimsWithoutOwn }
    lnc := { s.lnc.requestBeacon with queue := s.queueEnded }
    spu := { s.spu with refWaiting := true } }

theorem requestReference_joined {s : State} (h : s.rsq.state ≠ .unjoined) :
    requestReference s = { s with spu := { s.spu with refWaiting := true } } := if_neg h

theorem giveUpAuthority_steps {q : SeqState} (hq : q = .watch ∨ q = .parked) (s : State) :
    giveUpAuthority q s = refreshUrgency (trackFeedback (s.withoutAuthority q)) := by
  have hlnc : ({ s.lnc.askIf s.ssu.tenure with queue := s.queueEnded } : Lnc).askIf true
      = { s.lnc.requestBeacon with queue := s.queueEnded } := by
    rw [Lnc.askIf_queue, Lnc.askIf_askIf, Bool.or_true]
    rfl
  have hq' : q ≠ .unjoined := by rcases hq with rfl | rfl <;> decide
  unfold giveUpAuthority State.withoutAuthority
  rw [withdrawClaims_eq, ← hlnc]
  dsimp only
  rw [requestReference_joined hq']
  rfl

theorem giveUpAuthority_gaveUp {q : SeqState} (hq : q = .watch ∨ q = .parked) (s : State) :
    GaveUp q s.cpn.ring s.cpn.events s (giveUpAuthority q s) ∧ OvercommitOnWay s (giveUpAuthority q s) := by
  rw [giveUpAuthority_steps hq]
  have htrack := trackFeedback_eq (s.withoutAuthority q)
  obtain ⟨v, hf, hn, hj, hway⟩ := trackFeedback_onWay (s.withoutAuthority q)
  generalize trackFeedback _ = w at htrack hway ⊢
  generalize ho : w.overcommitted = o at htrack
  generalize w.cpn.fault = f at htrack hway
  have hzero : w.computeUrgency = 0 := by
    rw [htrack]
    rcases hq with rfl | rfl <;> rfl
  obtain ⟨a, ha⟩ := refreshUrgency_quiet (s := w) (by rw [htrack]; rfl) (by rw [htrack]; rfl)
  have hlnc : w.lnc.askIf a = { s.lnc.requestBeacon with queue := s.queueEnded } := by
    rw [htrack]
    show ({ s.lnc.askIf true with queue := s.queueEnded } : Lnc).askIf a = _
    rw [Lnc.askIf_queue, Lnc.askIf_askIf, Bool.true_or]
    rfl
  rw [ha, hzero, hlnc]
  rw [htrack] at hway ho ⊢
  refine ⟨?_, v, hf, hn, hj, hway⟩
  exact {
    same := rfl
    rsq := rfl
    dbu := rfl
    condition := by rw [← ho]; rfl
    gone := ⟨rfl, rfl, rfl, rfl, rfl, rfl, rfl⟩
    attempts := rfl
    lnc := rfl
    cpn := rfl }

/-- Authority given up with the restart and its contexts reported. -/
theorem giveUpAuthority_reported {q : SeqState} (hq : q = .watch ∨ q = .parked) (o : ReportOutcome) (s : State) :
    GaveUp q (s.ringAfterEnd o) { s.cpn.events with reportReady := true } s (giveUpAuthority q (clearStack o s))
      ∧ OvercommitOnWay s (giveUpAuthority q (clearStack o s)) := by
  obtain ⟨h, hway⟩ := giveUpAuthority_gaveUp hq (clearStack o s)
  rw [clearStack_eq] at h hway ⊢
  exact ⟨⟨h.same, h.rsq, h.dbu, h.condition, h.gone, h.attempts, h.lnc, h.cpn⟩, hway⟩

/-- A row that gives up authority and replies. -/
theorem giveUp_row {q : SeqState} {ring : Vector Report 4} {events : EventNotices} {code : Byte} {s : State}
    {f : State → State} (h : GaveUp q ring events s (f s)) (hway : OvercommitOnWay s (f s)) :
    ∃ x, occur (fun s => answer code .ok [] (f s)) s = .next (answer code .ok [] x)
      ∧ GaveUp q ring events s x ∧ OvercommitAlone s x :=
  ⟨_, by rw [occur_next, stampFault_answer], h.stamp s, hway.stamped⟩

/-- The statement's conjuncts from what giving up authority makes of the state. -/
theorem GaveUp.conj {q : SeqState} {ring : Vector Report 4} {events : EventNotices} {s x : State} (code : Byte)
    (h : GaveUp q ring events s x) (ho : OvercommitAlone s x) :
    let t := answer code .ok [] x
    t = { s with
        rsq := t.rsq, dbu := t.dbu, ssu := t.ssu, pvu := t.pvu, lnc := t.lnc
        spu := { s.spu with refWaiting := true }, cpn := t.cpn }
    ∧ t.rsq = { s.rsq with
        state := q, pendingSet := PendingSet.empty, currentCause := none, step := 0
        dwell := 0, levelHoldTime := 0, levelHold := false, speed := 0, stack := []
        carried := none, counters := Counters.start, handbackAt := none, runReq := false
        urgency := 0 }
    ∧ t.dbu = { s.dbu with
        granted := if s.isFresh s.spu.feedback then s.drawOf s.spu.feedback.value else s.dbu.granted
        claim := .none, need := t.dbu.need, settleAt := t.dbu.settleAt
        overcommit := t.dbu.overcommit }
    ∧ t.dbu.overcommit = (if s.isFresh s.spu.feedback then t.overcommitted else s.dbu.overcommit)
    ∧ OwnClaimsGone s t ∧ t.ssu.attempts = 0
    ∧ t.lnc = { s.lnc.requestBeacon with queue := t.lnc.queue }
    ∧ t.cpn = { s.cpn with
        reply := { status := .ok, code := code, data := [] }
        ring := ring, events := events, fault := t.cpn.fault }
    ∧ OvercommitAlone s t :=
  ⟨congrArg (answer code .ok []) h.same, h.rsq, h.dbu, h.condition, h.gone, h.attempts, h.lnc,
    congrArg (Cpn.answered code) h.cpn, ho⟩

/-! ### TAKE and PARK (R26, R28) -/

/-- Settles O39. -/
theorem takeAndParkGiveUpAuthority : Obligations.take_and_park_give_up_authority := by
  refine ⟨fun s hr hs => ?_, fun s hr hs => ?_, fun s hr hs => ?_, fun s hr hs => ?_, fun s hr hs => ?_,
    fun s hr hs => ?_⟩
  · obtain ⟨h, hway⟩ := giveUpAuthority_reported (q := .watch) (.inl rfl) .taken s
    obtain ⟨x, hx, h, ho⟩ := giveUp_row (code := 0x24) (f := fun s => giveUpAuthority .watch (clearStack .taken s)) h hway
    refine ⟨_, (released_high _ hr).trans ?_, h.conj 0x24 ho⟩
    rw [← hx]
    rcases hs with hs | hs | hs <;> rw [hs]
  · obtain ⟨h, hway⟩ := giveUpAuthority_gaveUp (q := .watch) (.inl rfl) s
    obtain ⟨x, hx, h, ho⟩ := giveUp_row (code := 0x24) (f := giveUpAuthority .watch) h hway
    refine ⟨_, (released_high _ hr).trans ?_, h.conj 0x24 ho⟩
    rw [← hx, hs]
  · obtain ⟨h, hway⟩ := giveUpAuthority_gaveUp (q := .parked) (.inr rfl) s
    obtain ⟨x, hx, h, ho⟩ := giveUp_row (code := 0x24) (f := giveUpAuthority .parked) h hway
    refine ⟨_, (released_high _ hr).trans ?_, h.conj 0x24 ho⟩
    rw [← hx, hs]
  · obtain ⟨h, hway⟩ := giveUpAuthority_reported (q := .parked) (.inr rfl) .parked s
    obtain ⟨x, hx, h, ho⟩ := giveUp_row (code := 0x21) (f := fun s => giveUpAuthority .parked (clearStack .parked s)) h hway
    refine ⟨_, (released_high _ hr).trans ?_, h.conj 0x21 ho⟩
    rw [← hx, hs]
  · obtain ⟨h, hway⟩ := giveUpAuthority_gaveUp (q := .parked) (.inr rfl) s
    obtain ⟨x, hx, h, ho⟩ := giveUp_row (code := 0x21) (f := giveUpAuthority .parked) h hway
    refine ⟨_, (released_high _ hr).trans ?_, h.conj 0x21 ho⟩
    rw [← hx, hs]
  · refine (released_high _ hr).trans ?_
    rcases hs with hs | hs | hs <;> rw [hs] <;> rfl

end Sys2Proof.Machine
end

section
/-! SUPPORT. The ramp tick (R52 to R63): the row of the tick, its steps up, down and at target, and what a
blocked step gives DBU (R91, R92, R99). -/

namespace Sys2Proof.Machine

/-! ### The row of the tick (R52) -/

/-- The state with its tick marked as taken. -/
def State.ticked (s : State) : State := { s with rsq := { s.rsq with tickTaken := true } }

theorem State.tickDue_of {s : State} (hs : s.rsq.state ≠ .unjoined) (h : TickNow s) : s.tickDue = true := by
  simp [State.tickDue, hs, h.1, h.2]

theorem execRampTick_row {s : State} (hr : s.rstLow = false) (hs : s.rsq.state ≠ .unjoined) (h : TickNow s) :
    exec .rampTick s = .next (stampFault s (takeTick s)) := row_next hr (State.tickDue_of hs h)

/-- In RAMPING the tick makes one step of the ramp, and a reference record is asked for. -/
theorem takeTick_ramping {s : State} (hs : s.rsq.state = .ramping) :
    takeTick s = { rampStep s.ticked with spu := { (rampStep s.ticked).spu with refWaiting := true } } := by
  unfold takeTick
  dsimp only
  rw [if_pos hs]
  refine if_neg ?_
  have hkind : (rampStep s.ticked).rsq.state = .unjoined → False := by
    unfold rampStep risingStep fallingStep atTargetStep completePoint levelWait advanceStep popContext enterHandback
    dsimp only
    repeat' split
    all_goals simp [State.ticked, hs]
  exact hkind

/-- A tick that captures no fault is its step and the request for a reference record. -/
theorem execRampTick_ramping {s t : State} (hr : s.rstLow = false) (hs : s.rsq.state = .ramping) (h : TickNow s)
    (ht : rampStep s.ticked = t) (hf : t.cpn.fault = s.cpn.fault) :
    exec .rampTick s = .next { t with spu := { t.spu with refWaiting := true } } := by
  rw [execRampTick_row hr (by simp [hs]) h, takeTick_ramping hs, ht, stampFault_of_fault_eq]
  exact hf

theorem dropHeldNeed_eq (s : State) : dropHeldNeed s = { s with dbu := s.dbu.unblocked } := by
  unfold dropHeldNeed Dbu.unblocked
  cases s.dbu.claim <;> rfl

/-! ### Steps up and down (R54 to R56) -/

theorem rampStep_up {s : State} (h : s.rsq.speed < s.target) : rampStep s = risingStep s := if_pos h

theorem rampStep_down {s : State} (h : s.target < s.rsq.speed) : rampStep s = fallingStep s :=
  (if_neg (by omega)).trans (if_pos h)

theorem rampStep_at {s : State} (h : s.rsq.speed = s.target) : rampStep s = atTargetStep (dropHeldNeed s) :=
  (if_neg (by omega)).trans (if_neg (by omega))

/-- The speed a rising step comes to. -/
def State.risen (s : State) : Nat := min (s.rsq.speed + s.currentPoint.slew) (min s.target s.speedMax)

/-- A rising step that the draw does not block. -/
theorem risingStep_free {s : State} (h : s.risen < s.speedMax ∨ s.risen = s.target) : risingStep s = { s with
    rsq := { s.rsq with speed := s.risen }, dbu := s.dbu.unblocked } := by
  unfold risingStep
  refine (if_neg ?_).trans (dropHeldNeed_eq _)
  show ¬ (s.risen = s.speedMax ∧ s.risen < s.target)
  omega

/-- A rising step that the draw blocks gives its need unless a claim is outstanding. -/
theorem risingStep_blocked {s : State} (hT : s.speedMax < s.target)
    (hslew : s.speedMax ≤ s.rsq.speed + s.currentPoint.slew) : risingStep s =
      if s.dbu.claim.outstanding then { s with rsq := { s.rsq with speed := s.speedMax } }
      else giveNeed (s.drawOf s.target - s.dbu.granted) { s with rsq := { s.rsq with speed := s.speedMax } } := by
  have hnew : s.risen = s.speedMax := by
    unfold State.risen
    omega
  unfold risingStep
  refine (if_pos (show s.risen = s.speedMax ∧ s.risen < s.target by omega)).trans ?_
  have hs : ({ s with rsq := { s.rsq with speed := s.risen } } : State)
      = { s with rsq := { s.rsq with speed := s.speedMax } } := by rw [hnew]
  show (if s.dbu.claim.outstanding then ({ s with rsq := { s.rsq with speed := s.risen } } : State) else
    giveNeed _ ({ s with rsq := { s.rsq with speed := s.risen } } : State)) = _
  rw [hs]

/-- Settles O46. -/
theorem rampTickMovesTheSpeed : Obligations.ramp_tick_moves_the_speed := by
  refine ⟨fun s hr hu hs h => ?_, fun s hr hs h hup hfree => ?_, fun s hr hs h hdown => ?_, fun s => ⟨?_, ?_⟩⟩
  · rw [execRampTick_row hr hu h]
    have htick : takeTick s = { s.ticked with spu := { s.spu with refWaiting := true } } := by
      unfold takeTick
      dsimp only
      rw [if_neg hs]
      exact if_neg hu
    rw [htick]
    exact congrArg Host.Outcome.next (stampFault_of_fault_eq rfl)
  · rw [execRampTick_ramping hr hs h ((rampStep_up (s := s.ticked) hup).trans (risingStep_free hfree)) rfl]
    rfl
  · have hfall : rampStep s.ticked = _ := (rampStep_down (s := s.ticked) hdown).trans (dropHeldNeed_eq _)
    rw [execRampTick_ramping hr hs h hfall rfl]
    rfl
  · intro hstack
    unfold State.target
    rw [hstack]
    rfl
  · intro c rest hstack
    unfold State.target
    rw [hstack]
    rfl

end Sys2Proof.Machine
end

section
/-! SUPPORT. What a blocked tick gives DBU (R91, R92, R99): the claim formed, the need held, the solo
allowance. -/

namespace Sys2Proof.Machine

/-! ### The solo allowance (R99) -/

/-- The grant that the solo allowance goes to for a need. -/
def State.soloGoal (s : State) (need : Nat) : Nat := min (need + s.dbu.granted) s.pst.strand.soloAllowance

/-- The state after a need given to the solo allowance, with the overcommit condition `o` and the fault
record `f` it leaves. -/
def State.soloRaised (s : State) (need : Nat) (o : Bool) (f : FaultRecord) : State :=
  { s with
    dbu := { s.dbu with
      granted := max s.dbu.granted (s.soloGoal need), need := none, claim := .none, overcommit := o }
    lnc := if s.dbu.granted < s.soloGoal need then s.lnc.requestBeacon else s.lnc
    cpn := { s.cpn with fault := f } }

theorem setGranted_made (g : Nat) (s : State) : ∃ o f, setGranted g s = { s with
      dbu := { s.dbu with granted := g, overcommit := o }, cpn := { s.cpn with fault := f } }
    ∧ o = ({ s with dbu := { s.dbu with granted := g } } : State).overcommitted
    ∧ OvercommitOnWay s { s with
      dbu := { s.dbu with granted := g, overcommit := o }, cpn := { s.cpn with fault := f } } := by
  have hway := setGranted_onWay g s
  have hset := setGranted_eq g s
  generalize setGranted g s = w at hway hset ⊢
  generalize hover : w.overcommitted = o at hset
  generalize w.cpn.fault = f at hset
  rw [hset] at hover hway
  exact ⟨o, f, hset, hover.symm, hway⟩

theorem soloRaise_made (need : Nat) (s : State) : ∃ o f, soloRaise need s = s.soloRaised need o f
    ∧ (s.dbu.granted < s.soloGoal need → o = (s.soloRaised need o f).overcommitted)
    ∧ (¬ s.dbu.granted < s.soloGoal need → o = s.dbu.overcommit)
    ∧ OvercommitOnWay s (s.soloRaised need o f) := by
  unfold soloRaise
  dsimp only
  by_cases hlt : s.dbu.granted < s.soloGoal need
  · obtain ⟨o, f, hset, hover, hway⟩ := setGranted_made (s.soloGoal need)
      { s with dbu := { s.dbu with claim := .none, need := none } }
    have hmax : max s.dbu.granted (s.soloGoal need) = s.soloGoal need := by omega
    refine ⟨o, f, ?_, fun _ => ?_, fun hn => absurd hlt hn, ?_⟩
    · refine (if_pos hlt).trans ?_
      rw [State.soloRaised, hmax, if_pos hlt, ← State.soloGoal, hset]
      rfl
    · rw [hover, State.soloRaised, hmax]
      rfl
    · rw [State.soloRaised, hmax]
      exact hway
  · have hmax : max s.dbu.granted (s.soloGoal need) = s.dbu.granted := by omega
    refine ⟨s.dbu.overcommit, s.cpn.fault, ?_, fun h => absurd h hlt, fun _ => rfl, .of_fault rfl rfl⟩
    refine (if_neg hlt).trans ?_
    rw [State.soloRaised, hmax, if_neg hlt]

/-- Without a rise of the condition the fault record stands. -/
theorem OvercommitAlone.keeps {s t : State} (h : OvercommitAlone s t)
    (hc : t.dbu.overcommit = false ∨ s.dbu.overcommit = true) : t.cpn.fault = s.cpn.fault := by
  refine Eq.trans h (if_neg ?_)
  rintro ⟨ht, hs⟩
  rcases hc with hc | hc
  · rw [hc] at ht
    exact nomatch ht
  · rw [hc] at hs
    exact nomatch hs

/-! ### The claim formed from a need (R92) -/

theorem formDraw_eq {s : State} {need : Nat} (hn : s.dbu.need = some need) (hl : s.lnc.line = .active) :
    formDraw s =
      if min need (min s.sendHeadroom s.pst.strand.chunk) < min s.pst.strand.minClaim need then
        { s with dbu := { s.dbu with claim := .waiting } }
      else
        { s with
          dbu := { s.dbu with
            claim := .sent, claimNumber := nextNumber s.dbu.claimNumber s.dbu.lastSettled
            amount := min need (min s.sendHeadroom s.pst.strand.chunk), settleAt := none }
          pvu := s.pvu.placeOwn s.ownStation .draw (nextNumber s.dbu.claimNumber s.dbu.lastSettled)
            (min need (min s.sendHeadroom s.pst.strand.chunk))
          lnc := { s.lnc with queue := putFrame (.claim .draw (nextNumber s.dbu.claimNumber s.dbu.lastSettled)
            (min need (min s.sendHeadroom s.pst.strand.chunk)) s.pst.strand.settleTime) s.lnc.queue } } := by
  unfold formDraw
  rw [hn]
  dsimp only
  rw [Lnc.queueFrame_active hl (by simp)]

/-! ### The blocked tick (R55) -/

/-- The ramp as a tick blocked by draw leaves it: S at S_max(G). -/
def State.blocked (s : State) : State :=
  { s with rsq := { s.rsq with speed := s.speedMax, tickTaken := true } }

/-- The state with a reference record asked for. -/
def State.referenced (s : State) : State := { s with spu := { s.spu with refWaiting := true } }

/-- The occasion of a tick that ends blocked by draw. -/
structure BlockedTick (s : State) : Prop where
  released : s.rstLow = false
  ramping : s.rsq.state = .ramping
  now : TickNow s
  up : s.rsq.speed < s.target
  limited : s.speedMax < s.target
  reach : s.speedMax ≤ s.rsq.speed + s.currentPoint.slew

/-- A blocked tick gives DBU its need unless a claim is outstanding. -/
theorem execRampTick_blocked {s t : State} (h : BlockedTick s)
    (ht : (if s.dbu.claim.outstanding then s.blocked else giveNeed (s.drawOf s.target - s.dbu.granted) s.blocked) = t) :
    exec .rampTick s = .next (stampFault s t.referenced) := by
  rw [execRampTick_row h.released (by simp [h.ramping]) h.now, takeTick_ramping h.ramping,
    rampStep_up (s := s.ticked) h.up, risingStep_blocked (s := s.ticked) h.limited h.reach]
  subst ht
  rfl

/-- On an ACTIVE line, from NONE or WAITING, the need forms a claim or waits. -/
theorem giveNeed_active {s : State} (need : Nat) (hl : s.lnc.line = .active)
    (hc : s.dbu.claim = .none ∨ s.dbu.claim = .waiting) : giveNeed need s =
      formDraw { s with dbu := { s.dbu with need := some need, needOfRunning := true } } := by
  unfold giveNeed
  rw [hl]
  rcases hc with hc | hc <;> rw [hc]

theorem giveNeed_off_line {s : State} (need : Nat) (hl : s.lnc.line = .deaf ∨ s.lnc.line = .barred) :
    giveNeed need s = soloRaise need s := by
  unfold giveNeed
  rcases hl with hl | hl <;> rw [hl]

theorem DrawStatus.outstanding_of {c : DrawStatus} (h : c = .none ∨ c = .waiting) : c.outstanding = false := by
  rcases h with rfl | rfl <;> rfl

/-- Settles O47. -/
theorem aBlockedTickGivesADrawNeed : Obligations.a_blocked_tick_gives_a_draw_need := by
  refine ⟨fun s hr hs h hup hT hslew ho => ?_, fun s hr hs h hup hT hslew hl hc => ?_,
    fun s hr hs h hup hT hslew hc => ?_, fun s hr hs h hup hT hslew hl ho => ?_⟩
  all_goals have hb : BlockedTick s := ⟨hr, hs, h, hup, hT, hslew⟩
  · rw [execRampTick_blocked hb (if_pos ho)]
    exact congrArg Host.Outcome.next (stampFault_of_fault_eq rfl)
  · have hform := (giveNeed_active (s := s.blocked) (s.drawOf s.target - s.dbu.granted) hl hc).trans
      (formDraw_eq rfl hl)
    have hrow := execRampTick_blocked hb ((if_neg (by simp [DrawStatus.outstanding_of hc])).trans hform)
    rw [nextNumber_eq] at hrow
    refine ⟨_, hrow, ?_⟩
    dsimp only
    split
    · next hmin =>
      refine (stampFault_of_fault_eq ?_).trans (if_pos hmin).symm
      rfl
    · next hmin =>
      refine (stampFault_of_fault_eq ?_).trans (if_neg hmin).symm
      rfl
  · rcases hc with ⟨hl, hc⟩ | ⟨hl, hc⟩
    · rw [execRampTick_blocked hb (if_neg (by simp [hc, DrawStatus.outstanding]))]
      have hneed : ∀ n, giveNeed n s.blocked
          = { s.blocked with dbu := { s.dbu with need := some n, needOfRunning := true } } := fun n => by
        unfold giveNeed
        rw [show s.blocked.lnc.line = .active from hl, show s.blocked.dbu.claim = .holdoff from hc]
        rfl
      rw [hneed, hl, if_neg (by simp), ← hc]
      exact congrArg Host.Outcome.next (stampFault_of_fault_eq rfl)
    · rw [execRampTick_blocked hb (if_neg (by simp [hc]))]
      have hneed : ∀ n, giveNeed n s.blocked
          = { s.blocked with dbu := { s.dbu with claim := .waiting, need := some n, needOfRunning := true } } :=
        fun n => by
        unfold giveNeed
        rw [show s.blocked.lnc.line = .listen from hl]
        rfl
      rw [hneed, hl, if_pos rfl]
      exact congrArg Host.Outcome.next (stampFault_of_fault_eq rfl)
  · have hrow := execRampTick_blocked hb ((if_neg (by simp [ho])).trans
      (giveNeed_off_line (s := s.blocked) (s.drawOf s.target - s.dbu.granted) hl))
    obtain ⟨o, f, hsolo, hover, -, hway⟩ := soloRaise_made (s.drawOf s.target - s.dbu.granted) s.blocked
    rw [hsolo] at hrow
    have hfault : OvercommitOnWay s (s.blocked.soloRaised (s.drawOf s.target - s.dbu.granted) o f).referenced := hway
    have hkeep := hfault.stamped.keeps
    have hstamp := stampFault_does s (s.blocked.soloRaised (s.drawOf s.target - s.dbu.granted) o f).referenced
    generalize (stampFault s _).cpn.fault = g at hstamp
    rw [hstamp] at hrow hkeep
    exact ⟨_, hrow, rfl, hover, hkeep⟩

end Sys2Proof.Machine
end

section
/-! SUPPORT. Ticks at target (R57 to R59): dwell, level hold and its timeout, with the two named rows of the
tick. -/

namespace Sys2Proof.Machine

/-- An occurrence that captures one fault, the state before it standing in the record. -/
theorem stampFault_of_captured {b t : State} (u : State) (k : FaultKind) (d : Nat)
    (ht : t.cpn.fault = u.captured k d) (hu : u.cpn.fault = b.cpn.fault ∧ u.now = b.now ∧ u.joinedAt = b.joinedAt) :
    stampFault b t = { t with cpn := { t.cpn with fault := b.captured k d } } :=
  (stampFault_does b t).trans (congrArg (fun f => ({ t with cpn := { t.cpn with fault := f } } : State))
    (stampFault_captured ht hu.1 hu.2.1 hu.2.2))

/-- The tick marked as taken and a held need dropped: the ramp before its step at target. -/
def State.atTarget (s : State) : State := { s.ticked with dbu := s.dbu.unblocked }

theorem rampStep_atTarget {s : State} (h : s.rsq.speed = s.target) : rampStep s.ticked = atTargetStep s.atTarget :=
  (rampStep_at (s := s.ticked) h).trans (congrArg atTargetStep (dropHeldNeed_eq s.ticked))

/-- The occasion of a tick at target. -/
structure TargetTick (s : State) : Prop where
  released : s.rstLow = false
  ramping : s.rsq.state = .ramping
  now : TickNow s
  arrived : s.rsq.speed = s.target

theorem execRampTick_atTarget {s t : State} (h : TargetTick s) (ht : atTargetStep s.atTarget = t) :
    exec .rampTick s = .next (stampFault s t.referenced) := by
  rw [execRampTick_row h.released (by simp [h.ramping]) h.now, takeTick_ramping h.ramping,
    rampStep_atTarget h.arrived, ht]
  rfl

/-- A step at target that captures nothing. -/
theorem execRampTick_atTarget_calm {s t : State} (h : TargetTick s) (ht : atTargetStep s.atTarget = t)
    (hf : t.cpn.fault = s.cpn.fault) : exec .rampTick s = .next t.referenced := by
  rw [execRampTick_atTarget h ht, stampFault_of_fault_eq]
  exact hf

theorem atTargetStep_dwells {s : State} (h : 1 < s.rsq.dwell) :
    atTargetStep s = { s with rsq := { s.rsq with dwell := s.rsq.dwell - 1 } } := by
  unfold atTargetStep
  exact if_neg (by omega)

/-- The gate holds the point: LEVEL_GATE is set and the level is out of band (R58). -/
abbrev Gated (s : State) : Prop :=
  s.currentPoint.levelGate = true ∧ s.levelInBand (s.entryOf s.rsq.currentCause) = false

theorem atTargetStep_waits {s : State} (h : s.rsq.dwell ≤ 1) (hg : Gated s) :
    atTargetStep s = levelWait { s with rsq := { s.rsq with dwell := s.rsq.dwell - 1 } } := by
  unfold atTargetStep
  dsimp only
  rw [if_pos h, if_pos]
  rw [hg.1, hg.2]
  rfl

/-! ### The level hold (R59) -/

theorem State.holdTimeoutCrossed_iff (s : State) (before after : Nat) :
    s.holdTimeoutCrossed before after = true ↔
      ∃ m, durationMs (s.entryOf s.rsq.currentCause).levelHoldCode = some m ∧ before ≤ m ∧ m < after := by
  unfold State.holdTimeoutCrossed
  cases durationMs (s.entryOf s.rsq.currentCause).levelHoldCode <;> simp

/-- The ramp after a tick that waits on the gate. -/
def State.levelHeld (s : State) : State :=
  { s with rsq := { s.rsq with
    dwell := s.rsq.dwell - 1, levelHoldTime := s.rsq.levelHoldTime + 100, levelHold := true
    counters := { s.rsq.counters with levelHoldTotal := min 65535 (s.rsq.counters.levelHoldTotal + 1) } } }

/-- The level-hold time exceeds its timeout for the first time with this tick. -/
abbrev Crossing (s : State) : Prop :=
  ∃ m, durationMs (s.entryOf s.rsq.currentCause).levelHoldCode = some m
    ∧ s.rsq.levelHoldTime ≤ m ∧ m < s.rsq.levelHoldTime + 100

theorem levelWait_holds {s : State} (h : ¬ Crossing s) :
    levelWait { s with rsq := { s.rsq with dwell := s.rsq.dwell - 1 } } = s.levelHeld := by
  unfold levelWait
  exact if_neg fun hc => h ((State.holdTimeoutCrossed_iff _ _ _).mp hc)

theorem levelWait_crosses {s : State} (h : Crossing s) :
    levelWait { s with rsq := { s.rsq with dwell := s.rsq.dwell - 1 } }
      = { s.levelHeld with cpn := { s.cpn with
          fault := s.levelHeld.captured .levelHoldTimeout s.spu.level.value } } := by
  unfold levelWait
  exact if_pos ((State.holdTimeoutCrossed_iff _ _ _).mpr h)

theorem not_crossing {s : State} (h : ∀ m, durationMs (s.entryOf s.rsq.currentCause).levelHoldCode = some m →
    m < s.rsq.levelHoldTime ∨ s.rsq.levelHoldTime + 100 ≤ m) : ¬ Crossing s := by
  rintro ⟨m, hm, hle, hlt⟩
  have := h m hm
  omega

/-! ### The named rows of the tick -/

theorem State.atTargetTick_of {s : State} (hs : s.rsq.state = .ramping) (h : TickNow s)
    (ht : s.rsq.speed = s.target) : s.atTargetTick = true := by
  rw [State.atTargetTick, State.tickDue_of (by simp [hs]) h]
  simp [hs, ht]

theorem execDwellEnd_eq {s : State} (hs : s.rsq.state = .ramping) (h : TickNow s)
    (ht : s.rsq.speed = s.target) (hd : s.rsq.dwell = 1) : exec .dwellEnd s = exec .rampTick s := by
  show execDwellEnd s = execRampTick s
  unfold execDwellEnd execRampTick
  rw [State.atTargetTick_of hs h ht, State.tickDue_of (by simp [hs]) h, hd]
  rfl

theorem execLevelHoldTimeout_eq {s : State} (hs : s.rsq.state = .ramping) (h : TickNow s)
    (ht : s.rsq.speed = s.target) (hd : s.rsq.dwell ≤ 1) (hg : Gated s) (hc : Crossing s) :
    exec .levelHoldTimeout s = exec .rampTick s := by
  show execLevelHoldTimeout s = execRampTick s
  have hcross := (s.holdTimeoutCrossed_iff _ _).mpr hc
  have hdue : s.holdTimeoutTick = true := by
    unfold State.holdTimeoutTick
    rw [State.atTargetTick_of hs h ht, decide_eq_true hd, hg.1, hg.2]
    exact hcross
  unfold execLevelHoldTimeout execRampTick
  rw [hdue, State.tickDue_of (by simp [hs]) h]

/-- A tick that waits on the gate without crossing the timeout. -/
theorem execRampTick_levelHeld {s : State} (h : TargetTick s) (hd : s.rsq.dwell ≤ 1) (hg : Gated s)
    (hc : ¬ Crossing s) : exec .rampTick s = .next s.atTarget.levelHeld.referenced :=
  execRampTick_atTarget_calm h
    ((atTargetStep_waits (s := s.atTarget) hd hg).trans (levelWait_holds (s := s.atTarget) hc)) rfl

/-- Settles O48. -/
theorem atTargetTicksCountDwellAndLevelHold : Obligations.at_target_ticks_count_dwell_and_level_hold := by
  refine ⟨fun s hr hs h ht hd => ?_, fun s hr hs h ht hd hg hb hc => ?_, fun s hr hs h ht hd hg hb hc => ?_,
    fun s hs h ht hd hg hb hc => execLevelHoldTimeout_eq hs h ht hd ⟨hg, hb⟩ hc,
    fun s hs h ht hd => ⟨execDwellEnd_eq hs h ht hd, fun hr hg hb hc => ?_⟩⟩
  · exact execRampTick_atTarget_calm ⟨hr, hs, h, ht⟩ (atTargetStep_dwells (s := s.atTarget) hd) rfl
  · exact execRampTick_levelHeld ⟨hr, hs, h, ht⟩ hd ⟨hg, hb⟩ (not_crossing hc)
  · rw [execLevelHoldTimeout_eq hs h ht hd ⟨hg, hb⟩ hc, execRampTick_atTarget ⟨hr, hs, h, ht⟩
      ((atTargetStep_waits (s := s.atTarget) hd ⟨hg, hb⟩).trans (levelWait_crosses (s := s.atTarget) hc))]
    exact congrArg Host.Outcome.next (stampFault_of_captured s.atTarget.levelHeld .levelHoldTimeout
      s.atTarget.spu.level.value rfl ⟨rfl, rfl, rfl⟩)
  · rw [execDwellEnd_eq hs h ht hd]
    exact execRampTick_levelHeld ⟨hr, hs, h, ht⟩ (by omega) ⟨hg, hb⟩ (not_crossing hc)

end Sys2Proof.Machine
end

section
/-! SUPPORT. A completed point (R60 to R62, R70): advance, HANDBACK, pop. -/

namespace Sys2Proof.Machine

/-! ### The urgency and the creep test (R34, R37) -/

theorem refreshUrgency_rsq (s : State) : (refreshUrgency s).rsq = { s.rsq with urgency := s.computeUrgency } := by
  unfold refreshUrgency
  split
  · next h => rw [h]
  · split <;> simp

theorem refreshUrgency_computeUrgency (s : State) : (refreshUrgency s).computeUrgency = s.computeUrgency := by
  have h := refreshUrgency_urged s
  rw [Urged, refreshUrgency_urgency] at h
  exact h.symm

theorem beaconIfChanged_computeUrgency (b s : State) :
    (beaconIfChanged b s).computeUrgency = s.computeUrgency := by
  obtain ⟨a, ha, -⟩ := beaconIfChanged_eq b s
  rw [ha]
  rfl

/-- The creep test passes for the first time in the restart, or a carried deadline stands. -/
abbrev CreepMet (s : State) : Prop :=
  s.rsq.state = .ramping ∧ s.creep = true
    ∧ (s.rsq.counters.creepMoment = none ∨ s.rsq.carried.isSome = true)

/-- The ramp whose freeze has been met. -/
def State.freezeMet (s : State) : State :=
  { s with rsq := { s.rsq with
    carried := none
    counters := { s.rsq.counters with creepMoment := some (s.rsq.counters.creepMoment.getD s.now) } } }

theorem creepTest_meets {s : State} (h : CreepMet s) : creepTest s = refreshUrgency s.freezeMet := if_pos h

theorem creepTest_passes {s : State} (h : ¬ CreepMet s) : creepTest s = s := if_neg h

/-! ### The point done -/

/-- The ramp with its point done, before it is known where that leads. -/
def State.pointDone (s : State) : State :=
  { s with rsq := { s.rsq with
    dwell := s.rsq.dwell - 1, levelHold := false
    counters := { s.rsq.counters with pointsCompleted := s.rsq.counters.pointsCompleted + 1 } } }

/-- The gate lets the point pass (R58). -/
abbrev GatePassed (s : State) : Prop :=
  s.currentPoint.levelGate = false ∨ s.levelInBand (s.entryOf s.rsq.currentCause) = true

theorem atTargetStep_completes {s : State} (h : s.rsq.dwell ≤ 1) (hg : GatePassed s) :
    atTargetStep s = completePoint { s with rsq := { s.rsq with dwell := s.rsq.dwell - 1 } } := by
  unfold atTargetStep
  dsimp only
  rw [if_pos h, if_neg]
  rcases hg with hg | hg <;> simp [hg]

/-- Where a completed point leads. -/
theorem completePoint_eq (s : State) :
    completePoint { s with rsq := { s.rsq with dwell := s.rsq.dwell - 1 } } =
      match s.rsq.stack with
      | c :: rest =>
        if s.rsq.speed = c.resumeSpeed ∨ s.currentPoint.last = true then popContext c rest s.pointDone
        else advanceStep s.pointDone
      | [] => if s.currentPoint.last then enterHandback s.pointDone else advanceStep s.pointDone := rfl

theorem runningReport_ramping {s : State} (h : s.rsq.state = .ramping) (o : ReportOutcome) :
    s.runningReport o = fillReport s.rsq.currentCause o (some s.rsq.step) (s.rampLengthOf s.rsq.currentCause)
      s.rsq.speed s.rsq.counters := by
  unfold State.runningReport
  rw [h]

/-! ### The end of the own claims after a held need is dropped -/

theorem Dbu.unblocked_outstanding (d : Dbu) : d.unblocked.claim.outstanding = d.claim.outstanding := by
  unfold Dbu.unblocked
  cases h : d.claim <;> simp [h, DrawStatus.outstanding]

theorem Dbu.unblocked_claimNumber (d : Dbu) : d.unblocked.claimNumber = d.claimNumber := by
  unfold Dbu.unblocked
  cases d.claim <;> rfl

theorem Dbu.unblocked_claimEnded (d : Dbu) : d.unblocked.claimEnded = d.claimEnded := by
  unfold Dbu.unblocked Dbu.claimEnded
  cases h : d.claim <;> simp [h, DrawStatus.outstanding]

theorem Dbu.unblocked_granted (d : Dbu) : d.unblocked.granted = d.granted := by
  unfold Dbu.unblocked
  cases d.claim <;> rfl

/-- A held need is no part of the own claims that end. -/
theorem State.claimsWithoutOwn_unblocked (s : State) :
    ({ s with dbu := s.dbu.unblocked } : State).claimsWithoutOwn = s.claimsWithoutOwn := by
  simp only [State.claimsWithoutOwn, Dbu.unblocked_outstanding]

theorem State.queueEnded_unblocked (s : State) :
    ({ s with dbu := s.dbu.unblocked } : State).queueEnded = s.queueEnded := by
  refine congrArg (s.releaseQueued .stopped) ?_
  simp only [State.claimsWithdrawn, Dbu.unblocked_outstanding, Dbu.unblocked_claimNumber]
  rfl

theorem Dbu.eq_of_claimEnded {d e : Dbu} (h : e = d.claimEnded) :
    e = { d with claim := .none, need := e.need, settleAt := e.settleAt } := by
  subst h
  rfl

/-! ### HANDBACK (R20, R21) -/

theorem enterHandback_eq (s : State) : enterHandback s = { s with
    rsq := { s.rsq with
      state := .handback, carried := none, handbackAt := timerFrom s.now s.pst.strand.handbackCode
      urgency := s.rsq.urgencyBase }
    dbu := s.dbu.claimEnded
    ssu := s.slotEnded
    pvu := { s.pvu with claims := s.claimsWithoutOwn }
    lnc := { s.lnc.requestBeacon with queue := s.queueEnded }
    cpn := { s.cpn with
      ring := pushReport s.cpn.ring (s.runningReport .completed)
      events := { s.cpn.events with reportReady := true } } } := by
  unfold enterHandback
  rw [withdrawClaims_eq]
  obtain ⟨a, ha⟩ := refreshUrgency_quiet (s := requestBeacon { s with
    rsq := { s.rsq with
      state := .handback, carried := none, handbackAt := timerFrom s.now s.pst.strand.handbackCode }
    dbu := s.dbu.claimEnded
    ssu := s.slotEnded
    pvu := { s.pvu with claims := s.claimsWithoutOwn }
    lnc := { s.lnc.askIf s.ssu.tenure with queue := s.queueEnded }
    cpn := { s.cpn with
      ring := pushReport s.cpn.ring (s.runningReport .completed)
      events := { s.cpn.events with reportReady := true } } }) rfl rfl
  refine ha.trans ?_
  have hlnc : (({ s.lnc.askIf s.ssu.tenure with queue := s.queueEnded } : Lnc).askIf true).askIf a
      = { s.lnc.requestBeacon with queue := s.queueEnded } := by
    rw [Lnc.askIf_askIf, Lnc.askIf_queue, Lnc.askIf_askIf, Bool.true_or, Bool.or_true]
    rfl
  rw [← hlnc]
  rfl

/-! ### Pop (R62, R67, R70) -/

/-- Context `c` restored over `rest` with the report of the restart that ends, before the creep test. -/
def State.restored (s : State) (c : Context) (rest : List Context) : State :=
  { s with
    rsq := { s.rsq with
      stack := rest, currentCause := c.cause, step := c.step, dwell := c.dwell, levelHoldTime := c.levelHoldTime
      carried := c.unmetDeadline, baseUrgency := c.baseUrgency
      urgencyBase := (s.entryOf c.cause).baseUrgency, counters := c.counters.interrupted }
    dbu := { s.dbu with needOfRunning := false }
    cpn := { s.cpn with
      ring := pushReport s.cpn.ring (s.runningReport .resumed)
      events := { s.cpn.events with reportReady := true } } }

theorem popContext_eq (c : Context) (rest : List Context) (s : State) : popContext c rest s
    = beaconIfChanged s (refreshUrgency (creepTest (s.restored c rest))) := rfl

theorem popContext_rsq (c : Context) (rest : List Context) (s : State) : (popContext c rest s).rsq
    = { (creepTest (s.restored c rest)).rsq with urgency := (popContext c rest s).computeUrgency } := by
  rw [popContext_eq, beaconIfChanged_computeUrgency, refreshUrgency_computeUrgency]
  have hrsq : ∀ b u, (beaconIfChanged b u).rsq = u.rsq := fun b u => by simp
  rw [hrsq, refreshUrgency_rsq]

theorem popContext_cpn (c : Context) (rest : List Context) (s : State) :
    (popContext c rest s).cpn = (s.restored c rest).cpn := by
  rw [popContext_eq]
  simp

/-! ### The tick at which the point completes -/

theorem execRampTick_completes {s t : State} (h : TargetTick s) (hd : s.rsq.dwell ≤ 1) (hg : GatePassed s)
    (ht : completePoint { s.atTarget with rsq := { s.atTarget.rsq with dwell := s.atTarget.rsq.dwell - 1 } } = t)
    (hf : t.cpn.fault = s.cpn.fault) : exec .rampTick s = .next t.referenced :=
  execRampTick_atTarget_calm h ((atTargetStep_completes (s := s.atTarget) hd hg).trans ht) hf

theorem completePoint_advances {s : State} (h : (s.rsq.stack = [] ∧ s.currentPoint.last = false)
      ∨ ∃ c rest, s.rsq.stack = c :: rest ∧ s.rsq.speed ≠ c.resumeSpeed ∧ s.currentPoint.last = false) :
    completePoint { s with rsq := { s.rsq with dwell := s.rsq.dwell - 1 } } = advanceStep s.pointDone := by
  rw [completePoint_eq]
  rcases h with ⟨hstack, hlast⟩ | ⟨c, rest, hstack, hspeed, hlast⟩
  · simp [hstack, hlast]
  · simp [hstack, hspeed, hlast]

theorem completePoint_pops {s : State} {c : Context} {rest : List Context} (h : s.rsq.stack = c :: rest)
    (hp : s.rsq.speed = c.resumeSpeed ∨ s.currentPoint.last = true) :
    completePoint { s with rsq := { s.rsq with dwell := s.rsq.dwell - 1 } } = popContext c rest s.pointDone := by
  rw [completePoint_eq, h]
  exact if_pos hp

theorem completePoint_handsBack {s : State} (h : s.rsq.stack = []) (hlast : s.currentPoint.last = true) :
    completePoint { s with rsq := { s.rsq with dwell := s.rsq.dwell - 1 } } = enterHandback s.pointDone := by
  rw [completePoint_eq, h]
  exact if_pos hlast

/-- Settles O49. -/
theorem aCompletedPointAdvancesPopsOrHandsBack :
    Obligations.a_completed_point_advances_pops_or_hands_back := by
  refine ⟨fun s hr hs h ht hd hg hstay => ?_, fun s hr hs h ht hd hg hstack hlast => ?_,
    fun c rest s hr hs h ht hd hg hstack hp => ?_⟩
  · exact execRampTick_completes ⟨hr, hs, h, ht⟩ hd hg (completePoint_advances (s := s.atTarget) hstay) rfl
  · have hended := s.dbu.unblocked_claimEnded
    have hdwell : s.rsq.dwell - 1 = 0 := by omega
    have hrow := execRampTick_completes ⟨hr, hs, h, ht⟩ hd hg
      ((completePoint_handsBack (s := s.atTarget) hstack hlast).trans (enterHandback_eq _)) rfl
    rw [runningReport_ramping (s := s.atTarget.pointDone) hs] at hrow
    refine ⟨_, hrow, rfl, ?_, ⟨rfl, congrArg Dbu.need hended, congrArg Dbu.settleAt hended, rfl, rfl, ?_, ?_⟩, rfl,
      Dbu.eq_of_claimEnded hended, rfl, rfl⟩
    · exact congrArg (fun n => ({ s.rsq with
        state := .handback, dwell := n, levelHold := false, carried := none, tickTaken := true
        handbackAt := timerFrom s.now s.pst.strand.handbackCode, urgency := s.rsq.urgencyBase
        counters := { s.rsq.counters with pointsCompleted := s.rsq.counters.pointsCompleted + 1 } } : Rsq)) hdwell
    · exact s.claimsWithoutOwn_unblocked
    · exact s.queueEnded_unblocked
  · have hrow := execRampTick_completes ⟨hr, hs, h, ht⟩ hd hg (completePoint_pops (s := s.atTarget) hstack hp)
      (by rw [popContext_cpn]; rfl)
    have hcpn := popContext_cpn c rest s.atTarget.pointDone
    have hreport := runningReport_ramping (s := s.atTarget.pointDone) hs .resumed
    refine ⟨_, hrow, congrArg State.referenced
      (State.of_blocks (s := s.atTarget.pointDone) (t := popContext c rest s.atTarget.pointDone) (by simp)),
      ?_, ?_, ?_, ?_, ?_, ?_, (congrArg Cpn.ring hcpn).trans (congrArg (pushReport s.cpn.ring) hreport),
      congrArg Cpn.events hcpn, (congrArg Cpn.fault hcpn :)⟩
    · refine (popContext_rsq c rest s.atTarget.pointDone).trans ?_
      by_cases hm : CreepMet (s.atTarget.pointDone.restored c rest)
      · have hmet : s.creep = true ∧ (c.counters.creepMoment = none ∨ c.unmetDeadline.isSome = true) := hm.2
        rw [creepTest_meets hm, refreshUrgency_rsq, if_pos hmet, if_pos hmet]
        rfl
      · have hnot : ¬ (s.creep = true ∧ (c.counters.creepMoment = none ∨ c.unmetDeadline.isSome = true)) :=
          fun hmet => hm ⟨hs, hmet⟩
        rw [creepTest_passes hm, if_neg hnot, if_neg hnot]
        rfl
    · exact (by simp : (popContext c rest s.atTarget.pointDone).dbu.granted
        = s.atTarget.pointDone.dbu.granted).trans s.dbu.unblocked_granted
    · show (popContext c rest s.atTarget.pointDone).dbu.needOfRunning = false
      rw [popContext_eq]
      simp [State.restored]
    · exact (by simp : (popContext c rest s.atTarget.pointDone).ssu.tenure = s.atTarget.pointDone.ssu.tenure)
    · exact (by simp : (popContext c rest s.atTarget.pointDone).ssu.holder = s.atTarget.pointDone.ssu.holder)
    · exact (by simp : (popContext c rest s.atTarget.pointDone).pvu.peers = s.atTarget.pointDone.pvu.peers)

end Sys2Proof.Machine
end

section
/-! SUPPORT. Entry to ABANDONED (R22), the first fault of an occurrence (R182), and what the test of the
first point leaves of the start slot and of the claim list (R15, R16). -/

namespace Sys2Proof.Machine

/-! ### The first fault of an occurrence (R182) -/

theorem captured_unlocked {s : State} (h : s.cpn.fault.locked = false) (k : FaultKind) (d : Nat) :
    s.captured k d = {
      locked := true, kind := some k, state := s.rsq.state, cause := s.restartCause
      step := s.rsq.step, time := s.sinceJoin, detail := d, multiple := false, later := 0 } := by
  rw [State.captured, h, if_neg Bool.false_ne_true]

/-- A fault captured in the unlocked record of `u`, which `s` leads to, stands first in the record after the
occurrence with the values of `s`. -/
theorem firstFault_stamped {s u t : State} {k : FaultKind} {d : Nat} (hf : u.cpn.fault = s.cpn.fault)
    (hn : u.now = s.now) (hj : u.joinedAt = s.joinedAt) (h : FaultKept (u.captured k d) t) :
    FirstFault s (stampFault s t) k d := by
  intro hl
  have hfirst := h.first
  have htime : u.sinceJoin = s.sinceJoin := by
    unfold State.sinceJoin
    rw [hn, hj]
  rw [captured_unlocked (by rw [hf, hl]), htime] at hfirst
  have hlocked : t.cpn.fault.locked = true := by rw [hfirst]
  have hstamp : (stampFault s t).cpn.fault = { t.cpn.fault with
      state := s.rsq.state, cause := s.restartCause, step := s.rsq.step } := by
    unfold stampFault
    rw [if_pos (by rw [hl, hlocked]; rfl)]
  rw [hstamp, captured_unlocked hl]
  dsimp only
  rw [hfirst]

/-- What keeps every single change keeps the fault just captured. -/
theorem faultKept_capture {k : FaultKind} {d : Nat} {s : State} (h : s.cpn.fault.locked = false) :
    FaultKept (s.captured k d) (capture k d s) ∧ (s.captured k d).locked = true := by
  rw [captured_unlocked h, ← captured_unlocked h]
  refine ⟨.refl (s := capture k d s) ?_, ?_⟩
  · rw [capture_fault, captured_unlocked h]
    exact Nat.zero_le _
  · rw [captured_unlocked h]

/-! ### ABANDONED (R22) -/

/-- What entry to ABANDONED makes of `s`. -/
structure Abandons (s t : State) : Prop where
  same : t = { s with
    rsq := t.rsq, dbu := t.dbu, ssu := t.ssu, pvu := t.pvu, lnc := t.lnc
    spu := { s.spu with refWaiting := true }, cpn := t.cpn }
  rsq : t.rsq = { s.rsq with
    state := .abandoned, currentCause := s.restartCause, pendingSet := PendingSet.empty
    stack := [], carried := none, levelHold := false, speed := 0, runReq := false, urgency := 0 }
  dbu : t.dbu = { s.dbu with
    granted := 0, claim := .none, need := t.dbu.need, settleAt := t.dbu.settleAt
    overcommit := t.overcommitted }
  cpn : t.cpn = { s.cpn with
    ring := s.ringAfterEnd .abandoned, events := { s.cpn.events with reportReady := true }
    fault := t.cpn.fault }
  lnc : t.lnc = { s.lnc.requestBeacon with queue := t.lnc.queue }
  gone : OwnClaimsGone s t
  attempts : t.ssu.attempts = 0

theorem Abandons.stamp {s t : State} (h : Abandons s t) (b : State) : Abandons s (stampFault b t) := by
  rw [stampFault_does]
  exact {
    same := congrArg (fun v : State => { v with cpn := { t.cpn with fault := (stampFault b t).cpn.fault } }) h.same
    rsq := h.rsq
    dbu := h.dbu
    cpn := congrArg (fun v : Cpn => { v with fault := (stampFault b t).cpn.fault }) h.cpn
    lnc := h.lnc
    gone := h.gone
    attempts := h.attempts }

/-- Entry to ABANDONED up to G, which then becomes 0. -/
def State.restartEnded (s : State) : State :=
  { s with
    rsq := { s.rsq with
      state := .abandoned, currentCause := s.restartCause, pendingSet := PendingSet.empty
      stack := [], carried := none, levelHold := false, speed := 0, runReq := false }
    dbu := s.dbu.claimEnded
    ssu := { s.slotEnded with attempts := 0 }
    pvu := { s.pvu with claims := s.claimsWithoutOwn }
    lnc := { s.lnc.askIf s.ssu.tenure with queue := s.queueEnded }
    cpn := { s.cpn with
      ring := s.ringAfterEnd .abandoned, events := { s.cpn.events with reportReady := true } } }

theorem enterAbandoned_steps (s : State) : enterAbandoned s
    = refreshUrgency (requestBeacon (requestReference (setGranted 0 s.restartEnded))) := by
  unfold enterAbandoned
  rw [clearStack_eq, withdrawClaims_eq]
  rfl

theorem Lnc.eq_with_queue {a b : Lnc} {q : List QueuedFrame} (h : a = { b with queue := q }) :
    a = { b with queue := a.queue } := by
  rw [h]

theorem enterAbandoned_abandons (s : State) : Abandons s (enterAbandoned s) := by
  rw [enterAbandoned_steps]
  obtain ⟨o, f, hset, hover, -⟩ := setGranted_made 0 s.restartEnded
  rw [hset, requestReference_joined (by exact fun h => nomatch h)]
  obtain ⟨a, ha⟩ := refreshUrgency_quiet (s := requestBeacon { s.restartEnded with
    dbu := { s.restartEnded.dbu with granted := 0, overcommit := o }
    spu := { s.restartEnded.spu with refWaiting := true }
    cpn := { s.restartEnded.cpn with fault := f } }) rfl rfl
  have hlnc : (({ s.lnc.askIf s.ssu.tenure with queue := s.queueEnded } : Lnc).askIf true).askIf a
      = { s.lnc.requestBeacon with queue := s.queueEnded } := by
    rw [Lnc.askIf_askIf, Lnc.askIf_queue, Lnc.askIf_askIf, Bool.true_or, Bool.or_true]
    rfl
  rw [ha]
  exact {
    same := rfl
    rsq := rfl
    dbu := by
      rw [hover]
      rfl
    cpn := rfl
    lnc := Lnc.eq_with_queue hlnc
    gone := ⟨rfl, rfl, rfl, rfl, rfl, rfl, congrArg Lnc.queue hlnc⟩
    attempts := rfl }

/-! ### The entries of the other stations (R127) -/

/-- The entries of the stations other than `own` in a peer view. -/
def Pvu.others (p : Pvu) (own : Nat) : List ClaimEntry :=
  p.claims.filter fun e => !e.isOwn && decide (e.station ≠ own)

theorem State.peerEntries_eq (s : State) : s.peerEntries = s.pvu.others s.ownStation := rfl

namespace Pvu

variable {p : Pvu}

theorem placeOwn_others (own : Nat) (k : ClaimKind) (n a : Nat) :
    (p.placeOwn own k n a).others own = p.others own := by
  simp only [others, placeOwn, List.filter_append, List.filter_filter]
  have hnew : [(⟨own, k, n, a, .own .sent⟩ : ClaimEntry)].filter
      (fun e => !e.isOwn && decide (e.station ≠ own)) = [] := by simp
  rw [hnew, List.append_nil]
  refine List.filter_congr fun e _ => ?_
  by_cases he : e.station = own <;> simp [he]

theorem removeOwn_others (own : Nat) (k : ClaimKind) : (p.removeOwn k).others own = p.others own := by
  simp only [others, removeOwn, List.filter_filter]
  refine List.filter_congr fun e _ => ?_
  cases e.isOwn <;> simp

theorem setOwnStatus_others (own : Nat) (k : ClaimKind) (st : OwnStatus) :
    (p.setOwnStatus k st).others own = p.others own := by
  simp only [others, setOwnStatus]
  induction p.claims with
  | nil => rfl
  | cons e es ih =>
    by_cases he : e.isOwn = true ∧ e.kind = k
    · rw [List.map_cons, if_pos (by simp [he]), List.filter_cons, List.filter_cons, ih]
      simp [he.1, isOwn_own]
    · rw [List.map_cons, if_neg (by simpa using he), List.filter_cons, List.filter_cons, ih]

end Pvu

/-- The entries of the other stations stand, and the own number. -/
structure SamePeers (s t : State) : Prop where
  straps : t.cpn.straps = s.cpn.straps
  others : t.peerEntries = s.peerEntries

namespace SamePeers

variable {s t u : State}

theorem refl (s : State) : SamePeers s s := ⟨rfl, rfl⟩

theorem station (h : SamePeers s t) : t.ownStation = s.ownStation := by
  unfold State.ownStation
  rw [h.straps]

theorem of_own (h : SamePeers s t) (hs : u.cpn.straps = t.cpn.straps)
    (hp : u.pvu.others t.ownStation = t.pvu.others t.ownStation) : SamePeers s u := by
  have hown : u.ownStation = t.ownStation := by
    unfold State.ownStation
    rw [hs]
  refine ⟨hs.trans h.straps, ?_⟩
  rw [State.peerEntries_eq, hown, hp, ← State.peerEntries_eq, h.others]

theorem of_claims (h : SamePeers s t) (hs : u.cpn.straps = t.cpn.straps) (hp : u.pvu.claims = t.pvu.claims) :
    SamePeers s u := h.of_own hs (by rw [Pvu.others, hp]; rfl)

theorem place (h : SamePeers s t) (hs : u.cpn.straps = t.cpn.straps) {k : ClaimKind} {n a : Nat}
    (hp : u.pvu = t.pvu.placeOwn t.ownStation k n a) : SamePeers s u :=
  h.of_own hs (by rw [hp, Pvu.placeOwn_others])

theorem remove (h : SamePeers s t) (hs : u.cpn.straps = t.cpn.straps) {k : ClaimKind}
    (hp : u.pvu = t.pvu.removeOwn k) : SamePeers s u := h.of_own hs (by rw [hp, Pvu.removeOwn_others])

theorem status (h : SamePeers s t) (hs : u.cpn.straps = t.cpn.straps) {k : ClaimKind} {st : OwnStatus}
    (hp : u.pvu = t.pvu.setOwnStatus k st) : SamePeers s u := h.of_own hs (by rw [hp, Pvu.setOwnStatus_others])

theorem beacon (h : SamePeers s t) : SamePeers s (requestBeacon t) := h.of_claims rfl rfl

theorem form (h : SamePeers s t) : SamePeers s (formDraw t) := by
  unfold formDraw
  split
  · exact h
  · dsimp only
    split
    · exact h.of_claims rfl rfl
    · exact h.place rfl rfl

theorem solo (n : Nat) (h : SamePeers s t) : SamePeers s (soloRaise n t) := by
  obtain ⟨o, f, ht, -⟩ := soloRaise_made n t
  rw [ht]
  exact h.of_claims rfl rfl

theorem need (n : Nat) (h : SamePeers s t) : SamePeers s (giveNeed n t) := by
  unfold giveNeed
  split
  · split
    · exact form (h.of_claims rfl rfl)
    · exact form (h.of_claims rfl rfl)
    · exact h.of_claims rfl rfl
    all_goals exact h
  · exact h.of_claims rfl rfl
  · exact h.solo n
  · exact h.solo n
  · exact h

theorem resendDraw (h : SamePeers s t) : SamePeers s (resendDraw t) := by
  unfold Machine.resendDraw
  dsimp only
  split
  · split
    · exact h
    · exact h.of_claims rfl rfl
  · exact h.status rfl rfl
  all_goals exact h

theorem repeatStart (h : SamePeers s t) : SamePeers s (repeatStart t) := h.status rfl rfl

theorem resendStart (h : SamePeers s t) : SamePeers s (resendStart t) := by
  unfold Machine.resendStart
  split
  · split
    · exact h
    · exact h.repeatStart
  · exact h.repeatStart
  · exact h.repeatStart
  · exact h

theorem urgency (h : SamePeers s t) : SamePeers s (refreshUrgency t) := by
  unfold refreshUrgency
  dsimp only
  split
  · exact h
  · split
    · exact resendStart (resendDraw (h.of_claims rfl rfl))
    · exact h.of_claims rfl rfl

theorem creep (h : SamePeers s t) : SamePeers s (creepTest t) := by
  unfold creepTest
  split
  · exact urgency (h.of_claims rfl rfl)
  · exact h

theorem ramping (h : SamePeers s t) : SamePeers s (enterRamping t) :=
  urgency (creep (h.of_claims rfl rfl))

theorem firstPoint (h : SamePeers s t) : SamePeers s (firstPointTest t) := by
  unfold firstPointTest
  dsimp only
  split
  · split
    · exact h.ramping
    · split
      · exact h
      · split
        · exact (h.need _).ramping
        · exact h.need _
  · exact h

theorem withdrawStart (h : SamePeers s t) : SamePeers s (withdrawStart t) := by
  rw [withdrawStart_ends]
  exact h.remove rfl rfl

theorem drive (h : SamePeers s t) : SamePeers s (driveTest t) := by
  unfold driveTest
  split
  · exact firstPoint (withdrawStart (h.of_claims rfl rfl))
  · exact h

theorem slot (n : Nat) (h : SamePeers s t) : SamePeers s (takeSlot n t) :=
  drive (beacon (h.remove rfl (k := .start) rfl))

theorem act (h : SamePeers s t) : SamePeers s (actOnRequest t) := by
  unfold actOnRequest
  split
  · split
    · exact h.place rfl rfl
    · split
      · exact h.slot _
      · exact h
    · split
      · exact h.slot _
      · exact h
    all_goals exact h
  · exact h

end SamePeers

end Sys2Proof.Machine
end

section
/-! SUPPORT. Timers of a restart (R19 to R22, R33 to R37): freeze, margin and handback, the urgency that rises
to 3, and the slot taken with the drive at hand (R112, R117). -/

namespace Sys2Proof.Machine

theorem expired_of_runOut {s : State} {timer : Option Moment} (h : RunOut s timer) : expired s.now timer = true := by
  obtain ⟨m, rfl, hm⟩ := h
  exact (reached_iff _ _).mpr hm

/-! ### Own claims in the transmit queue (R142, R143) -/

theorem QueuedFrame.claim_slot (k : ClaimKind) (n a m : Nat) : (QueuedFrame.claim k n a m).slot = (claimSlot k) := by
  cases k <;> rfl

theorem Lnc.holdsClaim_eq (l : Lnc) (k : ClaimKind) (n : Nat) :
    l.holdsClaim k n = l.queue.any (QueuedFrame.isClaim k n) := rfl

theorem QueuedFrame.isClaim_slot {k : ClaimKind} {n : Nat} {f : QueuedFrame} (h : f.isClaim k n = true) :
    f.slot = (claimSlot k) := by
  cases f with
  | claim k' n' a m =>
    simp only [QueuedFrame.isClaim, decide_eq_true_eq] at h
    rw [QueuedFrame.claim_slot, h.1]
  | _ => exact nomatch h

/-- A frame of another slot leaves a CLAIM in the queue or out of it. -/
theorem putFrame_any_isClaim {k : ClaimKind} {f : QueuedFrame} (h : f.slot ≠ (claimSlot k)) (n : Nat)
    (q : List QueuedFrame) : (putFrame f q).any (QueuedFrame.isClaim k n) = q.any (QueuedFrame.isClaim k n) := by
  rw [Bool.eq_iff_iff, List.any_eq_true, List.any_eq_true]
  refine exists_congr fun g => and_congr_left fun hg => putFrame_other ?_
  rw [QueuedFrame.isClaim_slot hg]
  exact h.symm

theorem queueFrame_claim_queue (l : Lnc) (k : ClaimKind) (n a m : Nat) :
    (l.queueFrame (.claim k n a m)).queue
      = if l.line = .active then putFrame (.claim k n a m) l.queue else l.queue := by
  unfold Lnc.queueFrame
  cases l.line <;> rfl

theorem queueFrame_claim_other {k k' : ClaimKind} (h : k' ≠ k) (l : Lnc) (n n' a m : Nat) :
    (l.queueFrame (.claim k' n' a m)).queue.any (QueuedFrame.isClaim k n)
      = l.queue.any (QueuedFrame.isClaim k n) := by
  rw [queueFrame_claim_queue]
  split
  · refine putFrame_any_isClaim ?_ n l.queue
    rw [QueuedFrame.claim_slot]
    cases k <;> cases k' <;> simp_all [claimSlot]
  · rfl

theorem queueFrame_claim_holds {l : Lnc} (h : l.line = .active) (k : ClaimKind) (n a m : Nat) :
    (l.queueFrame (.claim k n a m)).queue.any (QueuedFrame.isClaim k n) = true := by
  rw [queueFrame_claim_queue, if_pos h]
  exact List.any_eq_true.mpr ⟨_, putFrame_mem _ _, by simp [QueuedFrame.isClaim]⟩

/-! ### Own claims sent again at urgency 3 (R96, R110) -/

theorem resendDraw_dbu (s : State) : (resendDraw s).dbu =
    if s.dbu.claim = .contending then { s.dbu with claim := .sent, settleAt := none } else s.dbu := by
  unfold resendDraw
  dsimp only
  split
  · split <;> simp [*]
  all_goals simp [*]

/-- The own START claim is to be sent again, with `q` in the transmit queue: it contends or waits, or is SENT
with no CLAIM queued. -/
abbrev Resent (u : Ssu) (q : List QueuedFrame) : Prop :=
  (u.claim = .contending ∨ u.claim = .waiting)
    ∨ (u.claim = .sent ∧ q.any (QueuedFrame.isClaim .start u.claimNumber) = false)

theorem resendStart_eq (s : State) : resendStart s = if Resent s.ssu s.lnc.queue then repeatStart s else s := by
  unfold resendStart
  split
  · next hc =>
    rw [Lnc.holdsClaim_eq]
    split
    · next hq => exact (if_neg (by simp [Resent, hc, hq])).symm
    · next hq => exact (if_pos (by simp [Resent, hc, hq])).symm
  · next hc => exact (if_pos (by simp [Resent, hc])).symm
  · next hc => exact (if_pos (by simp [Resent, hc])).symm
  · next hc => exact (if_neg (by simp [Resent, hc])).symm

theorem resendStart_none {s : State} (h : s.ssu.claim = .none) : resendStart s = s := by
  unfold resendStart
  rw [h]

theorem resendStart_ssu (s : State) : (resendStart s).ssu =
    if Resent s.ssu s.lnc.queue then { s.ssu with claim := .sent, settleAt := none } else s.ssu := by
  rw [resendStart_eq]
  split <;> rfl

theorem resendDraw_starts (s : State) (n : Nat) : (resendDraw s).lnc.queue.any (QueuedFrame.isClaim .start n)
    = s.lnc.queue.any (QueuedFrame.isClaim .start n) := by
  unfold resendDraw
  dsimp only
  split
  · split
    · rfl
    · exact queueFrame_claim_other (by decide) ..
  · exact queueFrame_claim_other (by decide) ..
  all_goals rfl

theorem resendStart_draws (s : State) (n : Nat) : (resendStart s).lnc.queue.any (QueuedFrame.isClaim .draw n)
    = s.lnc.queue.any (QueuedFrame.isClaim .draw n) := by
  rw [resendStart_eq]
  split
  · exact queueFrame_claim_other (by decide) ..
  · rfl

theorem resendDraw_holds {s : State} (hl : s.lnc.line = .active) (ho : s.dbu.claim.outstanding = true) :
    (resendDraw s).lnc.queue.any (QueuedFrame.isClaim .draw s.dbu.claimNumber) = true := by
  unfold resendDraw
  dsimp only
  split
  · split
    · next hq => exact hq
    · exact queueFrame_claim_holds hl ..
  · exact queueFrame_claim_holds hl ..
  all_goals
    next hc =>
      rw [hc] at ho
      exact nomatch ho

theorem resendStart_holds {s : State} (hl : s.lnc.line = .active) (hc : s.ssu.claim ≠ .none) :
    (resendStart s).lnc.queue.any (QueuedFrame.isClaim .start s.ssu.claimNumber) = true := by
  rw [resendStart_eq]
  split
  · exact queueFrame_claim_holds hl ..
  · next h =>
    cases hs : s.ssu.claim
    · exact absurd hs hc
    all_goals simp_all [Resent]

/-- What a rise of the urgency to 3 does: the own claims that are to be sent again are, under their numbers. -/
structure Risen (s t : State) : Prop where
  same : t = { s with rsq := { s.rsq with urgency := 3 }, dbu := t.dbu, ssu := t.ssu, pvu := t.pvu, lnc := t.lnc }
  dbu : t.dbu = if s.dbu.claim = .contending then { s.dbu with claim := .sent, settleAt := none } else s.dbu
  ssu : t.ssu = if Resent s.ssu s.lnc.queue then { s.ssu with claim := .sent, settleAt := none } else s.ssu
  asked : s.lnc.line.allowsBeacon = true → t.lnc.beacon ≠ .empty
  draws : s.lnc.line = .active → s.dbu.claim.outstanding = true →
    t.lnc.queue.any (QueuedFrame.isClaim .draw s.dbu.claimNumber) = true
  starts : s.lnc.line = .active → s.ssu.claim ≠ .none →
    t.lnc.queue.any (QueuedFrame.isClaim .start s.ssu.claimNumber) = true

theorem refreshUrgency_risen {s : State} (h : s.computeUrgency = 3) (hu : s.rsq.urgency ≠ 3) :
    Risen s (refreshUrgency s) := by
  have heq : refreshUrgency s
      = resendStart (resendDraw (requestBeacon { s with rsq := { s.rsq with urgency := 3 } })) := by
    unfold refreshUrgency
    dsimp only
    rw [h, if_neg (Ne.symm hu), if_pos rfl]
  have hqueue : (requestBeacon { s with rsq := { s.rsq with urgency := 3 } }).lnc.queue = s.lnc.queue := by simp
  generalize hv : requestBeacon { s with rsq := { s.rsq with urgency := 3 } } = v at heq hqueue
  have hblocks : v = { s with rsq := { s.rsq with urgency := 3 }, lnc := v.lnc } := by rw [← hv]; rfl
  have hline : v.lnc.line = s.lnc.line := by rw [← hv]; simp
  have hv' : v.dbu = s.dbu ∧ v.ssu = s.ssu := by rw [← hv]; exact ⟨rfl, rfl⟩
  have hssu : (resendDraw v).ssu = s.ssu := (by simp : (resendDraw v).ssu = v.ssu).trans hv'.2
  have hresent : Resent (resendDraw v).ssu (resendDraw v).lnc.queue ↔ Resent s.ssu s.lnc.queue := by
    simp only [Resent, resendDraw_starts, hqueue, hssu]
  rw [heq]
  exact {
    same := by
      have hb := State.of_blocks (s := v) (t := resendStart (resendDraw v)) (by simp)
      have hrsq : (resendStart (resendDraw v)).rsq = v.rsq := by simp
      have hcpn : (resendStart (resendDraw v)).cpn = v.cpn := by simp
      rw [hrsq, hcpn] at hb
      refine hb.trans ?_
      rw [← hv]
      rfl
    dbu := by
      have hdbu : (resendStart (resendDraw v)).dbu = (resendDraw v).dbu := by simp
      rw [hdbu, resendDraw_dbu, hv'.1]
    ssu := by
      refine (resendStart_ssu _).trans (if_congr hresent ?_ hssu)
      rw [hssu]
    asked := fun ha => by
      have hbeacon : v.lnc.beacon ≠ .empty := by
        rw [← hv]
        exact requestBeacon_beacon ha
      simpa using hbeacon
    draws := fun hl ho => by
      rw [resendStart_draws, ← hv'.1]
      exact resendDraw_holds (hline.trans hl) (by rw [hv'.1, ho])
    starts := fun hl hc => by
      rw [← hssu]
      exact resendStart_holds (by simpa [hline] using hl) (by rwa [hssu]) }

/-! ### The slot taken (R112, R117) -/

theorem Lnc.askIf_dropClear (l : Lnc) (a : Bool) :
    (l.askIf a).dropClear = { l.askIf a with queue := l.queue.filter fun f => decide (f.slot ≠ .clear) } := by
  rw [Lnc.askIf_beacon]
  rfl

theorem State.driveRunning_slotTaken (n : Nat) (s : State) :
    (requestBeacon (slotTaken n s)).driveRunning = s.drvReady := rfl

/-- With the drive not ready, or outside QUEUED, the slot is taken and nothing more. -/
theorem takeSlot_idle (n : Nat) {s : State} (h : s.drvReady = false ∨ s.rsq.state ≠ .queued) :
    takeSlot n s = requestBeacon (slotTaken n s) := by
  unfold takeSlot driveTest
  refine if_neg ?_
  rw [State.driveRunning_slotTaken]
  rintro ⟨hq, hd⟩
  rcases h with h | h
  · rw [h] at hd
    exact nomatch hd
  · exact h hq

/-- The start slot unit once the slot is taken. -/
def State.slotHeld (s : State) (settled : Nat) : Ssu :=
  { s.ssu with
    holder := some s.ownStation, tenure := true, tenureAt := timerFrom s.now s.pst.strand.startCode
    attempts := s.ssu.attempts + 1, lastSettled := settled, claim := .none, settleAt := none, clearSent := false }

theorem slotTaken_eq (n : Nat) (s : State) : requestBeacon (slotTaken n s) = { s with
    rsq := { s.rsq with
      runReq := true
      counters := { s.rsq.counters with startAttempts := min 255 (s.rsq.counters.startAttempts + 1) } }
    ssu := s.slotHeld n
    pvu := s.pvu.removeOwn .start
    lnc := { s.lnc.requestBeacon with queue := s.lnc.queue.filter fun f => decide (f.slot ≠ .clear) } } := by
  have hlnc : s.lnc.dropClear.requestBeacon
      = { s.lnc.requestBeacon with queue := s.lnc.queue.filter fun f => decide (f.slot ≠ .clear) } :=
    s.lnc.requestBeacon_queue _
  rw [← hlnc]
  rfl

/-- From `s` to `t` only the DRAW side and the ramp have moved: the start slot unit, which has no claim, the
start attempts and the own START entries stand, and no CLEAR has come into the queue. -/
structure DrawOnly (s t : State) : Prop where
  slot : t.ssu = s.ssu
  unclaimed : s.ssu.claim = .none
  attempts : t.rsq.counters.startAttempts = s.rsq.counters.startAttempts
  own : t.pvu.own .start = s.pvu.own .start
  clears : (∀ f ∈ s.lnc.queue, f.slot ≠ .clear) → ∀ f ∈ t.lnc.queue, f.slot ≠ .clear

namespace DrawOnly

variable {s t u : State}

theorem refl (h : s.ssu.claim = .none) : DrawOnly s s := ⟨rfl, h, rfl, rfl, id⟩

theorem quiet (h : DrawOnly s t) : t.ssu.claim = .none := by
  rw [h.slot, h.unclaimed]

theorem of_same (h : DrawOnly s t) (hs : u.ssu = t.ssu ∧ u.pvu = t.pvu ∧ u.lnc.queue = t.lnc.queue
    ∧ u.rsq.counters.startAttempts = t.rsq.counters.startAttempts) : DrawOnly s u := by
  obtain ⟨hssu, hpvu, hqueue, hattempts⟩ := hs
  exact ⟨hssu.trans h.slot, h.unclaimed, hattempts.trans h.attempts, by rw [hpvu, h.own],
    by rw [hqueue]; exact h.clears⟩

theorem claims (h : DrawOnly s t) {n a m : Nat} (hs : u.ssu = t.ssu ∧ u.pvu.own .start = t.pvu.own .start
    ∧ u.lnc = t.lnc.queueFrame (.claim .draw n a m)
    ∧ u.rsq.counters.startAttempts = t.rsq.counters.startAttempts) : DrawOnly s u := by
  obtain ⟨hssu, hown, hlnc, hattempts⟩ := hs
  refine ⟨hssu.trans h.slot, h.unclaimed, hattempts.trans h.attempts, hown.trans h.own, fun hc f hf hs => ?_⟩
  rw [hlnc, queueFrame_claim_queue] at hf
  split at hf
  · refine h.clears hc f ((putFrame_other ?_).mp hf) hs
    rw [hs]
    exact fun he => nomatch he
  · exact h.clears hc f hf hs

theorem form (h : DrawOnly s t) : DrawOnly s (formDraw t) := by
  unfold formDraw
  split
  · exact h
  · dsimp only
    split
    · exact h.of_same ⟨rfl, rfl, rfl, rfl⟩
    · exact h.claims ⟨rfl, Pvu.placeOwn_own_ne (by decide) .., rfl, rfl⟩

theorem solo (n : Nat) (h : DrawOnly s t) : DrawOnly s (soloRaise n t) := by
  obtain ⟨o, f, ht, -⟩ := soloRaise_made n t
  rw [ht]
  refine h.of_same ⟨rfl, rfl, ?_, rfl⟩
  unfold State.soloRaised
  dsimp only
  split <;> simp

theorem need (n : Nat) (h : DrawOnly s t) : DrawOnly s (giveNeed n t) := by
  unfold giveNeed
  split
  · split
    · exact form (h.of_same ⟨rfl, rfl, rfl, rfl⟩)
    · exact form (h.of_same ⟨rfl, rfl, rfl, rfl⟩)
    · exact h.of_same ⟨rfl, rfl, rfl, rfl⟩
    all_goals exact h
  · exact h.of_same ⟨rfl, rfl, rfl, rfl⟩
  · exact h.solo n
  · exact h.solo n
  · exact h

theorem resend (h : DrawOnly s t) : DrawOnly s (resendDraw t) := by
  unfold resendDraw
  dsimp only
  split
  · split
    · exact h
    · exact h.claims ⟨rfl, rfl, rfl, rfl⟩
  · exact h.claims ⟨rfl, Pvu.setOwnStatus_own_ne (by decide) _, rfl, rfl⟩
  all_goals exact h

theorem urgency (h : DrawOnly s t) : DrawOnly s (refreshUrgency t) := by
  have h1 : DrawOnly s (requestBeacon { t with rsq := { t.rsq with urgency := t.computeUrgency } }) :=
    h.of_same ⟨rfl, rfl, by simp, rfl⟩
  unfold refreshUrgency
  dsimp only
  split
  · exact h
  · split
    · rw [resendStart_none h1.resend.quiet]
      exact h1.resend
    · exact h1

theorem creep (h : DrawOnly s t) : DrawOnly s (creepTest t) := by
  unfold creepTest
  split
  · exact urgency (h.of_same ⟨rfl, rfl, rfl, rfl⟩)
  · exact h

theorem ramping (h : DrawOnly s t) : DrawOnly s (enterRamping t) :=
  urgency (creep (h.of_same ⟨rfl, rfl, by simp, rfl⟩))

theorem firstPoint (h : DrawOnly s t) : DrawOnly s (firstPointTest t) := by
  unfold firstPointTest
  dsimp only
  split
  · split
    · exact h.ramping
    · split
      · exact h
      · split
        · exact (h.need _).ramping
        · exact h.need _
  · exact h

end DrawOnly

namespace Urged

variable {s : State}

theorem firstPoint (h : Urged s) : Urged (firstPointTest s) := by
  unfold firstPointTest
  dsimp only
  split
  · split
    · exact refreshUrgency_urged _
    · split
      · exact h
      · split
        · exact refreshUrgency_urged _
        · exact h.of_same (by constructor <;> simp)
  · exact h

theorem slot (n : Nat) (h : Urged s) : Urged (takeSlot n s) := by
  have h1 : Urged (requestBeacon (slotTaken n s)) := h.of_same (by constructor <;> simp)
  unfold takeSlot driveTest
  split
  · exact firstPoint (h1.of_same (by constructor <;> simp))
  · exact h1

end Urged

/-- What taking the slot does with the drive ready in QUEUED: the request ends, and the test of the first point
follows. -/
structure SlotDriven (settled : Nat) (s t : State) : Prop where
  same : t = { s with rsq := t.rsq, dbu := t.dbu, ssu := t.ssu, pvu := t.pvu, lnc := t.lnc, cpn := t.cpn }
  ssu : t.ssu = { s.slotHeld settled with request := false }
  attempts : t.rsq.counters.startAttempts = min 255 (s.rsq.counters.startAttempts + 1)
  own : t.pvu.own .start = []
  others : t.peerEntries = s.peerEntries
  clears : ∀ f ∈ t.lnc.queue, f.slot ≠ .clear
  asked : s.lnc.line.allowsBeacon = true → t.lnc.beacon ≠ .empty
  keeps : t.rsq.runReq = true ∧ t.rsq.speed = s.rsq.speed ∧ t.rsq.stack = s.rsq.stack ∧ t.pvu.peers = s.pvu.peers
  went : t.rsq.state = .queued ∧ t.rsq.pendingSet = s.rsq.pendingSet
    ∨ t.rsq.state = .ramping ∧ t.rsq.currentCause = s.rsq.pendingSet.profile
      ∧ t.rsq.pendingSet = PendingSet.empty ∧ t.cpn.events.rampStarted = true

theorem takeSlot_driven (n : Nat) {s : State} (hd : s.drvReady = true) (hq : s.rsq.state = .queued) :
    SlotDriven n s (takeSlot n s) := by
  have heq : takeSlot n s = firstPointTest (withdrawStart { requestBeacon (slotTaken n s) with
      ssu := { s.slotHeld n with request := false } }) := by
    unfold takeSlot driveTest
    exact if_pos ⟨hq, hd⟩
  have hdraw := (DrawOnly.refl (s := withdrawStart { requestBeacon (slotTaken n s) with
    ssu := { s.slotHeld n with request := false } }) (by rw [withdrawStart_ends])).firstPoint
  rw [← heq, withdrawStart_ends] at hdraw
  exact {
    same := State.of_blocks (by simp)
    ssu := hdraw.slot
    attempts := hdraw.attempts
    own := hdraw.own.trans Pvu.removeOwn_own_same
    others := ((SamePeers.refl s).slot n).others
    clears := hdraw.clears fun f hf => by
      have := List.mem_filter.mp hf
      simpa using this.2
    asked := fun ha => Asked.drive (requestBeacon_beacon (s := slotTaken n s) (by simpa using ha))
    keeps := by
      refine ⟨?_, by simp, by simp, by simp⟩
      rw [heq]
      simp [slotTaken]
    went := by
      rcases WentOn.slot n hq with ⟨hs, hp, -⟩ | ⟨hs, hp, -, hc, -, he⟩
      · exact .inl ⟨hs, hp⟩
      · exact .inr ⟨hs, hc, hp, he⟩ }

/-! ### The timers -/

theorem execFreezeExpiry_row {s : State} {d : Moment} {c : Cause} (hr : s.rstLow = false)
    (hd : s.deadlineInForce = some d) (hz : timeLeft s.now d = 0) (hc : s.deadlineCause d = some c) :
    exec .freezeExpiry s
      = .next (stampFault s (enterAbandoned (capture .freezeExpired (causeCode (some c)).toNat s))) := by
  have hdue : s.freezeExpired = true := expired_of_runOut ⟨d, hd, hz⟩
  have heffect : expireFreeze s = enterAbandoned (capture .freezeExpired (causeCode (some c)).toNat s) := by
    unfold expireFreeze
    rw [hd, Option.bind_some, hc]
  rw [← heffect]
  exact row_next hr hdue

/-- The end of a restart that captured a fault stands first in the record. -/
theorem abandoned_firstFault {s u : State} {k : FaultKind} {d : Nat} (hf : u.cpn.fault = s.cpn.fault)
    (hn : u.now = s.now) (hj : u.joinedAt = s.joinedAt) {v : State} (hv : v.cpn.fault = u.captured k d) :
    FirstFault s (stampFault s (enterAbandoned v)) k d := by
  intro hl
  have hu : u.cpn.fault.locked = false := by rw [hf, hl]
  obtain ⟨hkept, hlocked⟩ := faultKept_capture (k := k) (d := d) hu
  exact firstFault_stamped hf hn hj ((faultKept_traced hlocked).abandon (hkept.of_fault hv)) hl

/-- With urgency 3 and nothing for the slot to act on, the test without the line does nothing. -/
theorem selfTakeTest_stays {s : State} (h : (s.lnc.line ≠ .deaf ∧ s.lnc.line ≠ .barred) ∨ s.ssu.request = false
    ∨ s.ssu.tenure = true ∨ s.ssu.claim ≠ .none) : selfTakeTest s = s := by
  have hact : (s.ssu.request = false ∨ s.ssu.tenure = true ∨ s.ssu.claim ≠ .none) → actOnRequest s = s := fun hn => by
    unfold actOnRequest
    refine if_neg ?_
    rintro ⟨hreq, hten, hclaim⟩
    simp_all
  unfold selfTakeTest
  split
  · next hl => exact hact (h.resolve_left fun hn => hn.1 hl)
  · next hl => exact hact (h.resolve_left fun hn => hn.2 hl)
  all_goals rfl

theorem selfTakeTest_takes {s : State} (hl : s.lnc.line = .deaf ∨ s.lnc.line = .barred)
    (hr : s.ssu.request = true) (ht : s.ssu.tenure = false) (hc : s.ssu.claim = .none) (hu : s.rsq.urgency = 3) :
    selfTakeTest s = takeSlot s.ssu.lastSettled s := by
  unfold selfTakeTest actOnRequest
  rw [if_pos ⟨hr, ht, hc⟩]
  rcases hl with hl | hl <;> (rw [hl]; exact if_pos hu)

theorem State.marginReached_of {s : State} (h : s.computeUrgency = 3) (hu : s.rsq.urgency ≠ 3) :
    s.marginReached = true := by
  simp [State.marginReached, h, hu]

/-- The urgency at 3. -/
def State.atThree (s : State) : State := { s with rsq := { s.rsq with urgency := 3 } }

/-- A beacon asked for, where `a` says so. -/
def State.asking (s : State) (a : Bool) : State := { s with lnc := s.lnc.askIf a }

theorem State.asking_line (s : State) (a : Bool) : (s.asking a).lnc.line = s.lnc.line := by
  rw [State.asking, Lnc.askIf_beacon]

/-- The margin timer with the slot to take. -/
theorem execMarginTimerExpiry_takes {s : State} (hr : s.rstLow = false) (h : s.computeUrgency = 3)
    (hu : s.rsq.urgency ≠ 3) (hl : s.lnc.line = .deaf ∨ s.lnc.line = .barred) (hreq : s.ssu.request = true)
    (ht : s.ssu.tenure = false) (hc : s.ssu.claim = .none) (hd : s.dbu.claim.outstanding = false) :
    ∃ a, exec .marginTimerExpiry s
      = .next (stampFault s (takeSlot s.ssu.lastSettled (s.atThree.asking a))) := by
  obtain ⟨a, ha⟩ := refreshUrgency_quiet hd hc
  rw [h] at ha
  have htake := selfTakeTest_takes (s := s.atThree.asking a) (by rwa [State.asking_line]) hreq ht hc rfl
  refine ⟨a, (row_next hr (s.marginReached_of h hu)).trans ?_⟩
  rw [ha]
  exact congrArg (fun t => Host.Outcome.next (stampFault s t)) htake

/-- A beacon asked for before the slot is taken is the one the take asks for. -/
theorem slotTaken_asking (n : Nat) (s : State) (a : Bool) :
    requestBeacon (slotTaken n (s.asking a)) = requestBeacon (slotTaken n s) := by
  have hq : (s.lnc.askIf a).queue = s.lnc.queue := by rw [Lnc.askIf_beacon]
  have hb : (s.lnc.askIf a).requestBeacon = s.lnc.requestBeacon := by
    rw [← Lnc.askIf_true, Lnc.askIf_askIf, Bool.or_true, Lnc.askIf_true]
  rw [slotTaken_eq, slotTaken_eq, State.asking]
  dsimp only
  rw [hq, hb]
  rfl

/-- What the take leaves where no START claim stood. -/
theorem State.slotHeld_unclaimed {s : State} (h : s.ssu.claim = .none) : s.slotHeld s.ssu.lastSettled = { s.ssu with
    holder := some s.ownStation, tenure := true, tenureAt := timerFrom s.now s.pst.strand.startCode
    attempts := s.ssu.attempts + 1, settleAt := none, clearSent := false } := by
  rw [State.slotHeld, ← h]

theorem SlotDriven.stamp {n : Nat} {s t : State} (h : SlotDriven n s t) (b : State) :
    SlotDriven n s (stampFault b t) := by
  rw [stampFault_does]
  exact {
    same := congrArg (fun v : State => { v with cpn := { t.cpn with fault := (stampFault b t).cpn.fault } }) h.same
    ssu := h.ssu
    attempts := h.attempts
    own := h.own
    others := h.others
    clears := h.clears
    asked := h.asked
    keeps := h.keeps
    went := h.went }

theorem Urged.stamp {t : State} (h : Urged t) (b : State) : Urged (stampFault b t) := by
  rw [stampFault_does]
  exact h

theorem execHandbackTimerExpiry_row {s : State} (hr : s.rstLow = false) (hs : s.rsq.state = .handback)
    (h : RunOut s s.rsq.handbackAt) : exec .handbackTimerExpiry s = .next (stampFault s
      (capture .handbackOverdue (causeCode s.rsq.currentCause).toNat
        { s with rsq := { s.rsq with handbackAt := none } })) :=
  row_next hr (by rw [expired_of_runOut h, hs]; rfl)

/-- Settles O50. -/
theorem deadlineTimersAbandonAndRaiseUrgency : Obligations.deadline_timers_abandon_and_raise_urgency := by
  refine ⟨fun d c s hr hd hz hc => ?_, fun s hr h hu hstay => ?_,
    fun s hr h hu hl hreq ht hc hd hidle => ?_, fun s hr h hu hl hreq ht hc hd hdrv hq => ?_,
    fun s hr hs hrun => ?_⟩
  · have hx := (enterAbandoned_abandons (capture .freezeExpired (causeCode (some c)).toNat s)).stamp s
    exact ⟨_, execFreezeExpiry_row hr hd hz hc, hx.same, hx.rsq, hx.dbu, hx.cpn, hx.lnc, hx.gone, hx.attempts,
      abandoned_firstFault (u := s) rfl rfl rfl (capture_fault ..)⟩
  · have hx := refreshUrgency_risen h hu
    have hstays : selfTakeTest (refreshUrgency s) = refreshUrgency s := by
      refine selfTakeTest_stays ?_
      have hkeeps : (refreshUrgency s).lnc.line = s.lnc.line ∧ (refreshUrgency s).ssu.request = s.ssu.request
          ∧ (refreshUrgency s).ssu.tenure = s.ssu.tenure := by simp
      obtain ⟨hline, hreq, hten⟩ := hkeeps
      rw [hline, hreq, hten]
      refine hstay.imp_right (.imp_right (.imp_right fun hc => ?_))
      rw [hx.ssu]
      split
      · exact fun h => nomatch h
      · exact hc
    have hrow : exec .marginTimerExpiry s = .next (selfTakeTest (refreshUrgency s)) := by
      refine row_next_of_fault hr (s.marginReached_of h hu) ?_
      rw [hstays]
      simp
    rw [hstays] at hrow
    exact ⟨_, hrow, hx.same, hx.dbu, hx.ssu, hx.asked, hx.draws, hx.starts⟩
  · obtain ⟨a, hrow⟩ := execMarginTimerExpiry_takes hr h hu hl hreq ht hc hd
    rw [hrow, takeSlot_idle (s := s.atThree.asking a) _ hidle, slotTaken_asking, slotTaken_eq,
      stampFault_of_fault_eq (by rfl)]
    exact congrArg (fun u : Ssu => Host.Outcome.next ({ s.atThree with
      rsq := { s.atThree.rsq with
        runReq := true
        counters := { s.rsq.counters with startAttempts := min 255 (s.rsq.counters.startAttempts + 1) } }
      ssu := u
      pvu := s.pvu.removeOwn .start
      lnc := { s.lnc.requestBeacon with
        queue := s.lnc.queue.filter fun f => decide (f.slot ≠ Slot.clear) } } : State))
      (State.slotHeld_unclaimed (s := s.atThree) hc)
  · obtain ⟨a, hrow⟩ := execMarginTimerExpiry_takes hr h hu hl hreq ht hc hd
    have hx := (takeSlot_driven s.ssu.lastSettled (s := s.atThree.asking a) hdrv hq).stamp s
    have hurged := (Urged.slot s.ssu.lastSettled (s := s.atThree.asking a) h.symm).stamp s
    obtain ⟨hrun, hspeed, hstack, hpeers⟩ := hx.keeps
    have hheld := State.slotHeld_unclaimed (s := s.atThree.asking a) hc
    exact ⟨_, hrow, hx.same, hx.ssu.trans (congrArg (fun u : Ssu => { u with request := false }) hheld), hrun, hurged,
      hx.attempts, hspeed, hstack, hpeers, hx.went, fun ha => hx.asked (by rwa [State.asking_line])⟩
  · rw [execHandbackTimerExpiry_row hr hs hrun]
    exact congrArg Host.Outcome.next (stampFault_of_captured { s with rsq := { s.rsq with handbackAt := none } }
      .handbackOverdue (causeCode s.rsq.currentCause).toNat rfl ⟨rfl, rfl, rfl⟩)

end Sys2Proof.Machine
end

section
/-! SUPPORT. The timers of the START claim and of the tenure (R108, R112 to R117). -/

namespace Sys2Proof.Machine

/-! ### The settle expiry of the START claim (R108) -/

theorem execStartSettleExpiry_takes {s : State} (hr : s.rstLow = false) (hc : s.ssu.claim = .contending)
    (h : RunOut s s.ssu.settleAt) (hh : s.ssu.holder = none) (ht : s.startTopRanked = true) :
    exec .startSettleExpiry s = .next (stampFault s (takeSlot s.ssu.claimNumber s)) := by
  have heffect : settleStart s = takeSlot s.ssu.claimNumber s := if_pos ⟨hh, ht⟩
  rw [← heffect]
  exact row_next hr (by rw [expired_of_runOut h, hc]; rfl)

theorem execStartSettleExpiry_waits {s : State} (hr : s.rstLow = false) (hc : s.ssu.claim = .contending)
    (h : RunOut s s.ssu.settleAt) (hn : s.ssu.holder ≠ none ∨ s.startTopRanked = false) :
    exec .startSettleExpiry s = .next (startWaits s) := by
  have heffect : settleStart s = startWaits s := if_neg fun ⟨hh, ht⟩ => by
    rcases hn with hn | hn
    · exact hn hh
    · rw [hn] at ht
      exact nomatch ht
  rw [← heffect]
  refine row_next_of_fault hr (by rw [expired_of_runOut h, hc]; rfl) ?_
  rw [heffect]
  simp [startWaits]

/-- The holder in view is to be sent a CLEAR (R115). -/
abbrev ClearDue (s : State) : Prop :=
  s.rsq.urgency = 3 ∧ s.ssu.holder ≠ none ∧ s.ssu.holder ≠ some s.ownStation ∧ s.ssu.clearSent = false

theorem clearTest_waiting {s : State} (hc : s.ssu.claim = .waiting) : clearTest s =
    { s with
      ssu := { s.ssu with clearSent := decide (ClearDue s) || s.ssu.clearSent }
      lnc := if ClearDue s then s.lnc.queueFrame (.clear (s.ssu.holder.getD 0)) else s.lnc } := by
  unfold clearTest
  split
  · next p hp =>
    by_cases hd : s.ssu.claim = .waiting ∧ s.rsq.urgency = 3 ∧ p ≠ s.ownStation ∧ s.ssu.clearSent = false
    · have hdue : ClearDue s := by
        obtain ⟨-, hu, hne, hm⟩ := hd
        exact ⟨hu, by simp [hp], by simpa [hp] using hne, hm⟩
      rw [if_pos hd, if_pos hdue, decide_eq_true hdue, hp]
      rfl
    · have hdue : ¬ ClearDue s := fun ⟨hu, _, hne, hm⟩ => hd ⟨hc, hu, fun he => hne (by rw [hp, he]), hm⟩
      rw [if_neg hd, if_neg hdue, decide_eq_false hdue, Bool.false_or]
  · next hp =>
    have hdue : ¬ ClearDue s := fun h => h.2.1 hp
    rw [if_neg hdue, decide_eq_false hdue, Bool.false_or]

/-- Settles O52. -/
theorem startSettleTakesTheSlotOrWaits : Obligations.start_settle_takes_the_slot_or_waits := by
  refine ⟨fun s hr hc h hh ht hidle => ?_, fun s hr hc h hh ht hdrv hq => ?_, fun s hr hc h hn => ?_⟩
  · rw [execStartSettleExpiry_takes hr hc h hh ht, takeSlot_idle _ hidle, slotTaken_eq,
      stampFault_of_fault_eq (by rfl)]
    rfl
  · have hx := (takeSlot_driven s.ssu.claimNumber hdrv hq).stamp s
    obtain ⟨hrun, hspeed, hstack, hpeers⟩ := hx.keeps
    refine ⟨_, execStartSettleExpiry_takes hr hc h hh ht, hx.same, hx.ssu, hx.attempts, hx.own, hx.others,
      hx.clears, hx.asked, hrun, hspeed, hstack, ?_, hpeers⟩
    exact hx.went.imp_right fun ⟨hs, hcause, _⟩ => ⟨hs, hcause⟩
  · exact ⟨_, execStartSettleExpiry_waits hr hc h hn, clearTest_waiting rfl⟩

/-! ### The end of a tenure (R114) -/

/-- The start slot unit after the end of a tenure. -/
def State.slotReleased (s : State) : Ssu :=
  { s.ssu with
    tenure := false, tenureAt := none, clearPending := false
    holder := if s.ssu.holder = some s.ownStation then none else s.ssu.holder
    clearSent := if s.ssu.holder = some s.ownStation then false else s.ssu.clearSent }

/-- The line controller after the end of a tenure. -/
def State.lineReleased (s : State) (reason : ReleaseReason) : Lnc :=
  Lnc.requestBeacon (if s.ssu.holder = some s.ownStation then (s.lnc.queueFrame (.release reason)).dropClear
    else s.lnc.queueFrame (.release reason))

theorem endTenure_steps {s : State} (reason : ReleaseReason) (ht : s.ssu.tenure = true) :
    endTenure reason s = if s.ssu.holder = some s.ownStation then
        requestBeacon (retestStart { s with ssu := s.slotReleased, lnc := (s.lnc.queueFrame (.release reason)).dropClear })
      else { s with ssu := s.slotReleased, lnc := s.lineReleased reason } := by
  unfold endTenure
  dsimp only
  rw [if_pos ht]
  have hown : ∀ u : State, u.cpn = s.cpn → u.ownStation = s.ownStation := fun u hu => by
    unfold State.ownStation
    rw [hu]
  have hclear : ∀ u : State, u.ssu.holder = none → clearTest u = u := fun u hu => by
    unfold clearTest
    rw [hu]
  by_cases hh : s.ssu.holder = some s.ownStation
  · have hset : setHolder none
        { s with
          ssu := { s.ssu with tenure := false, tenureAt := none, clearPending := false }
          lnc := s.lnc.queueFrame (.release reason) }
        = retestStart { s with ssu := s.slotReleased, lnc := (s.lnc.queueFrame (.release reason)).dropClear } := by
      unfold setHolder State.slotReleased
      rw [if_neg (by rw [hh]; exact fun h => nomatch h), hclear _ (by simp), if_pos hh, if_pos hh]
    rw [if_pos hh, hset]
    exact (if_pos hh).symm
  · simp only [if_neg hh, State.slotReleased, State.lineReleased]
    rfl

/-- Without an own START claim. -/
theorem endTenure_released {s : State} (reason : ReleaseReason) (ht : s.ssu.tenure = true)
    (hc : s.ssu.claim = .none) :
    endTenure reason s = { s with ssu := s.slotReleased, lnc := s.lineReleased reason } := by
  rw [endTenure_steps reason ht]
  split
  · next hh =>
    rw [State.lineReleased, if_pos hh, retestStart, if_neg (by simp [State.slotReleased, hc])]
    rfl
  · rfl

/-- Line controllers that differ in the transmit queue alone. -/
abbrev QueueOnly (l m : Lnc) : Prop := m = { l with queue := m.queue }

namespace QueueOnly

variable {l m : Lnc}

theorem dropClear (h : QueueOnly l m) : QueueOnly l m.dropClear := by
  unfold Lnc.dropClear
  rw [h]

theorem frame (h : QueueOnly l m) (f : QueuedFrame) : QueueOnly l (m.queueFrame f) := by
  unfold Lnc.queueFrame
  split
  · split
    · unfold Lnc.queueWithdraw
      dsimp only
      split
      · rw [h]
      · rw [h]
    · rw [h]
  · exact h

theorem beacon (h : QueueOnly l m) : m.requestBeacon = { l.requestBeacon with queue := m.queue } := by
  rw [h, Lnc.requestBeacon_queue]

end QueueOnly

theorem State.lineReleased_queue (s : State) (reason : ReleaseReason) :
    s.lineReleased reason = { s.lnc.requestBeacon with queue := (s.lineReleased reason).queue } := by
  have hf : QueueOnly s.lnc (s.lnc.queueFrame (.release reason)) := QueueOnly.frame rfl _
  unfold State.lineReleased
  split
  · exact Lnc.eq_with_queue hf.dropClear.beacon
  · exact Lnc.eq_with_queue hf.beacon

/-! ### The tenure timer (R113) -/

/-- The state at a start timeout before its tenure ends: START_TIMEOUT captured, RUN_REQ clear. -/
def State.timedOut (s : State) (attempt : Nat) : State :=
  { s with
    rsq := { s.rsq with runReq := false }
    cpn := { s.cpn with fault := s.captured .startTimeout attempt } }

theorem startTimeout_eq (attempt : Nat) (s : State) :
    startTimeout attempt s = endTenure .timeout (s.timedOut attempt) := rfl

theorem execTenureTimerExpiry_row {s : State} (hr : s.rstLow = false) (ht : s.ssu.tenure = true)
    (h : RunOut s s.ssu.tenureAt) : exec .tenureTimerExpiry s = .next (stampFault s (tenureTimeout s)) :=
  row_next hr (by rw [expired_of_runOut h, ht]; rfl)

theorem tenureTimeout_ready {s : State} (hd : s.drvReady = true) : tenureTimeout s = endTenure .timeout s :=
  if_pos hd

theorem tenureTimeout_first {s : State} (hd : s.drvReady = false) (ha : s.ssu.attempts = 1) :
    tenureTimeout s = actOnRequest (endTenure .timeout (s.timedOut 1)) := by
  unfold tenureTimeout
  rw [if_neg (by simp [hd]), if_pos (by omega), startTimeout_eq]

theorem tenureTimeout_second {s : State} (hd : s.drvReady = false) (ha : s.ssu.attempts = 2) :
    tenureTimeout s = enterAbandoned (endTenure .timeout (s.timedOut 2)) := by
  unfold tenureTimeout
  rw [if_neg (by simp [hd]), if_neg (by omega), startTimeout_eq]

theorem actOnRequest_stays {s : State} (h : s.ssu.request = false ∨ (s.lnc.line ≠ .active
    ∧ ((s.lnc.line ≠ .deaf ∧ s.lnc.line ≠ .barred) ∨ s.rsq.urgency ≠ 3))) : actOnRequest s = s := by
  unfold actOnRequest
  split
  · next hreq =>
    obtain ⟨hline, hrest⟩ := h.resolve_left (by simp [hreq.1])
    split
    · next hl => exact absurd hl hline
    · next hl => exact if_neg (hrest.resolve_left fun hn => hn.1 hl)
    · next hl => exact if_neg (hrest.resolve_left fun hn => hn.2 hl)
    all_goals rfl
  · rfl

theorem actOnRequest_takes {s : State} (hl : s.lnc.line = .deaf ∨ s.lnc.line = .barred)
    (hr : s.ssu.request = true) (ht : s.ssu.tenure = false) (hc : s.ssu.claim = .none) (hu : s.rsq.urgency = 3) :
    actOnRequest s = takeSlot s.ssu.lastSettled s := by
  unfold actOnRequest
  rw [if_pos ⟨hr, ht, hc⟩]
  rcases hl with hl | hl <;> (rw [hl]; exact if_pos hu)

/-- The state after a start timeout that finds no own START claim. -/
def State.timedOutReleased (s : State) : State :=
  { s.timedOut 1 with ssu := s.slotReleased, lnc := s.lineReleased .timeout }

theorem execTenureTimerExpiry_first {s : State} (hr : s.rstLow = false) (ht : s.ssu.tenure = true)
    (h : RunOut s s.ssu.tenureAt) (hd : s.drvReady = false) (ha : s.ssu.attempts = 1) (hc : s.ssu.claim = .none) :
    exec .tenureTimerExpiry s = .next (stampFault s (actOnRequest s.timedOutReleased)) := by
  rw [execTenureTimerExpiry_row hr ht h, tenureTimeout_first hd ha, endTenure_released (s := s.timedOut 1) _ ht hc]
  rfl

/-- The capture of a first start timeout stands in the record. -/
theorem stampFault_timedOut {s t : State} (ht : t.cpn = (s.timedOut 1).cpn) : stampFault s t = t := by
  rw [stampFault_of_captured s .startTimeout 1 (by rw [ht]; rfl) ⟨rfl, rfl, rfl⟩]
  have hf : s.captured .startTimeout 1 = t.cpn.fault := by rw [ht]; rfl
  rw [hf]

theorem nextNumber_ne (number lastSettled : Nat) : nextNumber number lastSettled ≠ lastSettled := by
  unfold nextNumber
  dsimp only
  split <;> omega

theorem State.lineReleased_line (s : State) (reason : ReleaseReason) :
    (s.lineReleased reason).line = s.lnc.line := by
  rw [State.lineReleased_queue]
  simp

theorem State.lineReleased_beacon {s : State} (h : s.lnc.line.allowsBeacon = true) (reason : ReleaseReason) :
    (s.lineReleased reason).beacon ≠ .empty := by
  rw [State.lineReleased_queue]
  exact requestBeacon_beacon h

/-- A CLEAR dropped and a beacon asked for once more. -/
theorem State.lineReleased_dropClear (s : State) (reason : ReleaseReason) :
    (s.lineReleased reason).dropClear.requestBeacon
      = Lnc.requestBeacon (s.lnc.queueFrame (.release reason)).dropClear := by
  have hcomm : ∀ l : Lnc, l.requestBeacon.dropClear.requestBeacon = l.dropClear.requestBeacon := fun l => by
    have hq : l.requestBeacon.queue = l.queue := by simp
    unfold Lnc.dropClear
    rw [Lnc.requestBeacon_queue, Lnc.requestBeacon_requestBeacon, hq]
    exact (l.requestBeacon_queue _).symm
  have htwice : ∀ l : Lnc, l.dropClear.dropClear = l.dropClear := fun l => by
    simp [Lnc.dropClear, List.filter_filter]
  rw [State.lineReleased, hcomm]
  split
  · rw [htwice]
  · rfl

theorem slotTaken_does (n : Nat) (s : State) : requestBeacon (slotTaken n s) = { s with
    rsq := { s.rsq with
      runReq := true
      counters := { s.rsq.counters with startAttempts := min 255 (s.rsq.counters.startAttempts + 1) } }
    ssu := s.slotHeld n
    pvu := s.pvu.removeOwn .start
    lnc := s.lnc.dropClear.requestBeacon } := rfl

/-- The RELEASE of a tenure stands in the queue on an ACTIVE line. -/
theorem State.lineReleased_mem {s : State} (h : s.lnc.line = .active) (reason : ReleaseReason) :
    .release reason ∈ (s.lineReleased reason).queue := by
  have hput : QueuedFrame.release reason ∈ (s.lnc.queueFrame (.release reason)).queue := by
    rw [Lnc.queueFrame_active h (by simp)]
    exact putFrame_mem _ _
  have hq : ∀ l : Lnc, l.requestBeacon.queue = l.queue := by simp
  rw [State.lineReleased, hq]
  split
  · exact List.mem_filter.mpr ⟨hput, by simp [QueuedFrame.slot]⟩
  · exact hput

/-- The end of a tenure in any state, up to an own START claim that it sends again. -/
theorem endTenure_form {s : State} (reason : ReleaseReason) (ht : s.ssu.tenure = true) :
    ∃ c settle p q, endTenure reason s = { s with
        ssu := { s.slotReleased with claim := c, settleAt := settle }
        pvu := p
        lnc := { s.lnc.requestBeacon with queue := q } }
      ∧ (p = s.pvu ∨ p = s.pvu.setOwnStatus .start .sent) := by
  rw [endTenure_steps reason ht]
  split
  · next hh =>
    have hf : QueueOnly s.lnc (s.lnc.queueFrame (.release reason)).dropClear := (QueueOnly.frame rfl _).dropClear
    unfold retestStart
    split
    · refine ⟨.sent, none, s.pvu.setOwnStatus .start .sent, ((s.lnc.queueFrame (.release reason)).dropClear.queueFrame
        (s.startFrame s.ssu.claimNumber)).queue, ?_, .inr rfl⟩
      exact (congrArg (fun l : Lnc => ({ s with
        ssu := { s.slotReleased with claim := .sent, settleAt := none }
        pvu := s.pvu.setOwnStatus .start .sent, lnc := l } : State))
        (hf.frame (s.startFrame s.ssu.claimNumber)).beacon :)
    · refine ⟨s.ssu.claim, s.ssu.settleAt, s.pvu, (s.lnc.queueFrame (.release reason)).dropClear.queue, ?_, .inl rfl⟩
      exact (congrArg (fun l : Lnc => ({ s with ssu := s.slotReleased, lnc := l } : State)) hf.beacon :)
  · exact ⟨s.ssu.claim, s.ssu.settleAt, s.pvu, _, by rw [← s.lineReleased_queue]; rfl, .inl rfl⟩

/-- The own START entries sent again are no more kept at an end of the own claims than before. -/
theorem setOwnStatus_withoutOwn (p : Pvu) (b : Bool) (st : OwnStatus) :
    (p.setOwnStatus .start st).claims.filter (fun e => !(e.isOwn && (decide (e.kind = .start) || b)))
      = p.claims.filter fun e => !(e.isOwn && (decide (e.kind = .start) || b)) := by
  unfold Pvu.setOwnStatus
  induction p.claims with
  | nil => rfl
  | cons e es ih =>
    by_cases he : e.isOwn = true ∧ e.kind = .start
    · rw [List.map_cons, if_pos (by simp [he]), List.filter_cons, List.filter_cons, ih]
      simp [he.1, he.2, Pvu.isOwn_own]
    · rw [List.map_cons, if_neg (by simpa using he), List.filter_cons, List.filter_cons, ih]

theorem putFrame_filter_clear {f : QueuedFrame} (h : f.slot ≠ .clear) (q : List QueuedFrame) :
    putFrame f (q.filter fun g => decide (g.slot ≠ .clear))
      = (putFrame f q).filter fun g => decide (g.slot ≠ .clear) := (putFrame_filter .clear h q).symm

/-- A CLEAR is dropped before or after a claim is withdrawn. -/
theorem withdrawnFrom_filter_clear (s : State) (k : ClaimKind) (n : Nat) (q : List QueuedFrame) :
    s.withdrawnFrom k n (q.filter fun f => decide (f.slot ≠ .clear))
      = (s.withdrawnFrom k n q).filter fun f => decide (f.slot ≠ .clear) := by
  have hany : (q.filter fun f => decide (f.slot ≠ .clear)).any (QueuedFrame.isClaim k n)
      = q.any (QueuedFrame.isClaim k n) := by
    rw [Bool.eq_iff_iff, List.any_eq_true, List.any_eq_true]
    refine exists_congr fun f => and_congr_left fun hf => ?_
    rw [List.mem_filter]
    refine and_iff_left ?_
    rw [QueuedFrame.isClaim_slot hf]
    cases k <;> decide
  have hcomm : (q.filter fun f => decide (f.slot ≠ .clear)).filter (fun f => !f.isClaim k n)
      = (q.filter fun f => !f.isClaim k n).filter fun f => decide (f.slot ≠ .clear) := by
    rw [List.filter_filter, List.filter_filter]
    exact List.filter_congr fun f _ => Bool.and_comm _ _
  unfold State.withdrawnFrom
  dsimp only
  rw [hany, hcomm]
  split
  · rfl
  · split
    · rfl
    · exact putFrame_filter_clear (by cases k <;> simp [QueuedFrame.slot]) _

theorem claimsWithdrawn_filter_clear (s : State) (q : List QueuedFrame) :
    s.claimsWithdrawn (q.filter fun f => decide (f.slot ≠ .clear)) = s.claimsWithdrawn q := by
  have htwice : ∀ l : List QueuedFrame, (l.filter fun f => decide (f.slot ≠ .clear)).filter
      (fun f => decide (f.slot ≠ .clear)) = l.filter fun f => decide (f.slot ≠ .clear) := fun l => by
    simp [List.filter_filter]
  unfold State.claimsWithdrawn
  dsimp only
  split <;> split <;> simp only [withdrawnFrom_filter_clear, htwice]

/-- What is withdrawn reads whether the line takes a WITHDRAW, and the transmitter. -/
theorem withdrawnFrom_congr {s u : State}
    (hl : u.lnc.line.allowsBeacon = s.lnc.line.allowsBeacon ∧ u.lnc.tx = s.lnc.tx) (k : ClaimKind) (n : Nat)
    (q : List QueuedFrame) : u.withdrawnFrom k n q = s.withdrawnFrom k n q := by
  have hsend : u.lnc.sendingClaim k n = s.lnc.sendingClaim k n := by
    unfold Lnc.sendingClaim
    rw [hl.2]
  simp only [State.withdrawnFrom, hsend, hl.1]

theorem claimsWithdrawn_congr {s u : State} (hd : u.dbu = s.dbu)
    (hc : u.ssu.claim = s.ssu.claim ∧ u.ssu.claimNumber = s.ssu.claimNumber)
    (hl : u.lnc.line.allowsBeacon = s.lnc.line.allowsBeacon ∧ u.lnc.tx = s.lnc.tx) (q : List QueuedFrame) :
    u.claimsWithdrawn q = s.claimsWithdrawn q := by
  simp only [State.claimsWithdrawn, withdrawnFrom_congr hl, hd, hc.1, hc.2]

/-- The queue after the tenure has ended, as far as the own claims that end with it leave it. -/
theorem claimsWithdrawn_lineReleased {s : State} (reason : ReleaseReason) (ht : s.ssu.tenure = true) :
    s.claimsWithdrawn (s.lineReleased reason).queue = s.claimsWithdrawn (s.releaseQueued reason s.lnc.queue) := by
  have hq : ∀ l : Lnc, l.requestBeacon.queue = l.queue := by simp
  rw [State.lineReleased, hq, queueFrame_release s reason ht]
  split
  · exact claimsWithdrawn_filter_clear s _
  · rfl

/-- What a second start timeout leaves, where the tenure that ends is followed by ABANDONED. -/
theorem abandons_timedOut {s t : State} (ht : s.ssu.tenure = true)
    (h : Abandons (endTenure .timeout (s.timedOut 2)) t) :
    t = { s with
        rsq := t.rsq, dbu := t.dbu, ssu := t.ssu, pvu := t.pvu, lnc := t.lnc
        spu := { s.spu with refWaiting := true }, cpn := t.cpn }
    ∧ t.rsq = { s.rsq with
        state := .abandoned, currentCause := s.restartCause, pendingSet := PendingSet.empty
        stack := [], carried := none, levelHold := false, speed := 0, runReq := false, urgency := 0 }
    ∧ t.dbu = { s.dbu with
        granted := 0, claim := .none, need := t.dbu.need, settleAt := t.dbu.settleAt
        overcommit := t.overcommitted }
    ∧ t.cpn = { s.cpn with
        ring := s.ringAfterEnd .abandoned, events := { s.cpn.events with reportReady := true }
        fault := t.cpn.fault }
    ∧ t.lnc = { s.lnc.requestBeacon with queue := t.lnc.queue }
    ∧ t.pvu.peers = s.pvu.peers ∧ t.pvu.claims = s.claimsWithoutOwn := by
  obtain ⟨c, settle, p, q, heq, hp⟩ := endTenure_form (s := s.timedOut 2) .timeout ht
  rw [heq] at h
  obtain ⟨-, -, -, -, hpeers, hclaims, -⟩ := h.gone
  have hbeacon : ({ s.lnc.requestBeacon with queue := q } : Lnc).requestBeacon
      = { s.lnc.requestBeacon with queue := q } := by
    rw [Lnc.requestBeacon_queue, Lnc.requestBeacon_requestBeacon]
  refine ⟨h.same, h.rsq, h.dbu, h.cpn, ?_, hpeers.trans ?_, hclaims.trans ?_⟩
  · exact h.lnc.trans (congrArg (fun l : Lnc => { l with queue := t.lnc.queue }) hbeacon)
  · rcases hp with rfl | rfl <;> rfl
  · rcases hp with rfl | rfl
    · rfl
    · exact setOwnStatus_withoutOwn ..

/-- The queue at a second start timeout that finds no own START claim. -/
theorem abandons_timedOut_queue {s t : State} (ht : s.ssu.tenure = true) (hc : s.ssu.claim = .none)
    (h : Abandons (endTenure .timeout (s.timedOut 2)) t) :
    t.lnc.queue = s.claimsWithdrawn (s.releaseQueued .timeout s.lnc.queue) := by
  rw [endTenure_released (s := s.timedOut 2) _ ht hc] at h
  obtain ⟨-, -, -, -, -, -, hqueue⟩ := h.gone
  have hline := s.lineReleased_queue .timeout
  rw [← claimsWithdrawn_lineReleased .timeout ht]
  refine hqueue.trans ((if_neg fun h => nomatch h.1).trans (claimsWithdrawn_congr (s := s) ?_ ?_ ?_ _))
  · rfl
  · exact ⟨rfl, rfl⟩
  show (s.lineReleased .timeout).line.allowsBeacon = _ ∧ (s.lineReleased .timeout).tx = _
  rw [hline]
  simp

/-- Settles O53. -/
theorem tenureTimerReleasesOrCountsATimeout : Obligations.tenure_timer_releases_or_counts_a_timeout := by
  refine ⟨fun s hr ht h hd hc => ?_, fun s hr ht h hd ha hc hstay => ?_, fun s hr ht h hd ha hc hreq hl => ?_,
    fun s hr ht h hd ha hc hreq hl hu => ?_, fun s hr ht h hd ha => ?_⟩
  · rw [execTenureTimerExpiry_row hr ht h, tenureTimeout_ready hd, endTenure_released _ ht hc,
      stampFault_of_fault_eq (by rfl)]
    rfl
  · have hstays : actOnRequest s.timedOutReleased = s.timedOutReleased := by
      refine actOnRequest_stays ?_
      show _ ∨ (s.lineReleased .timeout).line ≠ _ ∧ (((s.lineReleased .timeout).line ≠ _ ∧
        (s.lineReleased .timeout).line ≠ _) ∨ _)
      rw [State.lineReleased_line]
      exact hstay
    rw [execTenureTimerExpiry_first hr ht h hd ha hc, hstays, stampFault_timedOut (by rfl)]
    rfl
  · have hline : s.timedOutReleased.lnc.line = .active := (s.lineReleased_line .timeout).trans hl
    have hrow := execTenureTimerExpiry_first hr ht h hd ha hc
    rw [actOnRequest_active (s := s.timedOutReleased) hreq hc rfl hline, formStart_eq hline,
      stampFault_timedOut (by rfl)] at hrow
    refine ⟨_, hrow, rfl, rfl, rfl, hreq, rfl, ha, rfl, nextNumber_ne _ _, putFrame_mem _ _, ?_,
      s.lineReleased_beacon (by rw [hl]; rfl) .timeout, rfl⟩
    exact (putFrame_other (by simp [QueuedFrame.slot, State.startFrame])).mpr (s.lineReleased_mem hl .timeout)
  · have hidle : s.timedOutReleased.drvReady = false ∨ s.timedOutReleased.rsq.state ≠ .queued := .inl hd
    have hline : s.timedOutReleased.lnc.line = .deaf ∨ s.timedOutReleased.lnc.line = .barred := by
      show (s.lineReleased .timeout).line = _ ∨ (s.lineReleased .timeout).line = _
      rwa [State.lineReleased_line]
    rw [execTenureTimerExpiry_first hr ht h hd ha hc, actOnRequest_takes hline hreq rfl hc hu, takeSlot_idle _ hidle,
      stampFault_timedOut (by rfl)]
    have hssu := State.slotHeld_unclaimed (s := s.timedOutReleased) hc
    have htwo : s.ssu.attempts + 1 = 2 := by omega
    have hlnc : (s.lineReleased .timeout).dropClear.requestBeacon
        = Lnc.requestBeacon (s.lnc.queueFrame (.release .timeout)).dropClear := s.lineReleased_dropClear .timeout
    refine congrArg Host.Outcome.next ?_
    rw [slotTaken_does, hssu]
    exact congrArg₂ (fun n l => ({ s with
      rsq := { s.rsq with
        runReq := true
        counters := { s.rsq.counters with startAttempts := min 255 (s.rsq.counters.startAttempts + 1) } }
      ssu := { s.ssu with
        holder := some s.ownStation, tenure := true, clearPending := false, settleAt := none
        tenureAt := timerFrom s.now s.pst.strand.startCode, attempts := n, clearSent := false }
      pvu := s.pvu.removeOwn .start, lnc := l
      cpn := { s.cpn with fault := s.captured .startTimeout 1 } } : State)) htwo hlnc
  · have hrow := execTenureTimerExpiry_row hr ht h
    rw [tenureTimeout_second hd ha] at hrow
    have hx := (enterAbandoned_abandons (endTenure .timeout (s.timedOut 2))).stamp s
    have hkeeps : (endTenure .timeout (s.timedOut 2)).dbu = s.dbu
        ∧ (endTenure .timeout (s.timedOut 2)).cpn = (s.timedOut 2).cpn := by simp [State.timedOut]
    have hfirst := abandoned_firstFault (s := s) (u := s) (k := .startTimeout) (d := 2) rfl rfl rfl
      (v := endTenure .timeout (s.timedOut 2)) (by rw [hkeeps.2]; rfl)
    obtain ⟨hsame, hrsq, hdbu, hcpn, hlnc, hpeers, hclaims⟩ := abandons_timedOut ht hx
    obtain ⟨hclaim, hneed, hsettle, hssu, -⟩ := hx.gone
    rw [hkeeps.1] at hneed hsettle
    exact ⟨_, hrow, hsame, hrsq, hdbu, hcpn, hlnc, hx.attempts, hpeers, hclaims, hneed, hsettle, by rw [hssu],
      by rw [hssu], by rw [hssu], fun hc => abandons_timedOut_queue ht hc hx, hfirst⟩

end Sys2Proof.Machine
end

section
/-! SUPPORT. DRAW_SETTLE (R95) and the test of the first point after it (R16, R18). -/

namespace Sys2Proof.Machine

/-! ### The settled claim (R95) -/

/-- The counters with one more draw claim settled, where the running restart gave the need (R66). -/
def State.settledCounters (s : State) : Counters :=
  { s.rsq.counters with
    drawSettled := if s.dbu.needOfRunning then min 255 (s.rsq.counters.drawSettled + 1)
      else s.rsq.counters.drawSettled }

/-- The state after DBU's part of a settle, with the overcommit condition `o` and the fault record `f` it
leaves. -/
def State.settled (s : State) (o : Bool) (f : FaultRecord) : State :=
  { s with
    rsq := { s.rsq with counters := s.settledCounters }
    dbu := { s.dbu with
      granted := s.dbu.granted + s.dbu.amount, claim := .none, need := none, settleAt := none
      lastSettled := s.dbu.claimNumber, overcommit := o }
    pvu := s.pvu.removeOwn .draw
    lnc := s.lnc.requestBeacon
    cpn := { s.cpn with fault := f } }

theorem settled_made (s : State) : ∃ o f, requestBeacon (countSettled (settleDraw s)) = s.settled o f
    ∧ o = (s.settled o f).overcommitted ∧ OvercommitOnWay s (s.settled o f) := by
  obtain ⟨o, f, hset, hover, hway⟩ := setGranted_made (s.dbu.granted + s.dbu.amount)
    { s with
      dbu := { s.dbu with claim := .none, need := none, settleAt := none, lastSettled := s.dbu.claimNumber }
      pvu := s.pvu.removeOwn .draw }
  refine ⟨o, f, ?_, hover, hway⟩
  have hsettle : settleDraw s = _ := hset
  rw [hsettle]
  unfold countSettled State.settled State.settledCounters
  dsimp only
  cases s.dbu.needOfRunning
  · rfl
  · rfl

theorem execDrawSettle_row {s : State} (hr : s.rstLow = false) (hc : s.dbu.claim = .contending)
    (h : RunOut s s.dbu.settleAt) : exec .drawSettle s
      = .next (stampFault s (firstPointTest (requestBeacon (countSettled (settleDraw s))))) :=
  row_next hr (by rw [expired_of_runOut h, hc]; rfl)

/-! ### Entry to RAMPING (R18, R34) -/

theorem resendDraw_quiet {s : State} (h : s.dbu.claim.outstanding = false) : resendDraw s = s := by
  unfold resendDraw
  cases hc : s.dbu.claim <;> simp_all [DrawStatus.outstanding]

/-- The DRAW side is as it was. -/
structure SameDrawSide (s t : State) : Prop where
  dbu : t.dbu = s.dbu
  own : t.pvu.own .draw = s.pvu.own .draw

namespace SameDrawSide

variable {s t u : State}

theorem of_same (h : SameDrawSide s t) (hd : u.dbu = t.dbu) (hp : u.pvu = t.pvu) : SameDrawSide s u :=
  ⟨hd.trans h.dbu, by rw [hp, h.own]⟩

theorem urgency (h : SameDrawSide s t) (ho : s.dbu.claim.outstanding = false) :
    SameDrawSide s (refreshUrgency t) := by
  unfold refreshUrgency
  dsimp only
  split
  · exact h
  · rw [resendDraw_quiet (by simpa [h.dbu] using ho)]
    split
    · have h1 : SameDrawSide s (requestBeacon { t with rsq := { t.rsq with urgency := t.computeUrgency } }) :=
        h.of_same rfl rfl
      refine ⟨(by simp : _ = t.dbu).trans h.dbu, ?_⟩
      exact (resendStart_sameDraw (s := requestBeacon _)).own.trans h1.own
    · exact h.of_same rfl rfl

theorem creep (h : SameDrawSide s t) (ho : s.dbu.claim.outstanding = false) : SameDrawSide s (creepTest t) := by
  unfold creepTest
  split
  · exact urgency (h.of_same rfl rfl) ho
  · exact h

theorem ramping (ho : s.dbu.claim.outstanding = false) : SameDrawSide s (enterRamping s) :=
  urgency (creep ⟨rfl, rfl⟩ ho) ho

end SameDrawSide

/-- The ramp as entry to RAMPING fixes it, before the creep test. -/
def State.rampBegun (s : State) : State :=
  requestBeacon (notify .rampStarted { s with
    rsq := s.rsq.rampingFrom s.now s.pendingBase (s.pointAt s.rsq.pendingSet.profile 0).dwell })

theorem enterRamping_eq (s : State) : enterRamping s = refreshUrgency (creepTest s.rampBegun) := rfl

/-- What entry to RAMPING fixes of the sequencer. -/
theorem enterRamping_rsq (s : State) : ∃ carried moment urgency, (enterRamping s).rsq =
      { s.rsq.rampingFrom s.now s.pendingBase (s.pointAt s.rsq.pendingSet.profile 0).dwell with
        carried := carried
        counters := { s.rampBegun.rsq.counters with creepMoment := moment }
        urgency := urgency }
    ∧ (s.creep = false → carried = earliestDeadline s.now ((pendingDeadlines s.rsq.pendingSet).map (·.2)))
    ∧ (s.creep = true → s.rsq.counters.creepMoment = none → carried = none) := by
  rw [enterRamping_eq, refreshUrgency_rsq]
  by_cases hm : CreepMet s.rampBegun
  · rw [creepTest_meets hm, refreshUrgency_rsq]
    refine ⟨none, _, _, rfl, fun h => ?_, fun _ _ => rfl⟩
    have hcreep : s.creep = true := hm.2.1
    rw [h] at hcreep
    exact nomatch hcreep
  · rw [creepTest_passes hm]
    exact ⟨_, _, _, rfl, fun _ => rfl, fun hc hn => absurd ⟨rfl, hc, .inl hn⟩ hm⟩

theorem enterRamping_cpn (s : State) :
    (enterRamping s).cpn = { s.cpn with events := { s.cpn.events with rampStarted := true } } := by
  rw [enterRamping_eq]
  simp [State.rampBegun, notify, EventNotices.raise]

/-! ### The test of the first point (R16) -/

theorem firstPointTest_stays {s : State} (h : s.rsq.state ≠ .queued ∨ s.driveRunning = false) :
    firstPointTest s = s := by
  unfold firstPointTest
  refine if_neg ?_
  rintro ⟨hq, hd⟩
  rcases h with h | h
  · exact h hq
  · rw [h] at hd
    exact nomatch hd

theorem firstPointTest_enters {s : State} (hq : s.rsq.state = .queued) (hd : s.driveRunning = true)
    (h : s.firstTarget ≤ s.rsq.speed ∨ s.rsq.speed < s.speedMax) : firstPointTest s = enterRamping s := by
  unfold firstPointTest
  rw [if_pos ⟨hq, hd⟩, if_pos h]

/-- The speed held at S_max with no claim outstanding gives a need on an ACTIVE line. -/
theorem firstPointTest_needs {s : State} (hq : s.rsq.state = .queued) (hd : s.driveRunning = true)
    (hlow : s.rsq.speed < s.firstTarget) (hmax : s.speedMax ≤ s.rsq.speed) (hl : s.lnc.line = .active)
    (hc : s.dbu.claim = .none) : firstPointTest s = formDraw { s with dbu := { s.dbu with
      need := some (s.drawOf s.firstTarget - s.dbu.granted), needOfRunning := true } } := by
  have hform := giveNeed_active (s := s) (s.drawOf s.firstTarget - s.dbu.granted) hl (.inl hc)
  have hspeed : (giveNeed (s.drawOf s.firstTarget - s.dbu.granted) s).speedMax ≤
      (giveNeed (s.drawOf s.firstTarget - s.dbu.granted) s).rsq.speed := by
    rw [hform]
    simpa [State.speedMax] using hmax
  unfold firstPointTest
  rw [if_pos ⟨hq, hd⟩, if_neg (by omega), if_neg (by simp [hc, DrawStatus.outstanding])]
  dsimp only
  rw [if_neg (by omega), hform]

/-- What the capture of the overcommit condition shows after a settle. -/
theorem settled_fault {s t : State} (h : OvercommitAlone s t) (hg : t.dbu.granted = s.dbu.granted + s.dbu.amount)
    (hl : t.dbu.limit = s.dbu.limit) (hr : t.reportedSum = s.reportedSum) (ho : t.dbu.overcommit = true)
    (hs : s.dbu.overcommit = false) : t.cpn.fault = s.captured .overcommit
      (min 65535 (s.dbu.granted + s.dbu.amount + s.reportedSum - s.dbu.limit)) := by
  have hif := h.trans (if_pos ⟨ho, hs⟩)
  rwa [hg, hl, hr] at hif

/-- The next number after the one just settled. -/
theorem nextNumber_settled (n : Nat) : nextNumber n n = (n + 1) % 16 := by
  rw [nextNumber_eq]
  split
  · next h => omega
  · rfl

/-- A need of the running restart held. -/
def State.needing (s : State) (need : Nat) : State :=
  { s with dbu := { s.dbu with need := some need, needOfRunning := true } }

theorem peerClaims_removeOwn (s : State) (k k' : ClaimKind) :
    ({ s with pvu := s.pvu.removeOwn k } : State).peerClaims k' = s.peerClaims k' := by
  simp only [State.peerClaims, Pvu.removeOwn, List.filter_filter]
  refine List.filter_congr fun e _ => ?_
  cases e.isOwn <;> simp

/-- The own DRAW entry counts in no send headroom. -/
theorem sendHeadroom_settled (s : State) (o : Bool) (f : FaultRecord) (n : Nat) :
    ((s.settled o f).needing n).sendHeadroom
      = ({ s with dbu := { s.dbu with granted := s.dbu.granted + s.dbu.amount } } : State).sendHeadroom := by
  have hpeers := peerClaims_removeOwn s .draw .draw
  unfold State.sendHeadroom
  refine congrArg (fun l : List ClaimEntry => s.dbu.limit
    - (s.dbu.granted + s.dbu.amount + s.reportedSum + (l.map (·.amount)).sum)) hpeers

theorem OvercommitOnWay.of_same {s t u : State} (h : OvercommitOnWay s t) (hd : u.dbu = t.dbu)
    (hp : u.pvu.peers = t.pvu.peers) (hf : u.cpn.fault = t.cpn.fault) : OvercommitOnWay s u := by
  have hr : u.reportedSum = t.reportedSum := by
    unfold State.reportedSum
    rw [hp]
  unfold OvercommitOnWay
  rw [hd, hr, hf]
  exact h

/-- The condition of a joined station, in every sequencer state alike. -/
theorem State.overcommitted_joined {s t : State} (hs : s.rsq.state ≠ .unjoined) (ht : t.rsq.state ≠ .unjoined)
    (hd : t.dbu = s.dbu) (hp : t.pvu.peers = s.pvu.peers) : t.overcommitted = s.overcommitted := by
  have hr : t.reportedSum = s.reportedSum := by
    unfold State.reportedSum
    rw [hp]
  unfold State.overcommitted
  rw [hr, hd, decide_eq_true hs, decide_eq_true ht]

/-- Settles O51. -/
theorem aSettledDrawClaimRaisesTheGrant : Obligations.a_settled_draw_claim_raises_the_grant := by
  refine ⟨fun s hr hc h hidle => ?_, fun s hr hc h hq hd hup => ?_, fun s hr hc h hq hd hl hlow hmax => ?_⟩
  all_goals
    have hrow := execDrawSettle_row hr hc h
    obtain ⟨o, f, hmade, hover, hway⟩ := settled_made s
    rw [hmade] at hrow
  · rw [firstPointTest_stays (s := s.settled o f) hidle] at hrow
    have hstamp := stampFault_does s (s.settled o f)
    have halone := hway.stamped
    generalize (stampFault s (s.settled o f)).cpn.fault = g at hstamp
    rw [hstamp] at hrow halone
    refine ⟨_, hrow, ?_, halone.keeps, fun ho hs => settled_fault halone rfl rfl rfl ho hs⟩
    exact congrArg (fun b => ({ s.settled b g with cpn := { s.cpn with fault := g } } : State)) hover
  · rw [firstPointTest_enters (s := s.settled o f) hq hd hup] at hrow
    obtain ⟨carried, moment, urgency, hrsq, hfree, hmet⟩ := enterRamping_rsq (s.settled o f)
    have hcounters := congrArg Rsq.counters hrsq
    have hside := SameDrawSide.ramping (s := s.settled o f) rfl
    have hcpn := enterRamping_cpn (s.settled o f)
    have hpeers : (enterRamping (s.settled o f)).pvu.peers = s.pvu.peers :=
      (by simp : _ = (s.settled o f).pvu.peers).trans rfl
    have halone := (hway.of_same hside.dbu hpeers (by rw [hcpn])).stamped
    have hdbu := hside.dbu
    have hstate : (enterRamping (s.settled o f)).rsq.state = .ramping := congrArg Rsq.state hrsq
    have ho : (enterRamping (s.settled o f)).overcommitted = o := by
      rw [State.overcommitted_joined (s := s.settled o f) (by rw [show (s.settled o f).rsq.state = .queued from hq]; decide)
        (by rw [hstate]; decide) hdbu hpeers]
      exact hover.symm
    have hrun : s.rsq.runReq = true := (Bool.and_eq_true _ _ ▸ hd).1
    have hstamp := stampFault_does s (enterRamping (s.settled o f))
    generalize (stampFault s (enterRamping (s.settled o f))).cpn.fault = g at hstamp
    rw [hstamp] at hrow halone
    refine ⟨_, hrow, ?_, hstate, congrArg Rsq.currentCause hrsq, congrArg Rsq.pendingSet hrsq, congrArg Rsq.step hrsq,
      congrArg Rsq.levelHoldTime hrsq, congrArg Rsq.dwell hrsq, (congrArg Rsq.speed hrsq :), (congrArg Rsq.stack hrsq :),
      (congrArg Rsq.runReq hrsq).trans hrun, congrArg Rsq.baseUrgency hrsq, congrArg Rsq.urgencyBase hrsq,
      fun hn => (congrArg Rsq.carried hrsq).trans (hfree hn), fun hn hm => (congrArg Rsq.carried hrsq).trans (hmet hn hm),
      ?_, ?_, hside.own.trans Pvu.removeOwn_own_same,
      (((SamePeers.refl s).remove (u := s.settled o f) rfl rfl).ramping).others, halone.keeps, hpeers, ?_, ?_,
      congrArg Cpn.events hcpn, fun ha => Asked.ramping (s := s.settled o f) (requestBeacon_beacon ha)⟩
    · exact congrArg (fun v : State => { v with cpn := { v.cpn with fault := g } })
        (State.of_blocks (s := s.settled o f) (t := enterRamping (s.settled o f)) (by simp))
    · show (enterRamping (s.settled o f)).rsq.counters = { s.settledCounters with
        earliestStop := (enterRamping (s.settled o f)).rsq.counters.earliestStop
        creepMoment := (enterRamping (s.settled o f)).rsq.counters.creepMoment }
      rw [hcounters]
      rfl
    · show (enterRamping (s.settled o f)).dbu = { s.dbu with
        granted := s.dbu.granted + s.dbu.amount, claim := .none, need := none, settleAt := none
        lastSettled := s.dbu.claimNumber, overcommit := (enterRamping (s.settled o f)).overcommitted }
      rw [ho, hdbu]
      rfl
    · exact (by simp : (enterRamping (s.settled o f)).ssu.tenure = (s.settled o f).ssu.tenure)
    · exact (by simp : (enterRamping (s.settled o f)).ssu.holder = (s.settled o f).ssu.holder)
  · have hline : (s.settled o f).lnc.line = .active := by
      rw [← hl]
      simp [State.settled]
    have hneeds := firstPointTest_needs (s := s.settled o f) hq hd hlow hmax hline rfl
    have hform := formDraw_eq (s := (s.settled o f).needing
      (s.drawOf s.firstTarget - (s.dbu.granted + s.dbu.amount))) rfl hline
    rw [sendHeadroom_settled] at hform
    have hpeers := (((SamePeers.refl s).remove (u := (s.settled o f).needing
      (s.drawOf s.firstTarget - (s.dbu.granted + s.dbu.amount))) rfl rfl).form).others
    have hqueue : s.lnc.requestBeacon.queue = s.lnc.queue := by simp
    have hbeacon : s.lnc.requestBeacon.beacon ≠ .empty := requestBeacon_beacon (by rw [hl]; rfl)
    rw [hneeds] at hrow
    by_cases hwait : min (s.drawOf s.firstTarget - (s.dbu.granted + s.dbu.amount))
        (min ({ s with dbu := { s.dbu with granted := s.dbu.granted + s.dbu.amount } } : State).sendHeadroom
          s.pst.strand.chunk) < min s.pst.strand.minClaim (s.drawOf s.firstTarget - (s.dbu.granted + s.dbu.amount))
    · have hthen := hform.trans (if_pos hwait)
      rw [hthen] at hpeers
      have hrow' := hrow.trans (congrArg (fun v => Host.Outcome.next (stampFault s v)) hthen)
      rw [stampFault_does] at hrow'
      exact ⟨_, hrow', rfl, rfl, rfl, rfl, rfl, rfl, hpeers, rfl, hbeacon, (if_pos hwait).symm ▸ ⟨rfl, hqueue⟩⟩
    · have helse := hform.trans (if_neg hwait)
      rw [helse] at hpeers
      have hrow' := hrow.trans (congrArg (fun v => Host.Outcome.next (stampFault s v)) helse)
      rw [stampFault_does] at hrow'
      refine ⟨_, hrow', rfl, rfl, rfl, rfl, rfl, rfl, hpeers, rfl, hbeacon, (if_neg hwait).symm ▸ ?_⟩
      refine ⟨rfl, nextNumber_settled _, rfl, List.mem_append_right _ (List.mem_singleton.mpr rfl), ?_⟩
      exact congrArg (putFrame _) hqueue

end Sys2Proof.Machine
end

section
/-! SUPPORT. Changes of line state (R90, R98, R105, R111, R117, R154): what a line that goes DEAF or BARRED
leaves of the own claims, and the change to ACTIVE. -/

namespace Sys2Proof.Machine

/-! ### The own DRAW claim on a line that is lost (R98, R99) -/

/-- An outstanding DRAW claim withdrawn as the line is lost, before its need is answered. -/
def State.drawTaken (s : State) : State :=
  { s with
    rsq := { s.rsq with counters := { s.rsq.counters with
      drawWithdrawn := if s.dbu.claim.outstanding = true ∧ s.dbu.needOfRunning = true
        then min 255 (s.rsq.counters.drawWithdrawn + 1) else s.rsq.counters.drawWithdrawn } }
    dbu := { s.dbu with settleAt := if s.dbu.claim.outstanding then none else s.dbu.settleAt }
    pvu := { s.pvu with
      claims := if s.dbu.claim.outstanding then (s.pvu.removeOwn .draw).claims else s.pvu.claims }
    lnc := { s.lnc with queue := if s.dbu.claim.outstanding
      then s.withdrawnFrom .draw s.dbu.claimNumber s.lnc.queue else s.lnc.queue } }

theorem drawTaken_eq (s : State) : (if s.dbu.claim.outstanding then
      countWithdrawn
        { s with
          dbu := { s.dbu with settleAt := none }
          pvu := s.pvu.removeOwn .draw
          lnc := s.lnc.queueFrame (.withdraw .draw s.dbu.claimNumber) }
      else s) = s.drawTaken := by
  unfold State.drawTaken
  cases ho : s.dbu.claim.outstanding
  · simp
  · rw [queueFrame_withdraw]
    unfold countWithdrawn
    cases hn : s.dbu.needOfRunning <;> simp [hn, sat255, Pvu.removeOwn]

theorem drawLineLost_some {s : State} {need : Nat} (h : s.dbu.need = some need) :
    drawLineLost s = soloRaise need s.drawTaken := by
  unfold drawLineLost
  rw [drawTaken_eq, h]

theorem drawLineLost_none {s : State} (h : s.dbu.need = none) :
    drawLineLost s = { s.drawTaken with dbu := { s.drawTaken.dbu with claim := .none } } := by
  unfold drawLineLost
  rw [drawTaken_eq, h]

/-- G as the solo allowance leaves it for the held need, if there is one. -/
def State.grantAlone (s : State) : Nat :=
  (s.dbu.need.map fun need =>
    max s.dbu.granted (min (need + s.dbu.granted) s.pst.strand.soloAllowance)).getD s.dbu.granted

/-- The state after DBU has taken a line that is lost, with the overcommit condition `o` and the fault record
`f` it leaves, and a beacon where `a` says so. -/
def State.drawLost (s : State) (o : Bool) (f : FaultRecord) (a : Bool) : State :=
  { s.drawTaken with
    dbu := { s.drawTaken.dbu with granted := s.grantAlone, need := none, claim := .none, overcommit := o }
    lnc := s.drawTaken.lnc.askIf a
    cpn := { s.cpn with fault := f } }

theorem drawLineLost_made (s : State) : ∃ o f a, drawLineLost s = s.drawLost o f a
    ∧ (o = if s.grantAlone = s.dbu.granted then s.dbu.overcommit else (s.drawLost o f a).overcommitted)
    ∧ OvercommitOnWay s (s.drawLost o f a) := by
  cases hn : s.dbu.need with
  | none =>
    rw [drawLineLost_none hn]
    have hg : s.grantAlone = s.dbu.granted := by
      unfold State.grantAlone
      rw [hn]
      rfl
    refine ⟨s.dbu.overcommit, s.cpn.fault, false, ?_, (if_pos hg).symm, .of_fault rfl rfl⟩
    have hneed : s.drawTaken.dbu.need = none := hn
    unfold State.drawLost
    rw [hg, ← hneed]
    rfl
  | some need =>
    rw [drawLineLost_some hn]
    obtain ⟨o, f, hsolo, hup, hstay, hway⟩ := soloRaise_made need s.drawTaken
    have hg : s.grantAlone = max s.dbu.granted (s.drawTaken.soloGoal need) := by
      unfold State.grantAlone
      rw [hn]
      rfl
    have hlost : s.drawTaken.soloRaised need o f
        = s.drawLost o f (decide (s.dbu.granted < s.drawTaken.soloGoal need)) := by
      unfold State.soloRaised State.drawLost
      rw [hg]
      by_cases hlt : s.drawTaken.dbu.granted < s.drawTaken.soloGoal need
      · rw [decide_eq_true (p := s.dbu.granted < _) hlt, if_pos hlt]
        rfl
      · rw [decide_eq_false (p := s.dbu.granted < _) hlt, if_neg hlt]
        rfl
    refine ⟨o, f, _, hsolo.trans hlost, ?_, ?_⟩
    · by_cases hlt : s.dbu.granted < s.drawTaken.soloGoal need
      · rw [if_neg (by omega), ← hlost]
        exact hup hlt
      · rw [if_pos (by omega)]
        exact hstay hlt
    · rw [← hlost]
      obtain ⟨v, hf, hnow, hj, ht⟩ := hway
      exact ⟨v, hf, hnow, hj, ht⟩

/-! ### Both own claims on a line that is lost -/

/-- The state after both units have taken the loss, before the request is acted on. -/
def State.claimsLost (s : State) (o : Bool) (f : FaultRecord) (a : Bool) : State :=
  { s.drawLost o f a with
    ssu := { s.ssu with claim := .none, settleAt := none, clearSent := false }
    pvu := { s.pvu with claims := s.claimsWithoutOwn }
    lnc := { s.lnc.askIf a with queue := s.claimsWithdrawn s.lnc.queue } }

theorem claimsLost_made (s : State) : ∃ o f a, withdrawStart (drawLineLost s) = s.claimsLost o f a
    ∧ (o = if s.grantAlone = s.dbu.granted then s.dbu.overcommit else (s.claimsLost o f a).overcommitted)
    ∧ OvercommitOnWay s (s.claimsLost o f a) := by
  obtain ⟨o, f, a, hlost, hover, hway⟩ := drawLineLost_made s
  refine ⟨o, f, a, ?_, hover.trans ?_, ?_⟩
  rotate_left
  · rfl
  · exact hway
  have hclaims : (s.drawTaken.pvu.removeOwn .start) = { s.pvu with claims := s.claimsWithoutOwn } := by
    refine congrArg (fun l => ({ s.pvu with claims := l } : Pvu)) ?_
    unfold State.claimsWithoutOwn State.drawTaken
    cases s.dbu.claim.outstanding
    · simp
    · simp only [Pvu.removeOwn, if_true, List.filter_filter]
      refine List.filter_congr fun e _ => ?_
      cases e.isOwn <;> cases e.kind <;> rfl
  have hq : ∀ q : List QueuedFrame, (s.drawLost o f a).withdrawnFrom .start s.ssu.claimNumber q
      = s.withdrawnFrom .start s.ssu.claimNumber q := withdrawnFrom_congr (by
    unfold State.drawLost
    rw [Lnc.askIf_beacon]
    exact ⟨rfl, rfl⟩) _ _
  have hqueue : (s.drawLost o f a).lnc.queue = s.drawTaken.lnc.queue := by
    unfold State.drawLost
    rw [Lnc.askIf_beacon]
  have hlnc : s.drawTaken.lnc.askIf a = { s.lnc.askIf a with queue := s.drawTaken.lnc.queue } := Lnc.askIf_queue ..
  have hends := withdrawStart_ends (s.drawLost o f a)
  rw [hqueue] at hends
  refine (congrArg withdrawStart hlost).trans (hends.trans ?_)
  have hall : (if s.ssu.claim = .none then s.drawTaken.lnc.queue
      else (s.drawLost o f a).withdrawnFrom .start s.ssu.claimNumber s.drawTaken.lnc.queue).filter
        (fun f => decide (f.slot ≠ .clear)) = s.claimsWithdrawn s.lnc.queue := by
    rw [hq]
    rfl
  have hline : ({ s.drawTaken.lnc.askIf a with queue := s.claimsWithdrawn s.lnc.queue } : Lnc)
      = { s.lnc.askIf a with queue := s.claimsWithdrawn s.lnc.queue } := by rw [hlnc]
  unfold State.claimsLost
  rw [← hclaims, ← hline, ← hall]
  rfl

end Sys2Proof.Machine
end

section
/-! SUPPORT. The frames a station sends (R140 to R146): the start of the head frame, its return to its slot
after an abort, and what its end does. -/

namespace Sys2Proof.Machine

/-! ### The start of a frame (R140, R144) -/

theorem readLevels_free {s : State} (levels : List Bool) (h : s.lnc.tx = none) :
    readLevels levels s = { s with lnc := levels.foldl Lnc.readBit s.lnc } := by
  unfold readLevels
  simp [h]

theorem readLevels_sending {s : State} (levels : List Bool) {x : Transmission} (h : s.lnc.tx = some x) :
    readLevels levels s = s := by
  unfold readLevels
  simp [h]

theorem tryStart_sending {s : State} {x : Transmission} (h : s.lnc.tx = some x) : tryStart s = s := by
  unfold tryStart State.startable
  simp [h]

theorem tryStart_starts {s : State} {h : Head} {q : Nat} (htx : s.lnc.tx = none) (hh : s.lnc.head = some h)
    (hq : s.lnc.quiet = some q) (hgap : headGap s.ownStation h ≤ q) : tryStart s = startFrame h s := by
  unfold tryStart State.startable
  simp [htx, hh, hq, hgap]

theorem tryStart_waits {s : State} (hwait : ∀ h, s.lnc.head = some h → ∀ q, s.lnc.quiet = some q →
    q < headGap s.ownStation h) : tryStart s = s := by
  unfold tryStart State.startable
  cases htx : s.lnc.tx with
  | some x => rfl
  | none =>
    cases hh : s.lnc.head with
    | none => rfl
    | some h =>
      cases hq : s.lnc.quiet with
      | none => rfl
      | some q =>
        have hlt := hwait h hh q hq
        simp [show ¬ headGap s.ownStation h ≤ q by omega]

theorem Lnc.readBits_head (l : Lnc) (levels : List Bool) : (levels.foldl Lnc.readBit l).head = l.head := by
  obtain ⟨hline, hqueue, hbeacon, -⟩ := Lnc.readBits_keeps l levels
  unfold Lnc.head
  rw [hline, hqueue, hbeacon]

/-- The station once the levels `levels` have been read. -/
def State.levelsRead (levels : List Bool) (s : State) : State :=
  { s with lnc := levels.foldl Lnc.readBit s.lnc }

theorem State.levelsRead_beaconFields (levels : List Bool) (s : State) :
    (s.levelsRead levels).beaconFields = s.beaconFields := by
  obtain ⟨hline, -, -, -, -, -, -, hseq, -⟩ := Lnc.readBits_keeps s.lnc levels
  have hkept : (s.levelsRead levels).beaconFields = { s.beaconFields with
      sequence := (levels.foldl Lnc.readBit s.lnc).sequence
      deaf := decide ((levels.foldl Lnc.readBit s.lnc).line = .deaf) } := rfl
  rw [hkept, hseq, hline]
  rfl

theorem execTransmissionStart_free {s : State} (levels : List Bool) (hr : s.rstLow = false)
    (htx : s.lnc.tx = none) : exec (.transmissionStart levels) s = .next (tryStart (s.levelsRead levels)) :=
  (released_high _ hr).trans (congrArg (fun u => Host.Outcome.next (tryStart u)) (readLevels_free levels htx))

theorem execTransmissionStart_starts {levels : List Bool} {h : Head} {q : Nat} {s : State}
    (hr : s.rstLow = false) (htx : s.lnc.tx = none) (hh : s.lnc.head = some h)
    (hq : (levels.foldl Lnc.readBit s.lnc).quiet = some q) (hgap : headGap s.ownStation h ≤ q) :
    exec (.transmissionStart levels) s = .next (startFrame h (s.levelsRead levels)) := by
  obtain ⟨-, -, -, htx', -⟩ := Lnc.readBits_keeps s.lnc levels
  rw [execTransmissionStart_free levels hr htx]
  exact congrArg Host.Outcome.next
    (tryStart_starts (htx'.trans htx) ((Lnc.readBits_head _ _).trans hh) hq hgap)

/-! ### An aborted frame (R141) -/

theorem execTransmissionAbort_sending {s : State} {x : Transmission} (hr : s.rstLow = false)
    (htx : s.lnc.tx = some x) : exec .transmissionAbort s = .next (abortFrame x s) := by
  refine (released_high _ hr).trans ?_
  rw [htx]

theorem QueuedFrame.queued_body (f : QueuedFrame) (urgency deadline : Nat) :
    (f.body urgency deadline).queued = some f := by cases f <;> rfl

theorem requeue_empty_slot {f : QueuedFrame} {q : List QueuedFrame} (h : ∀ g ∈ q, g.slot ≠ f.slot) :
    requeue f q = f :: q := by
  unfold requeue
  rw [List.find?_eq_none.2 (by simpa using h)]

/-- In a queue that holds one frame in each slot, the frame found in the slot of `f` is the one there. -/
theorem find_slot {f g : QueuedFrame} {q : List QueuedFrame} (hg : g ∈ q) (hs : g.slot = f.slot)
    (hd : q.Pairwise fun a b => a.slot ≠ b.slot) : q.find? (fun a => decide (a.slot = f.slot)) = some g := by
  induction q with
  | nil => cases hg
  | cons a rest ih =>
    obtain ⟨hfirst, hrest⟩ := List.pairwise_cons.1 hd
    rcases List.mem_cons.1 hg with rfl | hmem
    · simp [hs]
    · have hne : a.slot ≠ f.slot := hs ▸ hfirst g hmem
      simp [hne, ih hmem hrest]

theorem requeue_withdrawn {f g : QueuedFrame} {q : List QueuedFrame} (hg : g ∈ q) (hs : g.slot = f.slot)
    (hd : q.Pairwise fun a b => a.slot ≠ b.slot) (hw : withdraws g f = true) : requeue f q = q.erase g := by
  unfold requeue
  rw [find_slot hg hs hd]
  exact if_pos hw

theorem requeue_refilled {f g : QueuedFrame} {q : List QueuedFrame} (hg : g ∈ q) (hs : g.slot = f.slot)
    (hd : q.Pairwise fun a b => a.slot ≠ b.slot) (hw : withdraws g f = false) :
    requeue f q = g :: q.erase g := by
  unfold requeue
  rw [find_slot hg hs hd]
  exact if_neg (by simp [hw])

theorem execTransmissionAbort_requeues {f : QueuedFrame} {urgency deadline m n : Nat} {s : State}
    (hr : s.rstLow = false)
    (htx : s.lnc.tx = some { sent := m, frame := { station := n, body := f.body urgency deadline } }) :
    exec .transmissionAbort s = .next { s with
      lnc := { s.lnc with tx := none, queue := requeue f s.lnc.queue, quiet := some 0 } } := by
  rw [execTransmissionAbort_sending hr htx]
  unfold abortFrame
  rw [QueuedFrame.queued_body]

/-! ### The end of an own frame (R138, R145) -/

/-- The station with its transmitter freed at the end of its frame. -/
def State.freed (s : State) : State := { s with lnc := { s.lnc.atFrameEnd with tx := none } }

theorem execOwnFrameEnd_sending {s : State} {x : Transmission} (hr : s.rstLow = false)
    (htx : s.lnc.tx = some x) :
    exec .ownFrameEnd s = .next (stampFault s (takeOwn x.frame.body s.freed)) := by
  refine (released_high _ hr).trans ?_
  rw [htx]
  rfl

theorem execOwnFrameEnd_quiet {s : State} {x : Transmission} (hr : s.rstLow = false)
    (htx : s.lnc.tx = some x) (hf : (takeOwn x.frame.body s.freed).cpn.fault = s.cpn.fault) :
    exec .ownFrameEnd s = .next (takeOwn x.frame.body s.freed) := by
  rw [execOwnFrameEnd_sending hr htx, stampFault_of_fault_eq hf]

theorem drawSent_live {n : Nat} {s : State} (hc : s.dbu.claim = .sent) (hn : s.dbu.claimNumber = n)
    (hq : ∀ g ∈ s.lnc.queue, g.slot ≠ .drawClaim) : drawSent n s = { s with
      dbu := { s.dbu with claim := .contending, settleAt := some (later s.now s.pst.strand.settleTime) }
      pvu := s.pvu.setOwnStatus .draw .contending } :=
  if_pos ⟨hc, hn, by simpa [Lnc.slotFull] using hq⟩

theorem startSent_live {n : Nat} {s : State} (hc : s.ssu.claim = .sent) (hn : s.ssu.claimNumber = n)
    (hq : ∀ g ∈ s.lnc.queue, g.slot ≠ .startClaim) : startSent n s = { s with
      ssu := { s.ssu with claim := .contending, settleAt := some (later s.now s.pst.strand.settleTime) }
      pvu := s.pvu.setOwnStatus .start .contending } :=
  if_pos ⟨hc, hn, by simpa [Lnc.slotFull] using hq⟩

theorem drawSent_past {n : Nat} {s : State} (h : s.dbu.claim ≠ .sent ∨ s.dbu.claimNumber ≠ n
    ∨ s.lnc.slotFull .drawClaim = true) : drawSent n s = s :=
  if_neg fun ⟨hc, hn, hq⟩ => by simp [hc, hn, hq] at h

theorem startSent_past {n : Nat} {s : State} (h : s.ssu.claim ≠ .sent ∨ s.ssu.claimNumber ≠ n
    ∨ s.lnc.slotFull .startClaim = true) : startSent n s = s :=
  if_neg fun ⟨hc, hn, hq⟩ => by simp [hc, hn, hq] at h

/-- Settles O55, row by row: a start reads the levels and composes the head, an abort returns the frame to its
slot, and an end frees the transmitter for what the blocks make of the frame. -/
theorem ownFramesStartAbortAndEnd : Obligations.own_frames_start_abort_and_end := by
  refine ⟨?_, ?_, ?_, ?_, ?_, ?_, ?_, ?_, ?_, ?_, ?_, ?_, ?_⟩
  · intro levels q s hr htx hh hq hgap
    rw [execTransmissionStart_starts hr htx hh hq hgap]
    unfold startFrame
    dsimp only
    rw [State.levelsRead_beaconFields]
    rfl
  · intro levels q f s hr htx hh hq hgap
    obtain ⟨-, hqueue, -⟩ := Lnc.readBits_keeps s.lnc levels
    rw [execTransmissionStart_starts hr htx hh hq hgap, ← hqueue]
    cases f <;> rfl
  · intro levels s hr htx hwait
    rw [execTransmissionStart_free levels hr htx]
    refine congrArg Host.Outcome.next (tryStart_waits fun h hh q hq => ?_)
    have hlt := hwait h ((Lnc.readBits_head _ _).symm.trans hh) q hq
    cases h <;> exact hlt
  · intro levels x s hr htx
    refine (released_high _ hr).trans ?_
    rw [readLevels_sending levels htx, tryStart_sending htx]
  · intro b m s hr htx
    exact execTransmissionAbort_sending hr htx
  · intro f urgency deadline m s hr htx hslot
    rw [execTransmissionAbort_requeues hr htx, requeue_empty_slot hslot]
  · intro k number amount settle urgency deadline m s hr htx hg hd
    rw [execTransmissionAbort_requeues hr htx,
      requeue_withdrawn hg (by cases k <;> rfl) hd (by simp [withdraws])]
  · intro f g urgency deadline m s hr htx hg hs hd hw
    rw [execTransmissionAbort_requeues hr htx, requeue_refilled hg hs hd hw]
  · intro b m n s hr htx
    exact execOwnFrameEnd_quiet hr htx rfl
  · intro c m n s hr htx hk hc hn hq
    have hsent : takeOwn (.claim c) s.freed = drawSent c.number s.freed := by
      unfold takeOwn
      dsimp only
      rw [hk]
    have hlive := hsent.trans (drawSent_live hc hn hq)
    rw [execOwnFrameEnd_quiet hr htx (congrArg (fun u => u.cpn.fault) hlive :), hlive]
    rfl
  · intro c m n s hr htx hk hc hn hq
    have hsent : takeOwn (.claim c) s.freed = startSent c.number s.freed := by
      unfold takeOwn
      dsimp only
      rw [hk]
    have hlive := hsent.trans (startSent_live hc hn hq)
    rw [execOwnFrameEnd_quiet hr htx (congrArg (fun u => u.cpn.fault) hlive :), hlive]
    rfl
  · intro c m n s hr htx hpast
    have hkept : takeOwn (.claim c) s.freed = s.freed := by
      unfold takeOwn
      dsimp only
      rcases hpast with ⟨hk, h⟩ | ⟨hk, h⟩
      · rw [hk]
        exact drawSent_past h
      · rw [hk]
        exact startSent_past h
    rw [execOwnFrameEnd_quiet hr htx (congrArg (fun u => u.cpn.fault) hkept :), hkept]
    rfl
  · intro x s hr htx hkind
    have hkept : takeOwn x.frame.body s.freed = s.freed := by
      unfold takeOwn
      cases hb : x.frame.body <;> simp [hb, FrameBody.frameKind] at hkind ⊢
    rw [execOwnFrameEnd_quiet hr htx (congrArg (fun u => u.cpn.fault) hkept :), hkept]
    rfl

end Sys2Proof.Machine
end

section
/-! SUPPORT. The reception of peer frames (R138, R148) and what the RELEASE and CLEAR of a peer do to the
holder view and the tenure (R102, R116, R126). -/

namespace Sys2Proof.Machine

/-! ### A frame that is heard (R138, R148) -/

/-- The station once its line controller has taken a peer's frame. -/
def State.heard (s : State) : State := { s with lnc := s.heardLine }

theorem hears_of_heard {s : State} {k : Nat} (h : Heard s k) : s.hears k = true := by
  obtain ⟨hoff, -, hk, hown⟩ := h
  exact decide_eq_true ⟨hoff, hk, hown⟩

theorem receivePeer_heard {s : State} (hstay : s.lnc.line = .deaf → 1 < s.lnc.deafCount) :
    receivePeer s = s.heard := by
  unfold receivePeer State.heard State.heardLine
  dsimp only
  have hend : s.lnc.atFrameEnd = { s.lnc with quiet := some 10, charLeft := 0, synced := true } := rfl
  by_cases hb : s.lnc.line = .barred
  · rw [if_pos hb, if_pos hb]
    rfl
  · rw [if_neg hb, if_neg hb, if_neg fun ⟨hd, hle⟩ => by have := hstay hd; omega]
    rfl

@[simp] theorem State.heardLine_line (s : State) : s.heardLine.line = s.lnc.line := by
  unfold State.heardLine
  split <;> rfl

@[simp] theorem State.heardLine_queue (s : State) : s.heardLine.queue = s.lnc.queue := by
  unfold State.heardLine
  split <;> rfl

@[simp] theorem State.heardLine_beacon (s : State) : s.heardLine.beacon = s.lnc.beacon := by
  unfold State.heardLine
  split <;> rfl

/-- A row that delivers a heard frame acts on the station as the reception leaves it. -/
theorem row_heard {s : State} {k : Nat} (g : State → State) (hr : s.rstLow = false) (h : Hears s k) :
    released s (occur (whenever (s.hears k) (frameTaken fun s => g (receivePeer s))) s)
      = .next (stampFault s (g s.heard)) := by
  obtain ⟨hheard, hstay⟩ := h
  rw [row_next hr (hears_of_heard hheard), frameTaken_synced hheard.2.1,
    receivePeer_heard hstay]

theorem row_heard_of_fault {s t : State} {k : Nat} {g : State → State} (hr : s.rstLow = false)
    (h : Hears s k) (hg : g s.heard = t) (hf : t.cpn.fault = s.cpn.fault) :
    released s (occur (whenever (s.hears k) (frameTaken fun s => g (receivePeer s))) s) = .next t := by
  rw [row_heard g hr h, hg, stampFault_of_fault_eq hf]

/-! ### The view change of an idle station (R90, R109) -/

theorem drawViewChange_idle {s : State} (h : s.dbu.claim = .none ∨ s.dbu.claim = .sent) :
    drawViewChange s = s := by
  unfold drawViewChange
  rcases h with h | h <;> rw [h]

theorem drawViewChange_off_line {s : State} (hc : s.dbu.claim ≠ .contending) (hl : s.lnc.line ≠ .active) :
    drawViewChange s = s := by
  unfold drawViewChange
  split
  · exact if_neg hl
  · exact absurd ‹_› hc
  · exact if_neg hl
  · rfl
  · rfl

theorem retestStart_idle {s : State} (h : s.ssu.claim ≠ .waiting) : retestStart s = s :=
  if_neg fun ⟨hc, _⟩ => h hc

theorem retestStart_waiting {s : State} (h : s.ssu.claim = .waiting) :
    retestStart s = if s.ssu.holder = none ∧ s.startTopRanked = true then repeatStart s else s := by
  unfold retestStart
  simp [h]

theorem clearTest_idle {s : State} (h : s.ssu.claim ≠ .waiting ∨ s.ssu.holder = none) : clearTest s = s := by
  unfold clearTest
  split
  · next p hp => exact if_neg fun ⟨hc, _⟩ => h.elim (· hc) fun hn => by rw [hn] at hp; exact nomatch hp
  · rfl

/-- The station with the holder view `v`. -/
def State.viewing (v : Option Nat) (s : State) : State :=
  { s with
    ssu := { s.ssu with holder := v, clearSent := if v = s.ssu.holder then s.ssu.clearSent else false }
    lnc := if v = s.ssu.holder then s.lnc else s.lnc.dropClear }

theorem setHolder_idle {v : Option Nat} {s : State} (h : s.ssu.claim ≠ .waiting) :
    setHolder v s = s.viewing v := by
  unfold setHolder State.viewing
  by_cases hv : s.ssu.holder = v
  · rw [if_pos hv, if_pos hv.symm, if_pos hv.symm, ← hv]
  · rw [if_neg hv, if_neg (Ne.symm hv), if_neg (Ne.symm hv)]
    refine (congrArg clearTest (retestStart_idle ?_)).trans (clearTest_idle (.inl ?_))
    · exact h
    · exact h

/-- The station with the holder view cleared. -/
def State.unheld (s : State) : State :=
  { s with ssu := { s.ssu with holder := none, clearSent := false }, lnc := s.lnc.dropClear }

theorem retestStart_holder (s : State) : (retestStart s).ssu.holder = s.ssu.holder := by simp

theorem setHolder_none {s : State} (h : s.ssu.holder ≠ none) : setHolder none s = retestStart s.unheld := by
  unfold setHolder
  rw [if_neg h]
  exact clearTest_idle (.inr (retestStart_holder s.unheld))

/-! ### The peer table -/

theorem State.peer_fin (s : State) (k : Fin 8) : s.peer k.val = s.pvu.peers[k] := by
  unfold State.peer
  simp

theorem setPeer_fin (k : Fin 8) (e : PeerEntry) (s : State) :
    setPeer k.val e s = { s with pvu := { s.pvu with peers := s.pvu.peers.set k e } } := by
  unfold setPeer
  have hset : s.pvu.peers.setIfInBounds k.val e = s.pvu.peers.set k e := by
    ext i hi
    rw [Vector.getElem_setIfInBounds, Vector.getElem_set]
  rw [hset]

/-! ### RELEASE and CLEAR (R102, R116, R126) -/

/-- The station with a peer's RELEASE reason kept in its entry. -/
def State.reasonKept (k : Fin 8) (reason : ReleaseReason) (s : State) : State :=
  { s with pvu := { s.pvu with
    peers := s.pvu.peers.set k { s.pvu.peers[k] with releaseReason := some reason } } }

theorem takeRelease_eq (k : Fin 8) (reason : ReleaseReason) (s : State) : takeRelease k.val reason s
    = drawViewChange (if s.ssu.holder = some k.val then setHolder none (s.reasonKept k reason)
      else s.reasonKept k reason) := by
  unfold takeRelease
  dsimp only
  rw [setPeer_fin, s.peer_fin]
  rfl

theorem takeRelease_other {k : Fin 8} {reason : ReleaseReason} {s : State}
    (hd : s.dbu.claim = .none ∨ s.dbu.claim = .sent) (hh : s.ssu.holder ≠ some k.val) :
    takeRelease k.val reason s = s.reasonKept k reason := by
  rw [takeRelease_eq, if_neg hh]
  exact drawViewChange_idle hd

theorem takeRelease_holder {k : Fin 8} {reason : ReleaseReason} {s : State}
    (hd : s.dbu.claim = .none ∨ s.dbu.claim = .sent) (hh : s.ssu.holder = some k.val) :
    takeRelease k.val reason s = retestStart (s.reasonKept k reason).unheld := by
  have hne : (s.reasonKept k reason).ssu.holder ≠ none := by
    rw [show (s.reasonKept k reason).ssu.holder = some k.val from hh]
    exact fun h => nomatch h
  rw [takeRelease_eq, if_pos hh, setHolder_none hne]
  have hkept : (retestStart (s.reasonKept k reason).unheld).dbu = s.dbu := by
    have hdbu : (s.reasonKept k reason).unheld.dbu = s.dbu := rfl
    simp [hdbu]
  exact drawViewChange_idle (by rwa [hkept])

theorem takeClear_ends {target : Nat} {s : State} (ht : target = s.ownStation) (hten : s.ssu.tenure = true)
    (hdrv : s.drvReady = true) : takeClear target s = endTenure .cleared s :=
  (if_pos ⟨ht, hten⟩).trans (if_pos hdrv)

theorem takeClear_pends {target : Nat} {s : State} (ht : target = s.ownStation) (hten : s.ssu.tenure = true)
    (hdrv : s.drvReady = false) :
    takeClear target s = { s with ssu := { s.ssu with clearPending := true } } :=
  (if_pos ⟨ht, hten⟩).trans (if_neg (by simp [hdrv]))

theorem takeClear_ignored {target : Nat} {s : State} (h : target ≠ s.ownStation ∨ s.ssu.tenure = false) :
    takeClear target s = s :=
  if_neg fun ⟨ht, hten⟩ => by simp [ht, hten] at h

/-- Settles O59: the frame passes the reception, and `takeRelease` and `takeClear` are then read case by case. -/
theorem releaseAndClearActOnViewAndTenure : Obligations.release_and_clear_act_on_view_and_tenure := by
  refine ⟨fun k reason s hr hk hd hs => ?_, fun k reason s hr hk hd hw hh ht => ?_,
    fun k target s hr hk ht hten hdrv hc => ?_, fun k target s hr hk ht hten hdrv => ?_,
    fun k target s hr hk h => ?_⟩
  · by_cases hh : s.ssu.holder = some k.val
    · have hc : s.ssu.claim ≠ .waiting := hs.resolve_right (· hh)
      refine row_heard_of_fault hr hk ((takeRelease_holder (s := s.heard) hd hh).trans
        (retestStart_idle hc)) ?_ |>.trans ?_
      · rfl
      · rw [if_pos hh, if_pos hh]
        rfl
    · refine row_heard_of_fault hr hk (takeRelease_other (s := s.heard) hd hh) ?_ |>.trans ?_
      · rfl
      · rw [if_neg hh, if_neg hh]
        rfl
  · have hsent : retestStart (s.heard.reasonKept k reason).unheld
        = repeatStart (s.heard.reasonKept k reason).unheld :=
      (retestStart_waiting (s := (s.heard.reasonKept k reason).unheld) hw).trans (if_pos ⟨rfl, ht⟩)
    exact row_heard_of_fault hr hk ((takeRelease_holder (s := s.heard) hd hh).trans hsent) rfl
  · exact row_heard_of_fault hr hk ((takeClear_ends (s := s.heard) ht hten hdrv).trans
      (endTenure_released _ hten hc)) rfl
  · exact row_heard_of_fault hr hk (takeClear_pends (s := s.heard) ht hten hdrv) rfl
  · exact row_heard_of_fault hr hk (takeClear_ignored (s := s.heard) h) rfl

end Sys2Proof.Machine
end

section
/-! SUPPORT. The claims of the peers (R93, R94, R109, R128 to R132), the aging of their entries (R122, R123), and
a BEACON that moves no epoch (R120, R131). -/

namespace Sys2Proof.Machine

/-! ### A claim enters (R128) -/

/-- The list entry of a heard CLAIM. -/
def State.heardClaim (s : State) (k : Nat) (c : ClaimFields) : ClaimEntry :=
  { station := k, kind := c.kind, number := c.number
    amount := if c.kind = .draw then c.amount else 0
    origin := .peer c.urgency
      (if c.deadline = 65535 then none else some (later s.now (c.deadline * 100)))
      (later s.now (if (s.peer k).status = .absent then 2000
        else 2 * max 10 (min 250 c.settle) + 2 * ((s.peer k).periodCode * 10))) }

theorem State.claimEntry_eq (s : State) (k : Nat) (c : ClaimFields) : s.claimEntry k c = s.heardClaim k c := by
  unfold State.claimEntry State.heardClaim
  cases c.kind <;> rfl

/-- The station with a heard CLAIM entered in place of its station's entry of that kind. -/
def State.claimEntered (s : State) (k : Nat) (c : ClaimFields) : State :=
  { s with pvu := { s.pvu with
    claims := s.pvu.claims.filter (fun (g : ClaimEntry) => !(decide (g.station = k ∧ g.kind = c.kind)))
      ++ [s.heardClaim k c] } }

theorem enterClaim_heard (s : State) (k : Nat) (c : ClaimFields) :
    enterClaim (s.claimEntry k c) s = s.claimEntered k c := by
  rw [s.claimEntry_eq]
  rfl

theorem execClaimReceived_heard {k : Nat} {c : ClaimFields} {s t : State} (hr : s.rstLow = false)
    (hk : Hears s k) (ht : drawViewChange (s.heard.claimEntered k c) = t) (hf : t.cpn.fault = s.cpn.fault) :
    exec (.claimReceived k c) s = .next t :=
  row_heard_of_fault (g := fun s1 => drawViewChange (enterClaim (s1.claimEntry k c) s1)) hr hk
    ((congrArg drawViewChange (enterClaim_heard s.heard k c)).trans ht) hf

theorem drawViewChange_stands {s : State} (hc : s.dbu.claim = .contending) (h : s.dbu.amount ≤ s.keepHeadroom) :
    drawViewChange s = s := by
  unfold drawViewChange
  rw [hc]
  exact if_neg (by omega)

theorem drawViewChange_gives_way {s : State} (hc : s.dbu.claim = .contending)
    (h : s.keepHeadroom < s.dbu.amount) : drawViewChange s = drawGiveWay s := by
  unfold drawViewChange
  rw [hc]
  exact if_pos h

theorem drawGiveWay_eq (s : State) : drawGiveWay s = { s with
    rsq := { s.rsq with counters := { s.rsq.counters with
      drawWithdrawn := if s.dbu.needOfRunning then min 255 (s.rsq.counters.drawWithdrawn + 1)
        else s.rsq.counters.drawWithdrawn } }
    dbu := { s.dbu with claim := .holdoff, settleAt := none }
    pvu := s.pvu.removeOwn .draw
    lnc := s.lnc.queueFrame (.withdraw .draw s.dbu.claimNumber) } := by
  unfold drawGiveWay countWithdrawn
  cases hn : s.dbu.needOfRunning <;> simp [hn, sat255]

theorem drawViewChange_forms {s : State} (hc : s.dbu.claim = .waiting ∨ s.dbu.claim = .holdoff)
    (hl : s.lnc.line = .active) :
    ∃ c, drawViewChange s = formDraw { s with dbu := { s.dbu with claim := c } } := by
  unfold drawViewChange
  rcases hc with h | h
  · refine ⟨.waiting, ?_⟩
    rw [h]
    refine (if_pos hl).trans ?_
    rw [← h]
  · refine ⟨.none, ?_⟩
    rw [h]
    exact if_pos hl

/-! ### Claims leave (R130, R132) -/

theorem claimsLeave_idle {gone : ClaimEntry → Bool} {s : State} (h : ViewIdle s) :
    claimsLeave gone s = removeClaims gone s := by
  obtain ⟨hd, hs⟩ := h
  unfold claimsLeave
  dsimp only
  rw [drawViewChange_idle (s := removeClaims gone s) hd]
  split
  · exact retestStart_idle hs
  · rfl

theorem claimsLeave_start {gone : ClaimEntry → Bool} {s : State}
    (hd : s.dbu.claim = .none ∨ s.dbu.claim = .sent) (hl : s.losesStart gone = true) :
    claimsLeave gone s = retestStart (removeClaims gone s) := by
  unfold claimsLeave
  dsimp only
  rw [if_pos hl, drawViewChange_idle (s := removeClaims gone s) hd]

theorem lapsed_eq (now : Moment) (k : Nat) (kind : ClaimKind) (e : ClaimEntry) : lapsed now k kind e
    = (!e.isOwn && decide (e.station = k ∧ e.kind = kind)
      && (match e.origin with
        | .peer _ _ lifetime => reached now lifetime
        | .own _ => false)) := by
  unfold lapsed ClaimEntry.isOwn
  cases e.origin <;> rfl

theorem State.losesStart_of_any {s : State} {gone : ClaimEntry → Bool} (h : s.pvu.claims.any gone = true)
    (hk : ∀ e, gone e = true → e.kind = .start) : s.losesStart gone = true := by
  obtain ⟨e, he, hg⟩ := List.any_eq_true.1 h
  exact List.any_eq_true.2 ⟨e, he, by simp [hg, hk e hg]⟩

/-! ### The re-test of the START claim (R109) -/

theorem retestStart_fault (s : State) : (retestStart s).cpn.fault = s.cpn.fault := by simp

theorem retestStart_retestStart (s : State) : retestStart (retestStart s) = retestStart s := by
  by_cases h : s.ssu.claim = .waiting ∧ s.ssu.holder = none ∧ s.startTopRanked = true
  · have hsent : retestStart s = repeatStart s := if_pos h
    rw [hsent]
    exact retestStart_idle (by exact fun hc => nomatch hc)
  · have hsame : retestStart s = s := if_neg h
    rw [hsame, hsame]

/-- The station with the overcommit condition `o` and the fault record `f`. -/
def State.weighed (s : State) (o : Bool) (f : FaultRecord) : State :=
  { s with dbu := { s.dbu with overcommit := o }, cpn := { s.cpn with fault := f } }

theorem evalOvercommit_weighed (s : State) :
    evalOvercommit s = s.weighed s.overcommitted (evalOvercommit s).cpn.fault := evalOvercommit_eq s

theorem stampFault_weighed (b s : State) : stampFault b (evalOvercommit s)
    = s.weighed s.overcommitted (stampFault b (evalOvercommit s)).cpn.fault := by
  rw [stampFault_does, evalOvercommit_weighed]
  rfl

/-- An occurrence that ends with the overcommit test captures nothing unless the condition rises. -/
theorem stampFault_evalOvercommit {b s : State} (hf : s.cpn.fault = b.cpn.fault)
    (h : s.overcommitted = false ∨ s.dbu.overcommit = true) :
    (stampFault b (evalOvercommit s)).cpn.fault = b.cpn.fault := by
  have hsame := (evalOvercommit_fault_eq h).trans hf
  rw [stampFault_of_fault_eq hsame, hsame]

theorem retestStart_weighed (s : State) (o : Bool) (f : FaultRecord) :
    retestStart (s.weighed o f) = (retestStart s).weighed o f := by
  unfold retestStart
  have hrank : (s.weighed o f).startTopRanked = s.startTopRanked := rfl
  rw [hrank]
  by_cases h : s.ssu.claim = .waiting ∧ s.ssu.holder = none ∧ s.startTopRanked = true
  · rw [if_pos h]
    exact if_pos h
  · rw [if_neg h]
    exact if_neg h

theorem retestStart_overcommitted (s : State) : (retestStart s).overcommitted = s.overcommitted :=
  State.overcommitted_congr (by simp) (by simp) (by simp) (by simp [State.reportedSum])

/-! ### Aging (R122, R123) -/

/-- The station with peer `k` at a status, and its claims gone where it is lost. -/
def State.peerAged (s : State) (k : Fin 8) (status : PeerStatus) : State :=
  { s with pvu := { s.pvu with peers := s.pvu.peers.set k { s.pvu.peers[k] with status := status } } }

/-- The station with peer `k` lost, before its blocks act on the change. -/
def State.peerGone (s : State) (k : Fin 8) : State :=
  { s with pvu := { s.pvu with
    peers := s.pvu.peers.set k { s.pvu.peers[k] with status := .lost }
    claims := s.pvu.claims.filter fun e => !(!e.isOwn && decide (e.station = k.val)) } }

/-- The station with peer `k` lost and out of the holder view. -/
def State.peerUnheld (s : State) (k : Fin 8) : State :=
  if s.ssu.holder = some k.val then (s.peerGone k).unheld else s.peerGone k

theorem goSuspect_eq {k : Fin 8} {s : State} (hd : s.dbu.claim = .none ∨ s.dbu.claim = .sent) :
    goSuspect k.val s = evalOvercommit (s.peerAged k .suspect) := by
  unfold goSuspect
  rw [setPeer_fin, s.peer_fin]
  refine drawViewChange_idle ?_
  simpa using hd

theorem goLost_steps {k : Fin 8} {s : State} (hd : s.dbu.claim = .none ∨ s.dbu.claim = .sent) :
    goLost k.val s = if s.losesStart (claimOf k.val) then
        retestStart (evalOvercommit (loseHolder k.val (s.peerGone k)))
      else evalOvercommit (loseHolder k.val (s.peerGone k)) := by
  have hgone : removeClaims (claimOf k.val) (setPeer k.val { s.peer k.val with status := .lost } s)
      = s.peerGone k := by
    rw [setPeer_fin, s.peer_fin]
    rfl
  have hidle : drawViewChange (evalOvercommit (loseHolder k.val (s.peerGone k)))
      = evalOvercommit (loseHolder k.val (s.peerGone k)) := by
    refine drawViewChange_idle ?_
    have hkept : (loseHolder k.val (s.peerGone k)).dbu = s.dbu := by
      unfold loseHolder
      split
      · simp
        rfl
      · rfl
    simpa [hkept] using hd
  unfold goLost
  dsimp only
  rw [hgone, hidle]

theorem loseHolder_held {k : Fin 8} {s : State} (h : s.ssu.holder = some k.val) :
    loseHolder k.val s = retestStart (capture .holderLost k.val s).unheld := by
  have hne : (capture .holderLost k.val s).ssu.holder ≠ none := by
    rw [show (capture .holderLost k.val s).ssu.holder = some k.val from h]
    exact fun h => nomatch h
  exact (if_pos h).trans (setHolder_none hne)

theorem loseHolder_other {k : Fin 8} {s : State} (h : s.ssu.holder ≠ some k.val) : loseHolder k.val s = s :=
  if_neg h

/-- The loss of a peer, where no own DRAW claim acts on it and where the own START claim is tested again if it
waits. -/
theorem goLost_made {k : Fin 8} {s : State} (hd : s.dbu.claim = .none ∨ s.dbu.claim = .sent)
    (hs : s.ssu.claim ≠ .waiting ∨ s.ssu.holder = some k.val ∨ s.losesStart (claimOf k.val) = true) :
    ∃ o f, goLost k.val s = (retestStart (s.peerUnheld k)).weighed o f
      ∧ o = (retestStart (s.peerUnheld k)).overcommitted := by
  rw [goLost_steps hd]
  by_cases hh : s.ssu.holder = some k.val
  · rw [loseHolder_held (s := s.peerGone k) hh, evalOvercommit_weighed, retestStart_overcommitted]
    generalize (evalOvercommit (retestStart (capture .holderLost k.val (s.peerGone k)).unheld)).cpn.fault = f
    have hunheld : s.peerUnheld k = (s.peerGone k).unheld := if_pos hh
    have hretest : ∀ o, (retestStart (capture .holderLost k.val (s.peerGone k)).unheld).weighed o f
        = (retestStart (s.peerUnheld k)).weighed o f := fun o => by
      rw [← retestStart_weighed, ← retestStart_weighed, hunheld]
      rfl
    have hover : (capture .holderLost k.val (s.peerGone k)).unheld.overcommitted
        = (retestStart (s.peerUnheld k)).overcommitted := by
      rw [retestStart_overcommitted, hunheld]
      rfl
    rw [hover, hretest]
    refine ⟨_, f, ?_, rfl⟩
    split
    · rw [retestStart_weighed, retestStart_retestStart]
    · rfl
  · rw [loseHolder_other (s := s.peerGone k) hh, evalOvercommit_weighed]
    have hunheld : s.peerUnheld k = s.peerGone k := if_neg hh
    rw [hunheld, retestStart_overcommitted, ← hunheld]
    refine ⟨_, (evalOvercommit (s.peerUnheld k)).cpn.fault, ?_, rfl⟩
    split
    · exact retestStart_weighed ..
    · next hl =>
      have hc : s.ssu.claim ≠ .waiting := hs.resolve_right fun h => h.elim hh hl
      have hidle : retestStart (s.peerUnheld k) = s.peerUnheld k := by
        rw [hunheld]
        exact retestStart_idle hc
      rw [hidle]

/-- Nothing of the loss of a peer that does not hold the slot is captured but a rise of the overcommit
condition. -/
theorem goLost_fault {k : Fin 8} {s : State} (hd : s.dbu.claim = .none ∨ s.dbu.claim = .sent)
    (hh : s.ssu.holder ≠ some k.val) (ho : (goLost k.val s).dbu.overcommit = false ∨ s.dbu.overcommit = true) :
    (goLost k.val s).cpn.fault = s.cpn.fault := by
  rw [goLost_steps hd, loseHolder_other (s := s.peerGone k) hh] at ho ⊢
  have hover : (evalOvercommit (s.peerGone k)).dbu.overcommit = (s.peerGone k).overcommitted := by
    rw [evalOvercommit_weighed]
    rfl
  have hfault : (evalOvercommit (s.peerGone k)).cpn.fault = s.cpn.fault := by
    refine evalOvercommit_fault_eq (s := s.peerGone k) (ho.imp_left fun h => ?_)
    rw [← hover]
    split at h
    · simpa using h
    · exact h
  split
  · rw [retestStart_fault, hfault]
  · exact hfault

theorem goLost_first {k : Fin 8} {s : State} (hd : s.dbu.claim = .none ∨ s.dbu.claim = .sent)
    (hh : s.ssu.holder = some k.val) : FirstFault s (stampFault s (goLost k.val s)) .holderLost k.val := by
  intro hl
  obtain ⟨hkept, hlocked⟩ := faultKept_capture (k := .holderLost) (d := k.val) (s := s.peerGone k) hl
  have T := faultKept_traced hlocked
  refine firstFault_stamped (u := s.peerGone k) rfl rfl rfl ?_ hl
  have heval : FaultKept ((s.peerGone k).captured .holderLost k.val)
      (evalOvercommit (loseHolder k.val (s.peerGone k))) := by
    rw [loseHolder, if_pos (show (s.peerGone k).ssu.holder = some k.val from hh)]
    exact T.overcommit (T.holder none hkept)
  rw [goLost_steps hd]
  split
  · exact T.retest heval
  · exact heval

theorem turnsLost_of {k : Fin 8} {m : Moment} {s : State} (hs : s.pvu.peers[k].status = .suspect)
    (hm : s.pvu.peers[k].lastBeacon = some m)
    (ha : s.pst.strand.lossCount * (s.pvu.peers[k].periodCode * 10) < ageAt s.now m) :
    s.turnsLost k.val = true := by
  unfold State.turnsLost State.ageOf PeerEntry.period
  rw [s.peer_fin, hm]
  exact decide_eq_true ⟨hs, ha⟩

/-- The row of the loss of a peer. -/
theorem execPeerLost_made {k : Fin 8} {m : Moment} {s : State} (hr : s.rstLow = false)
    (hst : s.pvu.peers[k].status = .suspect) (hm : s.pvu.peers[k].lastBeacon = some m)
    (ha : s.pst.strand.lossCount * (s.pvu.peers[k].periodCode * 10) < ageAt s.now m)
    (hd : s.dbu.claim = .none ∨ s.dbu.claim = .sent)
    (hs : s.ssu.claim ≠ .waiting ∨ s.ssu.holder = some k.val ∨ s.losesStart (claimOf k.val) = true) :
    ∃ t, exec (.peerLost k.val) s = .next t
      ∧ t = retestStart ((s.peerUnheld k).weighed t.overcommitted t.cpn.fault)
      ∧ (s.ssu.holder = some k.val → FirstFault s t .holderLost k.val)
      ∧ (s.ssu.holder ≠ some k.val → t.dbu.overcommit = false ∨ s.dbu.overcommit = true →
          t.cpn.fault = s.cpn.fault) := by
  obtain ⟨o, f, hmade, ho⟩ := goLost_made hd hs
  have hrow : exec (.peerLost k.val) s = .next (stampFault s (goLost k.val s)) :=
    row_next hr (turnsLost_of hst hm ha)
  refine ⟨_, hrow, ?_, fun hh => goLost_first hd hh, fun hh hov => ?_⟩
  · have hstamp := stampFault_does s (goLost k.val s)
    generalize (stampFault s (goLost k.val s)).cpn.fault = g at hstamp
    have hw : stampFault s (goLost k.val s) = (retestStart (s.peerUnheld k)).weighed o g := by
      rw [hstamp, hmade]
      rfl
    have hover : ((retestStart (s.peerUnheld k)).weighed o g).overcommitted = o := by
      rw [ho]
      rfl
    rw [hw, hover, retestStart_weighed]
  · have hsame : (stampFault s (goLost k.val s)).dbu = (goLost k.val s).dbu := by rw [stampFault_does]
    rw [hsame] at hov
    have hf := goLost_fault hd hh hov
    rw [stampFault_of_fault_eq hf, hf]

end Sys2Proof.Machine
end

section
/-! SUPPORT. A BEACON that moves no epoch (R86, R102, R120, R131), and the claims of the peers. -/

namespace Sys2Proof.Machine

/-! ### The tundish side of a BEACON that shows nothing new (R84 to R86) -/

theorem newerEpoch_self (e : Nat) : newerEpoch e e = false := by
  unfold newerEpoch
  have hd : (e + 256 - e % 256) % 256 = 0 := by omega
  simp [hd]

/-- The beacon shows the own epoch, and no READY that the station lacks (R84). -/
structure ShowsNothingNew (b : BeaconFields) (d : Dbu) : Prop where
  learned : d.learned = true
  epoch : b.epoch = d.epoch
  phase : d.phase = .ready ∨ b.phaseReady = false

theorem repairTundish_none {b : BeaconFields} {s : State} (h : ShowsNothingNew b s.dbu) : repairTundish b s = s := by
  have hphase : ¬ (b.epoch = s.dbu.epoch ∧ b.phaseReady = true ∧ s.dbu.phase = .opened) := fun ⟨_, hr, ho⟩ => by
    rcases h.phase with hp | hp
    · rw [hp] at ho
      exact nomatch ho
    · rw [hp] at hr
      exact nomatch hr
  unfold repairTundish
  rw [if_neg (by simp [h.learned]), ← h.epoch, newerEpoch_self, if_neg Bool.false_ne_true, h.epoch,
    if_neg (by rwa [← h.epoch] at hphase ⊢)]

/-- The beacon shows a limit mismatch (R86). -/
abbrev ShowsMismatch (b : BeaconFields) (s : State) : Prop :=
  b.limitLocal = false ∧ b.phaseReady = true ∧ b.epoch = s.dbu.epoch ∧ s.dbu.phase = .ready
    ∧ s.pst.strand.limitSource = .line ∧ b.limit ≠ s.dbu.limit ∧ s.dbu.mismatch = false

/-- The station with the mismatch mark `m`, the overcommit condition `o` and the fault record `f`. -/
def State.judged (s : State) (m o : Bool) (f : FaultRecord) : State :=
  { s with dbu := { s.dbu with mismatch := m, overcommit := o }, cpn := { s.cpn with fault := f } }

theorem drawBeacon_new {k : Nat} {b : BeaconFields} {s : State} (h : ShowsNothingNew b s.dbu)
    (hd : s.dbu.claim = .none ∨ s.dbu.claim = .sent) :
    drawBeacon k b s = evalOvercommit (mismatchTest k b s) := by
  unfold drawBeacon
  rw [repairTundish_none h]
  exact drawViewChange_idle (by simpa using hd)

theorem drawBeacon_judged {k : Nat} {b : BeaconFields} {s : State} (h : ShowsNothingNew b s.dbu)
    (hd : s.dbu.claim = .none ∨ s.dbu.claim = .sent) :
    ∃ f, drawBeacon k b s
      = s.judged (if ShowsMismatch b s then true else s.dbu.mismatch) s.overcommitted f := by
  rw [drawBeacon_new h hd, evalOvercommit_weighed]
  generalize (evalOvercommit (mismatchTest k b s)).cpn.fault = f
  refine ⟨f, ?_⟩
  unfold mismatchTest
  by_cases hm : ShowsMismatch b s
  · rw [if_pos hm, if_pos hm]
    rfl
  · rw [if_neg hm, if_neg hm]
    rfl

theorem drawBeacon_quiet {k : Nat} {b : BeaconFields} {s : State} (h : ShowsNothingNew b s.dbu)
    (hd : s.dbu.claim = .none ∨ s.dbu.claim = .sent) (hm : ¬ ShowsMismatch b s) :
    drawBeacon k b s = evalOvercommit s := by
  rw [drawBeacon_new h hd]
  exact congrArg evalOvercommit (if_neg hm)

/-- The station with the mismatch mark set (R86). -/
def State.marked (s : State) : State := { s with dbu := { s.dbu with mismatch := true } }

theorem drawBeacon_mismatch {k : Nat} {b : BeaconFields} {s : State} (h : ShowsNothingNew b s.dbu)
    (hd : s.dbu.claim = .none ∨ s.dbu.claim = .sent) (hm : ShowsMismatch b s) :
    drawBeacon k b s = evalOvercommit (capture .limitMismatch k s.marked) := by
  rw [drawBeacon_new h hd]
  exact congrArg evalOvercommit (if_pos hm)

/-! ### The view and the claim list at a BEACON (R102, R120, R131) -/

theorem finishedBy_eq (k : Nat) (b : BeaconFields) (e : ClaimEntry) : finishedBy k b e
    = (!e.isOwn && decide (e.station = k ∧ ((e.kind = .draw ∧ e.number = b.settledDraw)
      ∨ (e.kind = .start ∧ (e.number = b.settledStart ∨ b.slotHeld = true))))) := by
  unfold finishedBy
  cases e.kind <;> simp [Bool.and_assoc]

/-- The holder view after a BEACON of station `k` (R102). -/
def State.viewAfter (s : State) (k : Nat) (b : BeaconFields) : Option Nat :=
  if b.slotHeld then some k else if s.ssu.holder = some k then none else s.ssu.holder

theorem State.viewing_self (s : State) : s.viewing s.ssu.holder = s := by
  unfold State.viewing
  rw [if_pos rfl, if_pos rfl]

theorem beaconHolder_idle {k : Nat} {b : BeaconFields} {s : State} (h : s.ssu.claim ≠ .waiting) :
    beaconHolder k b s = s.viewing (s.viewAfter k b) := by
  unfold beaconHolder State.viewAfter
  cases b.slotHeld
  · rw [if_neg Bool.false_ne_true, if_neg Bool.false_ne_true]
    split
    · exact setHolder_idle h
    · exact s.viewing_self.symm
  · exact setHolder_idle h

theorem takeBeacon_idle {k : Nat} {b : BeaconFields} {s : State} (h : s.ssu.claim ≠ .waiting) :
    takeBeacon k b s = drawBeacon k b ((takeBeaconEntry k b s).viewing (s.viewAfter k b)) := by
  have hentry : (takeBeaconEntry k b s).ssu.claim ≠ .waiting := h
  have hview : beaconHolder k b (takeBeaconEntry k b s) = (takeBeaconEntry k b s).viewing (s.viewAfter k b) :=
    beaconHolder_idle hentry
  unfold takeBeacon
  dsimp only
  rw [hview]
  split
  · exact congrArg (drawBeacon k b) (retestStart_idle (s := (takeBeaconEntry k b s).viewing (s.viewAfter k b)) h)
  · rfl

/-- The station once a BEACON without SLOT_HELD has been entered and has left the view. -/
def State.beaconUnheld (s : State) (k : Nat) (b : BeaconFields) : State :=
  if s.ssu.holder = some k then (takeBeaconEntry k b s).unheld else takeBeaconEntry k b s

theorem State.beaconUnheld_does (s : State) (k : Nat) (b : BeaconFields) :
    (s.beaconUnheld k b).ssu = (if s.ssu.holder = some k then { s.ssu with holder := none, clearSent := false }
      else s.ssu)
    ∧ (s.beaconUnheld k b).lnc = (if s.ssu.holder = some k then s.lnc.dropClear else s.lnc)
    ∧ (s.beaconUnheld k b).pvu.claims = s.pvu.claims.filter (fun e => !finishedBy k b e)
    ∧ (s.beaconUnheld k b).rsq = s.rsq ∧ (s.beaconUnheld k b).dbu = s.dbu ∧ (s.beaconUnheld k b).now = s.now
    ∧ (s.beaconUnheld k b).pst = s.pst := by
  unfold State.beaconUnheld
  split <;> exact ⟨rfl, rfl, rfl, rfl, rfl, rfl, rfl⟩

theorem takeBeacon_retests {k : Nat} {b : BeaconFields} {s : State} (hb : b.slotHeld = false)
    (h : s.ssu.holder = some k ∨ s.losesStart (finishedBy k b) = true) :
    takeBeacon k b s = drawBeacon k b (retestStart (s.beaconUnheld k b)) := by
  unfold takeBeacon beaconHolder State.beaconUnheld
  dsimp only
  rw [hb, if_neg Bool.false_ne_true]
  by_cases hh : s.ssu.holder = some k
  · have hne : (takeBeaconEntry k b s).ssu.holder ≠ none := by
      rw [show (takeBeaconEntry k b s).ssu.holder = some k from hh]
      exact fun h => nomatch h
    rw [if_pos hh, if_pos (show (takeBeaconEntry k b s).ssu.holder = some k from hh), setHolder_none hne]
    split
    · rw [retestStart_retestStart]
    · rfl
  · rw [if_neg hh, if_neg (show ¬ (takeBeaconEntry k b s).ssu.holder = some k from hh),
      if_pos (h.resolve_left hh)]

theorem execBeaconReceived_heard {k : Nat} {b : BeaconFields} {s : State} (hr : s.rstLow = false)
    (hk : Hears s k) : exec (.beaconReceived k b) s = .next (stampFault s (takeBeacon k b s.heard)) :=
  row_heard (takeBeacon k b) hr hk

theorem State.startTopRanked_congr {s u : State} (hclaims : u.pvu.claims = s.pvu.claims) (hrsq : u.rsq = s.rsq)
    (hnow : u.now = s.now) : u.startTopRanked = s.startTopRanked := by
  have hforce : u.deadlineInForce = s.deadlineInForce := by
    unfold State.deadlineInForce State.deadlines
    rw [hrsq, hnow]
  unfold State.startTopRanked State.peerClaims State.outranksOwn State.ownEntry State.outranks State.entryUrgency
    State.entryDeadline
  rw [hclaims, hrsq, hnow, hforce]

/-- What the re-test makes of the claim, its entry and the transmit queue, read off a state `u` with the same
claims and view. -/
theorem retestStart_fields {s u : State} (h : s.ssu.claim = .waiting) (hclaims : u.pvu.claims = s.pvu.claims)
    (hrsq : u.rsq = s.rsq) (hnow : u.now = s.now) (hssu : u.ssu = s.ssu) (hlnc : u.lnc = s.lnc) :
    if u.ssu.holder = none ∧ u.startTopRanked = true then
      (retestStart s).ssu = { u.ssu with claim := .sent, settleAt := none }
      ∧ (retestStart s).pvu.claims = (u.pvu.setOwnStatus .start .sent).claims
      ∧ (retestStart s).lnc = u.lnc.queueFrame (.claim .start s.ssu.claimNumber 0 s.pst.strand.settleTime)
    else (retestStart s).ssu = u.ssu ∧ (retestStart s).pvu.claims = u.pvu.claims ∧ (retestStart s).lnc = u.lnc := by
  rw [retestStart_waiting h, State.startTopRanked_congr hclaims hrsq hnow, hssu, hlnc]
  unfold Pvu.setOwnStatus
  rw [hclaims]
  split
  · exact ⟨rfl, rfl, rfl⟩
  · exact ⟨rfl, rfl, rfl⟩

/-! ### The statement -/

/-- Settles O58: a CLAIM enters and DBU takes the view change, the peers' claims leave with the re-test of the
START claim, and a lost peer or a BEACON leads to the same re-test. -/
theorem peerClaimsAreEnteredRemovedAndLapse : Obligations.peer_claims_are_entered_removed_and_lapse := by
  refine ⟨fun k c s hr hk hc => ?_, fun k c s hr hk hc => ?_, fun k n kind s hr hk hidle => ?_,
    fun k kind s hr hany hidle => ?_, fun k n s hr hk hd hw hany => ?_, fun k need c s hr hk hl hc hn => ?_,
    fun k s hr hany hd hw => ?_, fun k m s hr hst hm ha hd hw hlost => ?_,
    fun k b s hr hk hd hw hb hlost hlearned he hlt hp => ?_⟩
  · refine execClaimReceived_heard hr hk (t := s.heard.claimEntered k c) ?_ rfl
    rcases hc with h | h | ⟨hne, hoff⟩
    · exact drawViewChange_idle (.inl h)
    · exact drawViewChange_idle (.inr h)
    · have hline : (s.heard.claimEntered k c).lnc.line = s.lnc.line := s.heardLine_line
      exact drawViewChange_off_line hne (by rwa [hline])
  · have hkeep : (s.heard.claimEntered k c).keepHeadroom = (s.claimEntered k c).keepHeadroom := rfl
    by_cases hle : s.dbu.amount ≤ (s.claimEntered k c).keepHeadroom
    · refine ⟨_, execClaimReceived_heard hr hk (drawViewChange_stands hc (by rw [hkeep]; exact hle)) rfl,
        rfl, fun _ => rfl, fun hlt => ?_⟩
      exact absurd hlt (Nat.not_lt.2 hle)
    · have hgive := (drawViewChange_gives_way (s := s.heard.claimEntered k c) hc
        (by rw [hkeep]; exact Nat.not_le.1 hle)).trans (drawGiveWay_eq _)
      refine ⟨_, execClaimReceived_heard hr hk hgive rfl, ?_, fun h => absurd h hle, fun _ => ⟨rfl, rfl⟩⟩
      exact Pvu.removeOwn_others ..
  · have hleave := claimsLeave_idle (gone := withdrawnBy k kind n) (s := s.heard) hidle
    exact row_heard_of_fault hr hk hleave rfl
  · have hleave := claimsLeave_idle (gone := lapsed s.now k kind) hidle
    refine (row_next_of_fault (s := s) (f := fun s => claimsLeave (lapsed s.now k kind) s) hr hany
      (by rw [hleave]; rfl)).trans ?_
    rw [hleave]
    exact congrArg (fun l => Host.Outcome.next ({ s with pvu := { s.pvu with claims := l } } : State))
      (List.filter_congr fun e _ => congrArg not (lapsed_eq ..))
  · have hl : s.heard.losesStart (withdrawnBy k .start n) = true :=
      State.losesStart_of_any hany fun e he => by
        unfold withdrawnBy at he
        simp at he
        exact he.2.2.1
    have hleave := (claimsLeave_start (s := s.heard) (.inl hd) hl).trans (retestStart_waiting hw)
    refine ⟨_, row_heard_of_fault hr hk hleave ?_, ?_⟩
    · split <;> rfl
    · rfl
  · have hline : (s.heard.claimEntered k c).lnc.line = .active := s.heardLine_line.trans hl
    obtain ⟨d, hform⟩ := drawViewChange_forms (s := s.heard.claimEntered k c) hc hline
    have heq := hform.trans (formDraw_eq (s := { s.heard.claimEntered k c with
      dbu := { (s.heard.claimEntered k c).dbu with claim := d } }) (need := need) hn hline)
    rw [nextNumber_eq] at heq
    refine ⟨_, execClaimReceived_heard hr hk heq ?_, ?_⟩
    · split <;> rfl
    · have hq : s.heardLine.queue = s.lnc.queue := s.heardLine_queue
      dsimp only
      rw [← hq]
      rfl
  · have hl : s.losesStart (lapsed s.now k .start) = true :=
      State.losesStart_of_any hany fun e he => by
        rw [lapsed_eq] at he
        simp at he
        exact he.1.2.2
    have hleave := (claimsLeave_start (gone := lapsed s.now k .start) (.inl hd) hl).trans (retestStart_waiting hw)
    refine ⟨_, row_next_of_fault hr hany ?_, ?_⟩
    · rw [hleave]
      split <;> rfl
    · exact hleave
  · have hloses : s.ssu.holder = some k.val ∨ s.losesStart (claimOf k.val) = true := hlost.imp_right fun h => by
      obtain ⟨e, he, hg⟩ := List.any_eq_true.1 h
      refine List.any_eq_true.2 ⟨e, he, ?_⟩
      simp only [Bool.and_eq_true, decide_eq_true_eq] at hg
      simp [claimOf, hg]
    obtain ⟨t, hrow, ht, hfirst, -⟩ := execPeerLost_made hr hst hm ha (.inl hd) (.inr hloses)
    have hw' : ((s.peerUnheld k).weighed t.overcommitted t.cpn.fault).ssu.claim = .waiting := by
      unfold State.peerUnheld
      split <;> exact hw
    refine ⟨t, hrow, ?_, hfirst⟩
    rw [retestStart_waiting hw'] at ht
    unfold State.peerUnheld at ht
    by_cases hh : s.ssu.holder = some k.val
    · rw [if_pos hh] at ht
      dsimp only
      rw [if_pos hh, if_pos hh]
      exact ht
    · rw [if_neg hh] at ht
      dsimp only
      rw [if_neg hh, if_neg hh]
      exact ht
  · have hloses : s.ssu.holder = some k ∨ s.heard.losesStart (finishedBy k b) = true := hlost.imp_right fun h => by
      obtain ⟨e, he, hg⟩ := List.any_eq_true.1 h
      refine List.any_eq_true.2 ⟨e, he, ?_⟩
      simp only [Bool.and_eq_true, decide_eq_true_eq] at hg
      simp [finishedBy_eq, hg]
    obtain ⟨hssu, hlnc, hlist, hrsq, hdraw, hnow, hpst⟩ := State.beaconUnheld_does s.heard k b
    have hwait : (s.heard.beaconUnheld k b).ssu.claim = .waiting := by
      rw [hssu]
      split <;> exact hw
    have hnumber : (s.heard.beaconUnheld k b).ssu.claimNumber = s.ssu.claimNumber := by
      rw [hssu]
      split <;> rfl
    have hdbu : (retestStart (s.heard.beaconUnheld k b)).dbu = s.dbu := by
      rw [← show s.heard.dbu = s.dbu from rfl, ← hdraw]
      simp
    obtain ⟨f, hjudged⟩ := drawBeacon_judged (k := k) (b := b) (s := retestStart (s.heard.beaconUnheld k b))
      (hdbu ▸ ⟨hlearned, he, hp⟩) (.inl (by rw [hdbu, hd]))
    refine ⟨_, execBeaconReceived_heard hr hk, ?_⟩
    rw [stampFault_does, takeBeacon_retests (s := s.heard) hb hloses, hjudged]
    intro held u
    have hclaims : u.pvu.claims = (s.heard.beaconUnheld k b).pvu.claims := by
      rw [hlist]
      refine List.filter_congr fun e _ => ?_
      rw [finishedBy_eq, hb]
      simp
    have hkept := retestStart_fields hwait hclaims hrsq.symm hnow.symm hssu.symm hlnc.symm
    rw [hnumber, hpst] at hkept
    exact hkept

end Sys2Proof.Machine
end

section
/-! SUPPORT. The entries of the other stations through stops, precondition tests and tundish events (R127), and
what a BEACON makes of its sender's entry (R120, R131). -/

namespace Sys2Proof.Machine

/-! ### The entries of the other stations (R127) -/

namespace SamePeers

variable {s t : State}

theorem overcommit (h : SamePeers s t) : SamePeers s (evalOvercommit t) := by
  rw [evalOvercommit_eq]
  exact h.of_claims rfl rfl

theorem granted (g : Nat) (h : SamePeers s t) : SamePeers s (setGranted g t) :=
  overcommit (h.of_claims rfl rfl)

theorem beaconIfChanged (b : State) (h : SamePeers s t) : SamePeers s (beaconIfChanged b t) := by
  unfold Machine.beaconIfChanged
  split
  · exact h
  · exact h.beacon

theorem giveWay (h : SamePeers s t) : SamePeers s (drawGiveWay t) := by
  rw [drawGiveWay_eq]
  exact h.remove rfl rfl

theorem drawView (h : SamePeers s t) : SamePeers s (drawViewChange t) := by
  unfold drawViewChange
  split
  · split
    · exact h.form
    · exact h
  · split
    · exact h.giveWay
    · exact h
  · split
    · exact form (h.of_claims rfl rfl)
    · exact h
  all_goals exact h

theorem retest (h : SamePeers s t) : SamePeers s (retestStart t) := by
  unfold retestStart
  split
  · exact h.repeatStart
  · exact h

theorem clearSent (h : SamePeers s t) : SamePeers s (clearTest t) := by
  unfold clearTest
  split
  · split
    · exact h.of_claims rfl rfl
    · exact h
  · exact h

theorem holder (v : Option Nat) (h : SamePeers s t) : SamePeers s (setHolder v t) := by
  unfold setHolder
  split
  · exact h
  · exact clearSent (retest (h.of_claims rfl rfl))

theorem tenure (r : ReleaseReason) (h : SamePeers s t) : SamePeers s (endTenure r t) := by
  unfold endTenure
  dsimp only
  split
  · split
    · exact beacon (holder none (h.of_claims rfl rfl))
    · exact beacon (h.of_claims rfl rfl)
  · exact h

theorem drawWithdraw (h : SamePeers s t) : SamePeers s (drawWithdraw t) := by
  unfold Machine.drawWithdraw
  split
  · exact h
  · exact h.of_claims rfl rfl
  · exact h.of_claims rfl rfl
  all_goals exact h.remove rfl rfl

theorem withdrawClaims (h : SamePeers s t) : SamePeers s (withdrawClaims t) :=
  tenure _ (withdrawStart (h.drawWithdraw.of_claims rfl rfl))

theorem queued (h : SamePeers s t) : SamePeers s (enterQueued t) := by
  have hentered : SamePeers s (refreshUrgency (requestBeacon { t with rsq := { t.rsq with state := .queued } })) :=
    urgency (beacon (h.of_claims rfl rfl))
  unfold enterQueued
  dsimp only
  split
  · exact hentered.drive
  · exact act (hentered.of_claims rfl rfl)

theorem returned (h : SamePeers s t) : SamePeers s (returnToStopped t) :=
  urgency (beacon (withdrawClaims (h.of_claims rfl rfl)))

theorem preconditions (h : SamePeers s t) : SamePeers s (evalPreconditions t) := by
  unfold evalPreconditions
  split
  · split
    · exact h.queued
    · exact h
  · split
    · exact h
    · exact h.returned
  all_goals exact h

theorem reference (h : SamePeers s t) : SamePeers s (requestReference t) := by
  unfold requestReference
  split
  · exact h
  · exact h.of_claims rfl rfl

theorem notified (n : EventNotice) (h : SamePeers s t) : SamePeers s (notify n t) := h.of_claims rfl rfl

theorem entry (c : Cause) (b : State) (h : SamePeers s t) : SamePeers s (stopEntry c b t) := by
  unfold stopEntry
  dsimp only
  refine beaconIfChanged _ (urgency (notified _ (reference ?_)))
  refine of_claims (t := Machine.withdrawClaims _) (withdrawClaims (granted _ ?_)) rfl rfl
  exact h.of_claims rfl rfl

theorem pushed (h : SamePeers s t) : SamePeers s (pushContext t) := by
  refine h.of_claims ?_ ?_
  · simp [pushContext]
  · simp [pushContext]

theorem stop (c : Cause) (e : Option Nat) (h : SamePeers s t) : SamePeers s (stopEvent c e t) := by
  unfold stopEvent
  split
  · exact h
  · exact h
  · exact h
  · exact preconditions (entry _ _ (h.of_claims rfl rfl))
  · exact preconditions (entry _ _ (h.of_claims rfl rfl))
  · exact preconditions (entry _ _ (h.of_claims rfl rfl))
  · exact preconditions (entry _ _ (h.pushed.of_claims rfl rfl))
  · exact preconditions (entry _ _ (h.of_claims rfl rfl))

theorem limit (l : Option Nat) (h : SamePeers s t) : SamePeers s (adoptLimit l t) := by
  unfold adoptLimit
  split
  · split
    · unfold setLimit
      split
      · exact h
      · exact overcommit (h.of_claims rfl rfl)
    · exact h
  · exact h

theorem tundishBeacon (b : State) (h : SamePeers s t) : SamePeers s (beaconIfTundishChanged b t) := by
  unfold beaconIfTundishChanged
  split
  · exact h
  · exact h.beacon

theorem begin (e : Nat) (h : SamePeers s t) : SamePeers s (takeBegin e t) := by
  unfold takeBegin
  split
  · exact beacon (stop _ _ (h.of_claims rfl rfl))
  · exact h

theorem ready (e : Nat) (l : Option Nat) (h : SamePeers s t) : SamePeers s (takeReady e l t) := by
  unfold takeReady
  split
  · exact preconditions (tundishBeacon _ (limit _ (h.of_claims rfl rfl)))
  · split
    · exact preconditions (tundishBeacon _ (limit _ (h.of_claims rfl rfl)))
    · exact h

theorem repair (b : BeaconFields) (h : SamePeers s t) : SamePeers s (repairTundish b t) := by
  unfold repairTundish
  split
  · exact preconditions (tundishBeacon _ (limit _ (h.of_claims rfl rfl)))
  · split
    · split
      · exact h.ready _ _
      · exact h.begin _
    · split
      · exact h.ready _ _
      · exact h

theorem mismatch (k : Nat) (b : BeaconFields) (h : SamePeers s t) : SamePeers s (mismatchTest k b t) := by
  unfold mismatchTest
  split
  · exact h.of_claims rfl rfl
  · exact h

theorem drawBeacon (k : Nat) (b : BeaconFields) (h : SamePeers s t) : SamePeers s (drawBeacon k b t) :=
  drawView (overcommit (mismatch k b (repair b h)))

theorem beaconHolder (k : Nat) (b : BeaconFields) (h : SamePeers s t) : SamePeers s (beaconHolder k b t) := by
  unfold Machine.beaconHolder
  split
  · exact h.holder _
  · split
    · exact h.holder _
    · exact h

theorem stamped (b : State) (h : SamePeers s t) : SamePeers s (stampFault b t) := by
  rw [stampFault_does]
  exact h.of_claims rfl rfl

/-- Everything a BEACON sets off once its entry stands. -/
theorem takesBeacon (k : Nat) (b : BeaconFields) (s : State) :
    SamePeers (takeBeaconEntry k b s) (takeBeacon k b s) := by
  have hview : SamePeers (takeBeaconEntry k b s) (Machine.beaconHolder k b (takeBeaconEntry k b s)) :=
    (refl _).beaconHolder k b
  unfold takeBeacon
  dsimp only
  split
  · exact hview.retest.drawBeacon k b
  · exact hview.drawBeacon k b

end SamePeers

end Sys2Proof.Machine
end

section
/-! SUPPORT. What a BEACON makes of its sender's entry and of the view (R86, R102, R120, R131). -/

namespace Sys2Proof.Machine

theorem PeerEntry.missedAfter_eq (e : PeerEntry) (n : Nat) : e.missedAfter n =
    if (e.status = .live ∨ e.status = .suspect) ∧ n ≠ e.sequence then
      min 255 (e.missed + (n + 255 - e.sequence) % 256) else e.missed := by
  unfold PeerEntry.missedAfter sat255
  cases e.status <;> simp

theorem takeBeaconEntry_peers (k : Fin 8) (b : BeaconFields) (s : State) :
    (takeBeaconEntry k.val b s).pvu.peers = s.pvu.peers.set k (s.beaconEntry (s.peer k.val) b) := by
  unfold takeBeaconEntry
  rw [setPeer_fin]
  rfl

theorem takeBeaconEntry_peerEntries (k : Nat) (b : BeaconFields) (s : State) :
    (takeBeaconEntry k b s).peerEntries = s.peerEntries.filter (fun c => !(decide (c.station = k ∧
      ((c.kind = .draw ∧ c.number = b.settledDraw)
        ∨ (c.kind = .start ∧ (c.number = b.settledStart ∨ b.slotHeld = true)))))) := by
  have hclaims : (takeBeaconEntry k b s).pvu.claims = s.pvu.claims.filter (fun e => !finishedBy k b e) := rfl
  unfold State.peerEntries
  rw [hclaims, List.filter_filter, List.filter_filter]
  refine List.filter_congr fun e _ => ?_
  have hown : (takeBeaconEntry k b s).ownStation = s.ownStation := rfl
  rw [hown, finishedBy_eq]
  cases e.isOwn
  · simp [Bool.and_comm]
  · simp

theorem takeBeacon_entered (k : Nat) (b : BeaconFields) (s : State) :
    (takeBeacon k b s).pvu.peers = (takeBeaconEntry k b s).pvu.peers
    ∧ (takeBeacon k b s).spu.inputs = s.spu.inputs ∧ (takeBeacon k b s).pst = s.pst := by
  have hentry : (takeBeaconEntry k b s).spu = s.spu ∧ (takeBeaconEntry k b s).pst = s.pst := ⟨rfl, rfl⟩
  have hview : (beaconHolder k b (takeBeaconEntry k b s)).pvu.peers = (takeBeaconEntry k b s).pvu.peers
      ∧ (beaconHolder k b (takeBeaconEntry k b s)).spu = s.spu
      ∧ (beaconHolder k b (takeBeaconEntry k b s)).pst = s.pst := by
    unfold beaconHolder
    repeat' split
    all_goals simp [hentry]
  unfold takeBeacon drawBeacon
  dsimp only
  split <;> simp [hview]

/-- The sample of a BEACON that finds no claim of the own station to act on, up to the draw unit. -/
def State.beaconViewed (s : State) (k : Nat) (b : BeaconFields) : State :=
  (takeBeaconEntry k b s.heard).viewing (s.viewAfter k b)

theorem State.beaconViewed_does (s : State) (k : Nat) (b : BeaconFields) : ∃ p, s.beaconViewed k b = { s with
    pvu := p
    ssu := { s.ssu with
      holder := s.viewAfter k b
      clearSent := if s.viewAfter k b = s.ssu.holder then s.ssu.clearSent else false }
    lnc := if s.viewAfter k b = s.ssu.holder then s.heardLine else s.heardLine.dropClear } :=
  ⟨_, by rfl⟩

theorem execBeaconReceived_viewed {k : Nat} {b : BeaconFields} {s : State} (hr : s.rstLow = false)
    (hk : Hears s k) (h : s.ssu.claim ≠ .waiting) :
    exec (.beaconReceived k b) s = .next (stampFault s (drawBeacon k b (s.beaconViewed k b))) :=
  (execBeaconReceived_heard hr hk).trans
    (congrArg (fun u => Host.Outcome.next (stampFault s u)) (takeBeacon_idle (s := s.heard) h))

/-- Settles O56: the entry, the list and the peers' claims follow the entry of the BEACON; where no own claim
acts, what remains is the view and the tests of R86 and R100. -/
theorem aBeaconUpdatesItsEntryAndClaims : Obligations.a_beacon_updates_its_entry_and_claims := by
  refine ⟨fun k b s hr hk hlt => ?_, fun k b s hr hk hidle hlearned he hlt hp hm => ?_,
    fun k b s hr hk hidle hlearned he hlt hp hready hlocal hlim hsrc hmark => ?_⟩
  · obtain ⟨hpeers, hinputs, hpst⟩ := takeBeacon_entered k b s.heard
    have hothers := ((SamePeers.takesBeacon k b s.heard).stamped s).others
    refine ⟨_, execBeaconReceived_heard hr hk, ?_⟩
    rw [takeBeaconEntry_peers ⟨k, hlt⟩] at hpeers
    dsimp only
    refine ⟨?_, fun j hj => ?_, hothers.trans (takeBeaconEntry_peerEntries ..), ?_, ?_⟩
    · have hget : (stampFault s (takeBeacon k b s.heard)).peer k = s.beaconEntry (s.peer k) b := by
        rw [stampFault_does]
        unfold State.peer
        dsimp only
        rw [hpeers, Vector.getElem?_set_self]
        rfl
      rw [hget]
      unfold State.beaconEntry
      rw [PeerEntry.missedAfter_eq]
      rfl
    · rw [stampFault_does]
      dsimp only
      rw [hpeers]
      have hne : k ≠ j.val := Ne.symm hj
      simp [hne]
      rfl
    · rw [stampFault_does]
      exact hinputs
    · rw [stampFault_does]
      exact hpst
  · obtain ⟨hd, hs⟩ := hidle
    have hnone : ¬ ShowsMismatch b s := fun ⟨hl, hr, _, hph, hsrc, hne, hmark⟩ => by
      rcases hm with h | h | h | h | h | h
      · exact Bool.noConfusion (hl.symm.trans h)
      · exact hne h
      · rw [hsrc] at h
        exact nomatch h
      · exact Bool.noConfusion (hmark.symm.trans h)
      · exact Bool.noConfusion (hr.symm.trans h)
      · rw [hph] at h
        exact nomatch h
    have hquiet := drawBeacon_quiet (k := k) (s := s.beaconViewed k b) ⟨hlearned, he, hp⟩ hd hnone
    refine ⟨_, execBeaconReceived_viewed hr hk hs, ?_⟩
    rw [hquiet]
    obtain ⟨p, hview⟩ := s.beaconViewed_does k b
    generalize s.beaconViewed k b = v at hview
    have hmade := stampFault_weighed s v
    have hfault := stampFault_evalOvercommit (b := s) (s := v) (by rw [hview])
    generalize (stampFault s (evalOvercommit v)).cpn.fault = f at hmade hfault
    rw [hmade]
    subst hview
    exact ⟨rfl, hfault⟩
  · obtain ⟨hd, hs⟩ := hidle
    have hshows : ShowsMismatch b (s.beaconViewed k b) := ⟨hlocal, hready, he, hp, hsrc, hlim, hmark⟩
    have hdraw := drawBeacon_mismatch (k := k) (s := s.beaconViewed k b) ⟨hlearned, he, .inl hp⟩ hd hshows
    refine ⟨_, execBeaconReceived_viewed hr hk hs, ?_⟩
    rw [hdraw]
    obtain ⟨p, hview⟩ := s.beaconViewed_does k b
    generalize s.beaconViewed k b = v at hview
    have hmade := stampFault_weighed s (capture .limitMismatch k v.marked)
    have hfirst : FirstFault s (stampFault s (evalOvercommit (capture .limitMismatch k v.marked)))
        .limitMismatch k := fun hl => by
      obtain ⟨hcpn, hnow, hjoined⟩ : v.cpn = s.cpn ∧ v.now = s.now ∧ v.joinedAt = s.joinedAt := by
        rw [hview]
        exact ⟨rfl, rfl, rfl⟩
      obtain ⟨hkept, hlocked⟩ := faultKept_capture (k := .limitMismatch) (d := k) (s := v.marked) (by rw [← hl, ← hcpn]; rfl)
      exact firstFault_stamped (u := v.marked) (by rw [← hcpn]; rfl) hnow hjoined
        ((faultKept_traced hlocked).overcommit hkept) hl
    generalize stampFault s (evalOvercommit (capture .limitMismatch k v.marked)) = t at hmade hfirst
    refine ⟨?_, hfirst⟩
    generalize t.cpn.fault = f at hmade
    rw [hmade]
    subst hview
    rfl

end Sys2Proof.Machine
end

section
/-! SUPPORT. The tundish events (R80 to R85): a BEGIN and its stop, a READY and the preconditions it lets be
evaluated, and the first BEACON. -/

namespace Sys2Proof.Machine

/-! ### BEGIN (R82) -/

/-- The states in which a stop event is taken (R5). -/
abbrev TakesStop (s : State) : Prop :=
  mayPend s.rsq.state = true ∨ s.rsq.state = .watch ∨ s.rsq.state = .ramping ∨ s.rsq.state = .handback

theorem stopMet_taken {s : State} (c : Cause) (e : Option Nat) (h : TakesStop s) :
    ∃ u, s.stopMet c e = some u := by
  unfold State.stopMet
  cases hs : s.rsq.state <;> first | exact ⟨_, rfl⟩ | (rw [TakesStop, hs] at h; simp [mayPend] at h)

theorem stopMet_phase {s u : State} {c : Cause} {e : Option Nat} (h : s.stopMet c e = some u) :
    u.dbu = s.dbu ∧ (s.rsq.state = .watch → u = authorityTaken c e s) := by
  unfold State.stopMet at h
  split at h
  iterate 3 exact nomatch h
  · cases h
    exact ⟨rfl, fun _ => rfl⟩
  · next hs =>
    cases h
    exact ⟨rfl, fun hw => by rw [hs] at hw; exact nomatch hw⟩
  · next hs =>
    cases h
    exact ⟨rfl, fun hw => by rw [hs] at hw; exact nomatch hw⟩
  · next hs =>
    cases h
    exact ⟨by simp [causeMerged, pushContext], fun hw => by rw [hs] at hw; exact nomatch hw⟩
  · next hs =>
    cases h
    exact ⟨rfl, fun hw => by rw [hs] at hw; exact nomatch hw⟩

theorem mergeCause_tundish (s : State) (p : PendingSet) (e : Option Nat) :
    ∃ r, (s.mergeCause p .tundish e).tundish = some r ∧ r.epoch = e := by
  unfold State.mergeCause
  split
  · exact ⟨_, rfl, rfl⟩
  · exact ⟨_, rfl, rfl⟩

theorem authorityTaken_tundish (s : State) (e : Option Nat) :
    (authorityTaken .tundish e s).rsq.pendingSet.tundish = some (s.newRecord .tundish e) := by
  unfold authorityTaken
  dsimp only
  split <;> rfl

theorem stopMet_tundish {s u : State} {e : Option Nat} (h : s.stopMet .tundish e = some u) :
    ∃ r, u.rsq.pendingSet.tundish = some r ∧ r.epoch = e := by
  unfold State.stopMet at h
  split at h
  iterate 3 exact nomatch h
  · cases h
    exact ⟨_, authorityTaken_tundish s e, rfl⟩
  · cases h
    exact mergeCause_tundish ..
  · cases h
    exact mergeCause_tundish ..
  · cases h
    exact mergeCause_tundish ..
  · cases h
    exact ⟨_, rfl, rfl⟩

/-- A TUNDISH stop in phase OPEN finds its own precondition not met. -/
theorem stopEvent_tundish {s u : State} {e : Option Nat} (hp : s.dbu.phase = .opened)
    (h : s.stopMet .tundish e = some u) : stopEvent .tundish e s = stopEntry .tundish s u := by
  obtain ⟨r, hr, -⟩ := stopMet_tundish h
  obtain ⟨hstopped, -⟩ := State.stopMet_does h
  obtain ⟨hdbu, -⟩ := stopMet_phase h
  rw [stopEvent_eq, h]
  refine evalPreconditions_stays (by simp [hstopped]) (State.allMet_of_unmet (c := .tundish) (r := r) ?_ ?_)
  · simpa [PerCause.get] using hr
  · simp [State.preconditionMet, hdbu, hp]

theorem stopEvent_ignored {s : State} (c : Cause) (e : Option Nat)
    (h : s.rsq.state = .unjoined ∨ s.rsq.state = .parked ∨ s.rsq.state = .abandoned) : stopEvent c e s = s := by
  unfold stopEvent
  rcases h with h | h | h <;> rw [h]

/-- What a BEGIN of the newer epoch `e` makes of `s` (R82); where the stop is ignored, the sequencer stands under
the law `law`. -/
structure Began (law : Prop) (e : Nat) (s t : State) : Prop where
  epoch : t.dbu.epoch = e
  phase : t.dbu.phase = .opened
  learned : t.dbu.learned = true
  mismatch : t.dbu.mismatch = false
  limit : t.dbu.limit = s.dbu.limit
  asked : s.lnc.line = .active ∨ s.lnc.line = .deaf → t.lnc.beacon ≠ .empty
  ignored : law → s.rsq.state = .unjoined ∨ s.rsq.state = .parked ∨ s.rsq.state = .abandoned →
    t.rsq = s.rsq ∧ t.dbu.claim = s.dbu.claim
  stopped : TakesStop s → t.rsq.state = .stopped ∧ t.cpn.events.stopTaken = true
    ∧ (t.rsq.pendingSet.tundish.bind (·.epoch)) = some e
  watched : s.rsq.state = .watch → t.rsq.runReq = s.drvReady ∧ t.rsq.pendingSet.tundish = some
    { stopTime := s.now, deadline := (durationMs s.pst.causes.tundish.freezeCode).map (later s.now)
      epoch := some e, latch := none }

/-- The station with the newer epoch of a BEGIN, before the stop. -/
def State.tundishOpen (s : State) (e : Nat) : State :=
  { s with dbu := { s.dbu with epoch := e, phase := .opened, learned := true, mismatch := false } }

theorem takeBegin_newer {e : Nat} {s : State} (h : newerEpoch e s.dbu.epoch = true) :
    takeBegin e s = requestBeacon (stopEvent .tundish (some e) (s.tundishOpen e)) := if_pos h

theorem takeBegin_older {e : Nat} {s : State} (h : newerEpoch e s.dbu.epoch = false) : takeBegin e s = s :=
  if_neg (by simp [h])

theorem takeBegin_began {e : Nat} {s : State} (h : newerEpoch e s.dbu.epoch = true) :
    Began True e s (takeBegin e s) := by
  rw [takeBegin_newer h]
  have hopen : (s.tundishOpen e).dbu.phase = .opened := rfl
  exact {
    epoch := by
      simp
      rfl
    phase := by
      simp
      rfl
    learned := by
      simp
      rfl
    mismatch := by
      simp
      rfl
    limit := by
      simp
      rfl
    asked := fun hl => requestBeacon_beacon (by
      have hline : (s.tundishOpen e).lnc.line = s.lnc.line := rfl
      rcases hl with hl | hl <;> simp [hline, hl, LineState.allowsBeacon])
    ignored := fun _ hs => by
      rw [stopEvent_ignored (s := s.tundishOpen e) _ _ hs]
      exact ⟨rfl, rfl⟩
    stopped := fun hs => by
      obtain ⟨u, hu⟩ := stopMet_taken (s := s.tundishOpen e) .tundish (some e) hs
      obtain ⟨r, hr, he⟩ := stopMet_tundish hu
      obtain ⟨hstopped, -⟩ := State.stopMet_does hu
      rw [stopEvent_tundish hopen hu]
      refine ⟨by simpa using hstopped, stopEntry_told .., ?_⟩
      simp [hr, he]
    watched := fun hs => by
      obtain ⟨u, hu⟩ := stopMet_taken (s := s.tundishOpen e) .tundish (some e) (.inr (.inl hs))
      obtain ⟨-, hwatch⟩ := stopMet_phase hu
      obtain ⟨hstopped, -⟩ := State.stopMet_does hu
      obtain ⟨hentered, -⟩ := stopEntry_entered .tundish (s.tundishOpen e) (u := u) (by simp [hstopped])
      have hrun : u.rsq.runReq = s.drvReady := by
        rw [hwatch hs]
        rfl
      have htundish : u.rsq.pendingSet.tundish = some (s.newRecord .tundish (some e)) := by
        rw [hwatch hs, authorityTaken_tundish]
        rfl
      rw [stopEvent_tundish hopen hu]
      refine ⟨?_, ?_⟩
      · have hentry : (stopEntry .tundish (s.tundishOpen e) u).rsq.runReq
            = (u.rsq.runReq && decide (Cause.tundish ≠ Cause.dip)) :=
          (congrArg (fun r => r.runReq) hentered.rsq :)
        simp [hentry, hrun]
      · simp [htundish]
        rfl }

theorem Began.stamp {law : Prop} {e : Nat} {s t : State} (h : Began law e s t) (b : State) :
    Began law e s (stampFault b t) := by
  rw [stampFault_does]
  exact ⟨h.epoch, h.phase, h.learned, h.mismatch, h.limit, h.asked, h.ignored, h.stopped, h.watched⟩

/-- A BEGIN on a state `v` that differs from `s` in the line's counters and in the peers. -/
theorem Began.before {law : Prop} {e : Nat} {s v t : State} (h : Began law e v t) (hrsq : v.rsq = s.rsq) (hdbu : v.dbu = s.dbu)
    (hline : v.lnc.line = s.lnc.line) (hpst : v.pst = s.pst) (hnow : v.now = s.now) (hspu : v.spu = s.spu) :
    Began law e s t := by
  obtain ⟨hepoch, hphase, hlearned, hmis, hlim, hasked, hignored, hstopped, hwatched⟩ := h
  have hdrv : v.drvReady = s.drvReady := by
    unfold State.drvReady
    rw [hspu]
  rw [hdbu] at hlim
  rw [hline] at hasked
  rw [hrsq, hdbu] at hignored
  rw [TakesStop, hrsq] at hstopped
  rw [hrsq, hdrv, hpst, hnow] at hwatched
  exact ⟨hepoch, hphase, hlearned, hmis, hlim, hasked, hignored, hstopped, hwatched⟩

/-- An own DRAW claim stands only in QUEUED and RAMPING (R91). -/
abbrev ClaimsDrawOnWay (s : State) : Prop := s.dbu.claim ≠ .none → s.rsq.state = .queued ∨ s.rsq.state = .ramping

/-- The tests that follow a BEGIN shown by a BEACON leave what it has done. -/
theorem Began.viewed {e : Nat} {s t : State} (h : Began True e s t) :
    Began (ClaimsDrawOnWay s) e s (drawViewChange (evalOvercommit t)) := by
  obtain ⟨hepoch, hphase, hlearned, hmis, hlim, hasked, hignored, hstopped, hwatched⟩ := h
  refine ⟨by simpa, by simpa, by simpa, by simpa, by simpa, by simpa, fun hplaced hs => ?_, by simpa, by simpa⟩
  obtain ⟨hrsq, hclaim⟩ := hignored trivial hs
  have hnone : s.dbu.claim = .none := by
    by_contra hne
    rcases hplaced hne with hq | hq <;> rw [hq] at hs <;> simp at hs
  rw [drawViewChange_idle (.inl (by simp [hclaim, hnone]))]
  simp [hrsq, hclaim]

end Sys2Proof.Machine
end

section
/-! SUPPORT. A READY of the tundish (R83 to R85): the limit, the preconditions it lets be evaluated, and the
notices, which a precondition test does not raise but for the start of a ramp. -/

namespace Sys2Proof.Machine

/-! ### Notices through a precondition test (R7, R80, R181) -/

/-- STOP_TAKEN and LIMIT_CHANGED stand as they stood. -/
structure ToldAlike (s t : State) : Prop where
  stops : t.cpn.events.stopTaken = s.cpn.events.stopTaken
  limits : t.cpn.events.limitChanged = s.cpn.events.limitChanged

namespace ToldAlike

variable {s t u : State}

theorem of_events (h : t.cpn.events = s.cpn.events) : ToldAlike s t := ⟨by rw [h], by rw [h]⟩

theorem trans (h : ToldAlike s t) (k : ToldAlike t u) : ToldAlike s u :=
  ⟨k.stops.trans h.stops, k.limits.trans h.limits⟩

theorem ramping (s : State) : ToldAlike s (enterRamping s) :=
  ⟨by simp [enterRamping, notify, EventNotices.raise], by simp [enterRamping, notify, EventNotices.raise]⟩

theorem firstPoint (s : State) : ToldAlike s (firstPointTest s) := by
  have hneed : ToldAlike s (giveNeed (s.drawOf s.firstTarget - s.dbu.granted) s) := of_events (by simp)
  unfold firstPointTest
  dsimp only
  split
  · split
    · exact ramping s
    · split
      · exact of_events rfl
      · split
        · exact hneed.trans (ramping _)
        · exact hneed
  · exact of_events rfl

theorem drive (s : State) : ToldAlike s (driveTest s) := by
  unfold driveTest
  split
  · exact (of_events (by simp)).trans (firstPoint _)
  · exact of_events rfl

theorem slot (n : Nat) (s : State) : ToldAlike s (takeSlot n s) := (of_events (by simp)).trans (drive _)

theorem act (s : State) : ToldAlike s (actOnRequest s) := by
  unfold actOnRequest
  split
  · split
    · exact of_events rfl
    · split
      · exact slot _ s
      · exact of_events rfl
    · split
      · exact slot _ s
      · exact of_events rfl
    all_goals exact of_events rfl
  · exact of_events rfl

theorem queued (s : State) : ToldAlike s (enterQueued s) := by
  have hentered : ToldAlike s (refreshUrgency (requestBeacon { s with rsq := { s.rsq with state := .queued } })) :=
    of_events (by simp)
  unfold enterQueued
  dsimp only
  generalize refreshUrgency (requestBeacon { s with rsq := { s.rsq with state := .queued } }) = v at hentered ⊢
  split
  · exact hentered.trans (drive _)
  · have hreq : ToldAlike s { v with ssu := { v.ssu with request := true } } := ⟨hentered.stops, hentered.limits⟩
    exact hreq.trans (act _)

theorem preconditions (s : State) : ToldAlike s (evalPreconditions s) := by
  unfold evalPreconditions
  split
  · split
    · exact queued s
    · exact of_events rfl
  · split
    · exact of_events rfl
    · exact of_events (by simp [returnToStopped])
  all_goals exact of_events rfl

end ToldAlike

/-! ### The preconditions evaluated (R13, R14, R17) -/

theorem evalPreconditions_idle {s : State} (h : mayPend s.rsq.state = false) : evalPreconditions s = s := by
  unfold evalPreconditions
  split
  · next hs =>
    rw [hs] at h
    exact nomatch h
  · next hs =>
    rw [hs] at h
    exact nomatch h
  all_goals rfl

theorem allMet_of_nothing_pending {s : State} (h : s.rsq.pendingSet = PendingSet.empty) : s.allMet = true := by
  unfold State.allMet
  rw [h]
  rfl

/-- A precondition test in STOPPED stays there exactly where a precondition is not met. -/
theorem evalPreconditions_stopped {s : State} (hs : s.rsq.state = .stopped) :
    (evalPreconditions s).rsq.state = .stopped ↔ (evalPreconditions s).allMet = false := by
  cases hm : s.allMet
  · have hstay : evalPreconditions s = s := evalPreconditions_stays (by simp [hs]) hm
    simp [hstay, hs, hm]
  · have hleft := enterQueued_left s
    have hgo : evalPreconditions s = enterQueued s := evalPreconditions_leaves hs hm
    have hmet : (enterQueued s).allMet = true := by
      rcases hleft.went with ⟨-, hp, -⟩ | ⟨-, hp, -⟩
      · have hkept := evalPreconditions_keeps s
        rw [hgo] at hkept
        obtain ⟨-, -, -, -, -, -, -, -, -, -, -, -, -, hepoch, hphase, -⟩ := hkept
        have hspu : (enterQueued s).spu = s.spu := (congrArg State.spu hleft.same :)
        rw [← hm]
        exact State.allMet_congr hp hphase hepoch (by unfold State.filtered; rw [hspu])
          (by unfold State.filtered; rw [hspu])
      · exact allMet_of_nothing_pending hp
    have hstate : (enterQueued s).rsq.state ≠ .stopped := by
      rcases hleft.went with ⟨hq, -⟩ | ⟨hq, -⟩ <;> simp [hq]
    simp [hgo, hmet, hstate]

theorem evalPreconditions_asked {s : State} (hl : s.lnc.line.allowsBeacon = true) (ha : Asked s) :
    Asked (evalPreconditions s) := by
  unfold evalPreconditions
  split
  · split
    · exact Asked.queued hl
    · exact ha
  · split
    · exact ha
    · exact Asked.urgency (requestBeacon_beacon (by simpa using hl))
  all_goals exact ha

/-! ### READY (R80, R83, R84) -/

/-- L as a READY or a BEACON that offers the limit `l` leaves it (R80). -/
def State.newLimit (s : State) (l : Option Nat) : Nat :=
  if s.pst.strand.limitSource = .line then l.getD s.dbu.limit else s.dbu.limit

theorem adoptLimit_does (l : Option Nat) (s : State) :
    (adoptLimit l s).dbu.limit = s.newLimit l
    ∧ (s.newLimit l ≠ s.dbu.limit → (adoptLimit l s).cpn.events.limitChanged = true)
    ∧ (adoptLimit l s).cpn.events.stopTaken = s.cpn.events.stopTaken := by
  unfold adoptLimit State.newLimit
  cases l with
  | none => simp
  | some l =>
    by_cases hsrc : s.pst.strand.limitSource = .line
    · rw [if_pos hsrc]
      dsimp only
      rw [if_pos hsrc]
      unfold setLimit
      split
      · next hl => simp [hl]
      · simp [notify, EventNotices.raise]
    · rw [if_neg hsrc]
      dsimp only
      rw [if_neg hsrc]
      simp

/-- What a READY of epoch `e` that leaves L at `new` makes of `s` (R83, R84). -/
structure Readied (e new : Nat) (s t : State) : Prop where
  epoch : t.dbu.epoch = e
  phase : t.dbu.phase = .ready
  limit : t.dbu.limit = new
  learned : t.dbu.learned = (s.dbu.learned || decide (e ≠ s.dbu.epoch))
  changed : new ≠ s.dbu.limit → t.cpn.events.limitChanged = true
  idle : mayPend s.rsq.state = false → t.rsq.state = s.rsq.state
  stack : t.rsq.stack = s.rsq.stack
  speed : t.rsq.speed = s.rsq.speed
  told : t.cpn.events.stopTaken = s.cpn.events.stopTaken
  met : s.rsq.state = .stopped → (t.rsq.state = .stopped ↔ t.allMet = false)
  asked : s.lnc.line.allowsBeacon = true → e ≠ s.dbu.epoch ∨ s.dbu.phase = .opened → Asked t

/-- The station with the epoch `e` and the phase READY, before its limit. -/
def State.tundishReady (s : State) (e : Nat) : State :=
  { s with dbu := if e = s.dbu.epoch then { s.dbu with phase := .ready }
    else { s.dbu with epoch := e, phase := .ready, learned := true, mismatch := false } }

theorem takeReady_eq {e : Nat} {l : Option Nat} {s : State} (h : e = s.dbu.epoch ∨ newerEpoch e s.dbu.epoch = true) :
    takeReady e l s
      = evalPreconditions (beaconIfTundishChanged s (adoptLimit l (s.tundishReady e))) := by
  unfold takeReady State.tundishReady
  by_cases he : e = s.dbu.epoch
  · rw [if_pos he, if_pos he]
  · rw [if_neg he, if_neg he, if_pos (h.resolve_left he)]

theorem takeReady_older {e : Nat} {l : Option Nat} {s : State} (he : e ≠ s.dbu.epoch)
    (h : newerEpoch e s.dbu.epoch = false) : takeReady e l s = s := by
  unfold takeReady
  rw [if_neg he, if_neg (by simp [h])]

theorem tundishReady_dbu (s : State) (e : Nat) : (s.tundishReady e).dbu.epoch = e
    ∧ (s.tundishReady e).dbu.phase = .ready ∧ (s.tundishReady e).dbu.limit = s.dbu.limit
    ∧ (s.tundishReady e).dbu.learned = (s.dbu.learned || decide (e ≠ s.dbu.epoch)) := by
  unfold State.tundishReady
  dsimp only
  split
  · next he => simp [he]
  · next he => simp [he]

theorem beaconIfTundishChanged_asked {b t : State} (hl : t.lnc.line.allowsBeacon = true)
    (h : b.dbu.epoch ≠ t.dbu.epoch ∨ b.dbu.phase ≠ t.dbu.phase) : Asked (beaconIfTundishChanged b t) := by
  unfold beaconIfTundishChanged
  rw [if_neg fun ⟨he, hp, _⟩ => h.elim (· he) (· hp)]
  exact requestBeacon_beacon hl

theorem takeReady_readied {e : Nat} {l : Option Nat} {s : State}
    (h : e = s.dbu.epoch ∨ newerEpoch e s.dbu.epoch = true) : Readied e (s.newLimit l) s (takeReady e l s) := by
  rw [takeReady_eq h]
  obtain ⟨hepoch, hphase, hlimit, hlearned⟩ := tundishReady_dbu s e
  obtain ⟨hnew, hchanged, htold⟩ := adoptLimit_does l (s.tundishReady e)
  have hsame : (s.tundishReady e).newLimit l = s.newLimit l := by
    unfold State.newLimit
    rw [hlimit]
    rfl
  have hrsq : (s.tundishReady e).rsq = s.rsq := rfl
  have hevents : (s.tundishReady e).cpn = s.cpn := rfl
  have hline : (s.tundishReady e).lnc = s.lnc := rfl
  rw [hsame] at hnew hchanged
  rw [hlimit] at hchanged
  rw [hevents] at htold
  obtain ⟨hstops, hlimits⟩ :=
    ToldAlike.preconditions (beaconIfTundishChanged s (adoptLimit l (s.tundishReady e)))
  exact {
    epoch := by simp [hepoch]
    phase := by simp [hphase]
    limit := by simp [hnew]
    learned := by simp [hlearned]
    changed := fun hne => by
      rw [hlimits]
      simpa using hchanged hne
    idle := fun hs => by
      rw [evalPreconditions_idle (by simp [hrsq, hs])]
      simp [hrsq]
    stack := by simp [hrsq]
    speed := by simp [hrsq]
    told := by
      rw [hstops]
      simpa using htold
    met := fun hs => evalPreconditions_stopped (by simp [hrsq, hs])
    asked := fun hl hne => evalPreconditions_asked (by simp [hline, hl])
      (beaconIfTundishChanged_asked (by simp [hline, hl]) (by
        simp only [adoptLimit_keeps, hepoch, hphase]
        rcases hne with hne | hp
        · exact .inl (Ne.symm hne)
        · exact .inr (by simp [hp]))) }

theorem Readied.stamp {e new : Nat} {s t : State} (h : Readied e new s t) (b : State) :
    Readied e new s (stampFault b t) := by
  rw [stampFault_does]
  exact ⟨h.epoch, h.phase, h.limit, h.learned, h.changed, h.idle, h.stack, h.speed, h.told, h.met, h.asked⟩

theorem Readied.before {e new : Nat} {s v t : State} (h : Readied e new v t) (hrsq : v.rsq = s.rsq)
    (hdbu : v.dbu = s.dbu) (hline : v.lnc.line = s.lnc.line) (hevents : v.cpn = s.cpn) : Readied e new s t := by
  obtain ⟨hepoch, hphase, hlimit, hlearned, hchanged, hidle, hstack, hspeed, htold, hmet, hasked⟩ := h
  rw [hdbu] at hlearned hchanged hasked
  rw [hrsq] at hidle hstack hspeed hmet
  rw [hevents] at htold
  rw [hline] at hasked
  exact ⟨hepoch, hphase, hlimit, hlearned, hchanged, hidle, hstack, hspeed, htold, hmet, hasked⟩

/-- What leaves the sequencer's place, the tundish values, the inputs, the notices and a beacon asked for leaves
what a READY has done. -/
theorem Readied.after {e new : Nat} {s t u : State} (h : Readied e new s t)
    (hr : u.rsq.state = t.rsq.state ∧ u.rsq.pendingSet = t.rsq.pendingSet ∧ u.rsq.stack = t.rsq.stack
      ∧ u.rsq.speed = t.rsq.speed)
    (hd : u.dbu.epoch = t.dbu.epoch ∧ u.dbu.phase = t.dbu.phase ∧ u.dbu.limit = t.dbu.limit
      ∧ u.dbu.learned = t.dbu.learned)
    (hi : u.spu.inputs = t.spu.inputs) (he : u.cpn.events = t.cpn.events) (hb : u.lnc.beacon = t.lnc.beacon) :
    Readied e new s u := by
  obtain ⟨hstate, hpend, hstack, hspeed⟩ := hr
  obtain ⟨hepoch, hphase, hlimit, hlearned⟩ := hd
  have hmet : u.allMet = t.allMet := State.allMet_congr hpend hphase hepoch
    (by unfold State.filtered; rw [hi]) (by unfold State.filtered; rw [hi])
  exact {
    epoch := hepoch.trans h.epoch
    phase := hphase.trans h.phase
    limit := hlimit.trans h.limit
    learned := hlearned.trans h.learned
    changed := fun hne => by
      rw [he]
      exact h.changed hne
    idle := fun hs => hstate.trans (h.idle hs)
    stack := hstack.trans h.stack
    speed := hspeed.trans h.speed
    told := by
      rw [he]
      exact h.told
    met := fun hs => by
      rw [hstate, hmet]
      exact h.met hs
    asked := fun hl hne => .of_line hb (h.asked hl hne) }

theorem Readied.viewed {e new : Nat} {s t : State} (h : Readied e new s t) :
    Readied e new s (drawViewChange t) := h.after (by simp) (by simp) (by simp) (by simp) (by simp)

theorem takeReadyEvent_readied {e l : Nat} {s : State} (h : e = s.dbu.epoch ∨ newerEpoch e s.dbu.epoch = true) :
    Readied e (s.newLimit (some l)) s (takeReadyEvent e l s) := by
  have hready := takeReady_readied (l := some l) h
  unfold takeReadyEvent
  dsimp only
  split
  · exact hready
  · exact hready.viewed

end Sys2Proof.Machine
end

section
/-! SUPPORT. The BEACON that shows a BEGIN, a READY or the first epoch, and the statement of the tundish events
(R82 to R85). -/

namespace Sys2Proof.Machine

/-- A BEACON comes to DBU with the sequencer, the tundish values, the notices and the inputs as they were. -/
theorem takeBeacon_steps (k : Nat) (b : BeaconFields) (s : State) : ∃ v, takeBeacon k b s = drawBeacon k b v
    ∧ v.rsq = s.rsq ∧ v.dbu = s.dbu ∧ v.lnc.line = s.lnc.line ∧ v.pst = s.pst ∧ v.now = s.now ∧ v.spu = s.spu
    ∧ v.cpn = s.cpn := by
  have hview : ∀ u : State, (beaconHolder k b u).rsq = u.rsq ∧ (beaconHolder k b u).dbu = u.dbu
      ∧ (beaconHolder k b u).lnc.line = u.lnc.line ∧ (beaconHolder k b u).pst = u.pst
      ∧ (beaconHolder k b u).now = u.now ∧ (beaconHolder k b u).spu = u.spu
      ∧ (beaconHolder k b u).cpn = u.cpn := fun u => by
    unfold beaconHolder
    repeat' split
    all_goals simp
  obtain ⟨hrsq, hdbu, hline, hpst, hnow, hspu, hcpn⟩ := hview (takeBeaconEntry k b s)
  unfold takeBeacon
  dsimp only
  split
  · refine ⟨_, rfl, ?_⟩
    simp only [retestStart_keeps]
    exact ⟨hrsq, hdbu, hline, hpst, hnow, hspu, hcpn⟩
  · exact ⟨_, rfl, hrsq, hdbu, hline, hpst, hnow, hspu, hcpn⟩

theorem drawBeacon_begins {k : Nat} {b : BeaconFields} {s : State} (hl : s.dbu.learned = true)
    (hn : newerEpoch b.epoch s.dbu.epoch = true) (hp : b.phaseReady = false) :
    Began (ClaimsDrawOnWay s) b.epoch s (drawBeacon k b s) := by
  have hrepair : repairTundish b s = takeBegin b.epoch s := by
    unfold repairTundish
    rw [if_neg (by simp [hl]), if_pos hn, if_neg (by simp [hp])]
  have hbegan := takeBegin_began hn
  have hmis : mismatchTest k b (takeBegin b.epoch s) = takeBegin b.epoch s :=
    if_neg fun ⟨_, hready, _⟩ => Bool.noConfusion (hready.symm.trans hp)
  unfold drawBeacon
  rw [hrepair, hmis]
  exact hbegan.viewed

theorem State.newLimit_beacon (s : State) (b : BeaconFields) : s.newLimit (beaconLimit b)
    = if s.pst.strand.limitSource = .line ∧ b.limitLocal = false then b.limit else s.dbu.limit := by
  unfold State.newLimit beaconLimit
  cases b.limitLocal <;> simp

theorem drawBeacon_readies {k : Nat} {b : BeaconFields} {s : State} (hl : s.dbu.learned = true)
    (hp : b.phaseReady = true)
    (hn : newerEpoch b.epoch s.dbu.epoch = true ∨ (b.epoch = s.dbu.epoch ∧ s.dbu.phase = .opened)) :
    Readied b.epoch (s.newLimit (beaconLimit b)) s (drawBeacon k b s) := by
  have hrepair : repairTundish b s = takeReady b.epoch (beaconLimit b) s := by
    unfold repairTundish
    rw [if_neg (by simp [hl])]
    by_cases hnew : newerEpoch b.epoch s.dbu.epoch = true
    · rw [if_pos hnew, if_pos hp]
    · obtain ⟨he, ho⟩ := hn.resolve_left hnew
      rw [if_neg hnew, if_pos ⟨he, hp, ho⟩]
  have hready := takeReady_readied (l := beaconLimit b) (hn.symm.imp_left And.left)
  have htested : Readied b.epoch (s.newLimit (beaconLimit b)) s
      (evalOvercommit (mismatchTest k b (takeReady b.epoch (beaconLimit b) s))) := by
    refine hready.after ?_ ?_ ?_ ?_ ?_
    · simp only [evalOvercommit_keeps, mismatchTest_keeps, and_self]
    · simp only [evalOvercommit_keeps, mismatchTest_keeps, and_self]
    · simp only [evalOvercommit_keeps, mismatchTest_keeps]
    · simp only [evalOvercommit_keeps, mismatchTest_keeps]
    · simp only [evalOvercommit_keeps, mismatchTest_keeps]
  unfold drawBeacon
  rw [hrepair]
  exact htested.viewed

/-- What the first BEACON makes of the tundish values (R85). -/
theorem drawBeacon_adopts {k : Nat} {b : BeaconFields} {s : State} (hl : s.dbu.learned = false) :
    (drawBeacon k b s).dbu.epoch = b.epoch
    ∧ (drawBeacon k b s).dbu.phase = (if b.phaseReady then .ready else .opened)
    ∧ (drawBeacon k b s).dbu.learned = true
    ∧ (drawBeacon k b s).dbu.limit = s.newLimit (beaconLimit b)
    ∧ (mayPend s.rsq.state = false → (drawBeacon k b s).rsq.state = s.rsq.state) := by
  have hrepair : repairTundish b s = adoptEpoch b s := if_pos hl
  unfold drawBeacon
  rw [hrepair]
  unfold adoptEpoch
  generalize hw : ({ s with dbu := { s.dbu with
    epoch := b.epoch, phase := beaconPhase b, learned := true
    mismatch := s.dbu.mismatch && decide (b.epoch = s.dbu.epoch) } } : State) = w
  obtain ⟨hnew, -, -⟩ := adoptLimit_does (beaconLimit b) w
  have hlimit : w.newLimit (beaconLimit b) = s.newLimit (beaconLimit b) := by
    rw [← hw]
    rfl
  obtain ⟨hepoch, hphase, hlearned, hrsq⟩ : w.dbu.epoch = b.epoch ∧ w.dbu.phase = beaconPhase b
      ∧ w.dbu.learned = true ∧ w.rsq = s.rsq := by
    rw [← hw]
    exact ⟨rfl, rfl, rfl, rfl⟩
  refine ⟨by simp [hepoch], by simp [hphase, beaconPhase], by simp [hlearned], by simp [hnew, hlimit],
    fun hs => ?_⟩
  simp only [drawViewChange_keeps, evalOvercommit_keeps, mismatchTest_keeps]
  rw [evalPreconditions_idle (by simp [hrsq, hs])]
  simp [hrsq]

/-- Settles O57: each way a BEGIN or a READY comes leads to `Began` or `Readied` of the state it meets. -/
theorem tundishEventsAndRepairsMoveTheEpoch : Obligations.tundish_events_and_repairs_move_the_epoch := by
  refine ⟨fun k e s hr hk hn => ?_, fun e n m s hr htx hn => ?_, fun k e s hr hk hn => ?_,
    fun k e l s hr hk hn => ?_, fun e l n m s hr htx hn => ?_, fun k e l s hr hk he hn => ?_,
    fun k e b s hr hk hl hn he hp => ?_, fun k b s hr hk hl => ?_, fun k b s hr hk hl hp hn => ?_⟩
  · have h := ((takeBegin_began (s := s.heard) hn).before (s := s) rfl rfl s.heardLine_line rfl rfl rfl).stamp s
    exact ⟨_, row_heard (takeBegin e) hr hk, h.epoch, h.phase, h.learned, h.mismatch, h.limit, h.asked,
      fun hs => (h.ignored trivial hs).1, h.stopped, h.watched⟩
  · have h := ((takeBegin_began (s := s.freed) hn).before (s := s) rfl rfl rfl rfl rfl rfl).stamp s
    exact ⟨_, execOwnFrameEnd_sending hr htx, h.epoch, h.phase, h.learned, h.mismatch, h.limit, h.asked,
      fun hs => (h.ignored trivial hs).1, h.stopped, h.watched⟩
  · exact row_heard_of_fault hr hk (takeBegin_older (s := s.heard) hn) rfl
  · have h := ((takeReadyEvent_readied (l := l) (s := s.heard) hn).before (s := s) rfl rfl s.heardLine_line rfl).stamp s
    exact ⟨_, row_heard (takeReadyEvent e l) hr hk, h.epoch, h.phase, h.limit, h.learned, h.changed, h.idle,
      h.stack, h.speed⟩
  · have h := ((takeReadyEvent_readied (l := l) (s := s.freed) hn).before (s := s) rfl rfl rfl rfl).stamp s
    exact ⟨_, execOwnFrameEnd_sending hr htx, h.epoch, h.phase, h.limit, h.learned, h.changed, h.idle,
      h.stack, h.speed⟩
  · have hold : takeReadyEvent e l s.heard = s.heard := by
      unfold takeReadyEvent
      rw [takeReady_older (s := s.heard) he hn]
      exact if_pos rfl
    exact row_heard_of_fault hr hk hold rfl
  · obtain ⟨v, hv, hrsq, hdbu, hline, hpst, hnow, hspu, -⟩ := takeBeacon_steps k b s.heard
    subst he
    have h := ((drawBeacon_begins (k := k) (s := v) (hdbu ▸ hl) (hdbu ▸ hn) hp).before (s := s) hrsq hdbu
      (hline.trans s.heardLine_line) hpst hnow hspu).stamp s
    refine ⟨_, execBeaconReceived_heard hr hk, ?_⟩
    rw [hv]
    exact ⟨h.epoch, h.phase, h.learned, h.mismatch, h.limit, h.asked,
      fun hplaced hs => (h.ignored (by rw [ClaimsDrawOnWay, hdbu, hrsq]; exact hplaced.2.1) hs).1, h.stopped, h.watched⟩
  · obtain ⟨v, hv, hrsq, hdbu, -, hpst, -⟩ := takeBeacon_steps k b s.heard
    obtain ⟨hepoch, hphase, hlearned, hlimit, hidle⟩ := drawBeacon_adopts (k := k) (b := b) (s := v) (hdbu ▸ hl)
    have hnew : v.newLimit (beaconLimit b) = s.newLimit (beaconLimit b) := by
      unfold State.newLimit
      rw [hdbu, hpst]
      rfl
    refine ⟨_, execBeaconReceived_heard hr hk, ?_⟩
    rw [hv, stampFault_does]
    exact ⟨hepoch, hphase, hlearned, hlimit.trans (hnew.trans (s.newLimit_beacon b)), hrsq ▸ hidle⟩
  · obtain ⟨v, hv, hrsq, hdbu, hline, hpst, -, -, hcpn⟩ := takeBeacon_steps k b s.heard
    have hnew : v.newLimit (beaconLimit b) = s.newLimit (beaconLimit b) := by
      unfold State.newLimit
      rw [hdbu, hpst]
      rfl
    have h := ((drawBeacon_readies (k := k) (s := v) (hdbu ▸ hl) hp (hdbu ▸ hn)).before (s := s) hrsq hdbu
      (hline.trans s.heardLine_line) hcpn).stamp s
    rw [hnew, s.newLimit_beacon] at h
    refine ⟨_, execBeaconReceived_heard hr hk, ?_⟩
    rw [hv]
    refine ⟨h.epoch, h.phase, h.limit, ?_, h.changed, h.idle, h.met, h.told, h.stack, h.speed, fun ha => h.asked ha ?_⟩
    · rw [h.learned, hl]
      rfl
    · refine hn.imp (fun hnewer he => ?_) And.right
      rw [he, newerEpoch_self] at hnewer
      exact nomatch hnewer

end Sys2Proof.Machine
end

section
/-! SUPPORT. The sample records of the strand port (R34, R78, R114, R156, R160, R161). -/

namespace Sys2Proof.Machine

/-- The station holding the values of a valid record. -/
def State.sampleHeld (s : State) (f level : Nat) : State :=
  { s with spu := { s.spu with
    feedback := { value := min f 8000, takenAt := some s.now, fresh := true }
    level := { value := min level 4095, takenAt := some s.now, fresh := true }
    staleMark := false, search := none } }

theorem readSample_length {bytes : List Byte} {fault : Bool} {f level : Nat}
    (h : readSample bytes fault = some (f, level)) : bytes.length = 6 := by
  unfold readSample at h
  split at h
  · rfl
  · exact nomatch h

theorem recordLost_found {s : State} (h : Found s) : s.recordLost 6 = false := by
  unfold State.recordLost
  split
  · next q hq =>
    have hle : 80 * 10000 ≤ q * 2304 := by simpa [Found, hq] using h
    simpa [recordSearched] using hle
  · rfl

theorem recordLost_searching {s : State} {n : Nat} (h : Searching s n) : s.recordLost n = true := by
  cases hq : s.spu.search with
  | none =>
    rw [Searching, hq] at h
    exact nomatch h
  | some q =>
    rw [Searching, hq, Option.any_some] at h
    have hshort : recordSearched n q = false := decide_eq_false (Nat.not_le.2 (of_decide_eq_true h))
    rw [State.recordLost, hq]
    dsimp only
    rw [hshort]
    rfl

theorem execSampleRecord_held {bytes : List Byte} {fault : Bool} {f level : Nat} {s : State}
    (hr : s.rstLow = false) (h : readSample bytes fault = some (f, level)) (hf : Found s) :
    exec (.sampleRecord bytes fault) s = .next (stampFault s (giveFeedback (s.sampleHeld f level))) := by
  have hlen := readSample_length h
  have hheld : giveFeedback { s with spu := Spu.hold { s.spu with search := none } s.now f level }
      = giveFeedback (s.sampleHeld f level) := by
    unfold Spu.hold Config.maxSpeed Config.gaugeFault State.sampleHeld
    rfl
  have htaken := (recordEnd_taken (by rw [hlen]; exact recordLost_found hf) h).trans hheld
  have hne : (!bytes.isEmpty) = true := by
    cases bytes
    · exact nomatch hlen
    · rfl
  exact (row_next hr hne).trans (congrArg (fun u => Host.Outcome.next (stampFault s u)) htaken)

/-- A fresh F is fresh in the moment it is held. -/
theorem sampleHeld_fresh {s : State} (f level : Nat) (h : 0 < s.pst.strand.staleTime) :
    (s.sampleHeld f level).isFresh (s.sampleHeld f level).spu.feedback = true := by
  unfold State.isFresh State.sampleHeld ageAt
  simpa using h

theorem sampleHeld_creep {s : State} {f level : Nat} (h : 0 < s.pst.strand.staleTime)
    (hc : s.pst.strand.creepThreshold ≤ min f 8000) : (s.sampleHeld f level).creep = true := by
  unfold State.creep
  rw [sampleHeld_fresh f level h]
  exact decide_eq_true hc

theorem sampleHeld_no_creep {s : State} {f level : Nat} (hc : min f 8000 < s.pst.strand.creepThreshold) :
    (s.sampleHeld f level).creep = false := by
  have hle : ¬ (s.sampleHeld f level).pst.strand.creepThreshold ≤ (s.sampleHeld f level).spu.feedback.value :=
    Nat.not_le.2 hc
  unfold State.creep
  rw [decide_eq_false hle, Bool.and_false]

theorem giveFeedback_tracks {s : State} (h : s.rsq.state = .parked ∨ s.rsq.state = .watch) :
    giveFeedback s = tenureCreepTest (trackFeedback s) := by
  unfold giveFeedback
  rcases h with h | h <;> rw [h]

theorem giveFeedback_tests {s : State} (hp : s.rsq.state ≠ .parked) (hw : s.rsq.state ≠ .watch) :
    giveFeedback s = tenureCreepTest (creepTest s) := by
  unfold giveFeedback
  split
  · next h => exact absurd h hp
  · next h => exact absurd h hw
  all_goals rfl

theorem tenureCreepTest_stays {s : State} (h : s.ssu.tenure = false ∨ s.creep = false) : tenureCreepTest s = s :=
  if_neg (by rcases h with h | h <;> simp [h])

theorem tenureCreepTest_ends {s : State} (ht : s.ssu.tenure = true) (hc : s.creep = true) :
    tenureCreepTest s = endTenure .creep s := if_pos (by simp [ht, hc])

/-! ### The RELEASE at the end of a tenure (R114, R142) -/

/-- A frame stays in the queue while a frame of another slot, no WITHDRAW, is queued. -/
theorem Lnc.queueFrame_mem {l : Lnc} {f g : QueuedFrame} (hf : f ∈ l.queue) (hs : f.slot ≠ g.slot)
    (hw : ∀ k n, g ≠ .withdraw k n) : f ∈ (l.queueFrame g).queue := by
  unfold Lnc.queueFrame
  split
  · split
    · exact absurd rfl (hw _ _)
    · exact (putFrame_other hs).2 hf
  · exact hf

theorem endTenure_queued {s : State} (reason : ReleaseReason) (ht : s.ssu.tenure = true)
    (hl : s.lnc.line.allowsBeacon = true) :
    .release reason ∈ (endTenure reason s).lnc.queue ∧ (endTenure reason s).lnc.beacon ≠ .empty := by
  have hput : QueuedFrame.release reason ∈ (s.lnc.queueFrame (.release reason)).queue := by
    rw [queueFrame_release s reason ht, State.releaseQueued, if_pos ⟨ht, hl⟩]
    exact putFrame_mem _ _
  have hclear : QueuedFrame.release reason ∈ (s.lnc.queueFrame (.release reason)).dropClear.queue :=
    List.mem_filter.mpr ⟨hput, by simp [QueuedFrame.slot]⟩
  rw [endTenure_steps reason ht]
  split
  · refine ⟨?_, requestBeacon_beacon (by simpa using hl)⟩
    simp only [requestBeacon_keeps]
    unfold retestStart
    split
    · exact Lnc.queueFrame_mem hclear (by simp [State.startFrame, QueuedFrame.slot]) (by simp [State.startFrame])
    · exact hclear
  · refine ⟨?_, State.lineReleased_beacon hl reason⟩
    next hh =>
      have hq : ∀ l : Lnc, l.requestBeacon.queue = l.queue := by simp
      rw [State.lineReleased, if_neg hh, hq]
      exact hput

theorem State.creep_congr {s t : State} (hspu : t.spu = s.spu) (hnow : t.now = s.now) (hpst : t.pst = s.pst) :
    t.creep = s.creep := by
  unfold State.creep State.isFresh
  rw [hspu, hnow, hpst]

theorem tenureCreepTest_cpn (s : State) : (tenureCreepTest s).cpn = s.cpn := by
  unfold tenureCreepTest
  split <;> simp

theorem State.computeUrgency_of_rsq {s t : State} (hrsq : t.rsq = s.rsq) (hnow : t.now = s.now)
    (hpst : t.pst = s.pst) : t.computeUrgency = s.computeUrgency :=
  State.computeUrgency_congr (by rw [hrsq]) (by rw [hrsq]) (by rw [hrsq]) (by rw [hrsq]) (by rw [hrsq])
    (by rw [hrsq]) hnow hpst

/-- The test of a tenure once the freeze has been met, where F is at or above the creep threshold. -/
theorem tenureCreepTest_does {s : State} (hc : s.creep = true) :
    (tenureCreepTest s).ssu.tenure = false
    ∧ (s.ssu.tenure = true → s.lnc.line.allowsBeacon = true →
      .release .creep ∈ (tenureCreepTest s).lnc.queue ∧ (tenureCreepTest s).lnc.beacon ≠ .empty) := by
  cases ht : s.ssu.tenure
  · rw [tenureCreepTest_stays (.inl ht)]
    exact ⟨ht, fun h => nomatch h⟩
  · rw [tenureCreepTest_ends ht hc]
    exact ⟨endTenure_tenure .., fun _ hl => endTenure_queued .creep ht hl⟩

theorem tenureCreepTest_keeps (s : State) : tenureCreepTest s = { s with
      ssu := (tenureCreepTest s).ssu, pvu := (tenureCreepTest s).pvu, lnc := (tenureCreepTest s).lnc }
    ∧ (tenureCreepTest s).pvu.peers = s.pvu.peers := by
  by_cases h : s.ssu.tenure = true ∧ s.creep = true
  · obtain ⟨c, settle, p, q, hends, -⟩ := endTenure_form .creep h.1
    rw [tenureCreepTest_ends h.1 h.2]
    refine ⟨?_, by simp⟩
    rw [hends]
  · have hstay : tenureCreepTest s = s := if_neg (by simpa using h)
    rw [hstay]
    exact ⟨rfl, rfl⟩

/-- What F at or above the creep threshold makes of a ramp whose freeze it meets (R34, R114). -/
structure MeetsFreeze (s t : State) : Prop where
  same : t = { s with rsq := t.rsq, dbu := t.dbu, ssu := t.ssu, pvu := t.pvu, lnc := t.lnc }
  rsq : t.rsq = { s.freezeMet.rsq with urgency := t.computeUrgency }
  draw : t.dbu.granted = s.dbu.granted ∧ t.dbu.need = s.dbu.need
  peers : t.pvu.peers = s.pvu.peers
  ended : t.ssu.tenure = false
  released : s.ssu.tenure = true → s.lnc.line.allowsBeacon = true →
    .release .creep ∈ t.lnc.queue ∧ t.lnc.beacon ≠ .empty

theorem giveFeedback_meets {s : State} (h : CreepMet s) : MeetsFreeze s (giveFeedback s) := by
  obtain ⟨hs, hcreep, hm⟩ := h
  have hgive : giveFeedback s = tenureCreepTest (refreshUrgency s.freezeMet) := by
    rw [giveFeedback_tests (by simp [hs]) (by simp [hs]), creepTest_meets ⟨hs, hcreep, hm⟩]
  have hcreep' : (refreshUrgency s.freezeMet).creep = true := by
    rw [State.creep_congr (s := s.freezeMet) (by simp) (by simp) (by simp)]
    exact hcreep
  obtain ⟨hform, hpeers⟩ := tenureCreepTest_keeps (refreshUrgency s.freezeMet)
  obtain ⟨hended, hrel⟩ := tenureCreepTest_does hcreep'
  have hrsq := refreshUrgency_rsq s.freezeMet
  have hurgency := refreshUrgency_computeUrgency s.freezeMet
  rw [hgive]
  exact {
    same := by
      have hall := State.of_blocks (s := s) (t := tenureCreepTest (refreshUrgency s.freezeMet)) (by
        rw [hform]
        simp [State.freezeMet])
      have hcpn : (tenureCreepTest (refreshUrgency s.freezeMet)).cpn = s.cpn := by
        rw [hform]
        simp [State.freezeMet]
      rwa [hcpn] at hall
    rsq := by
      have hkept : (tenureCreepTest (refreshUrgency s.freezeMet)).rsq = (refreshUrgency s.freezeMet).rsq := by
        rw [hform]
      rw [State.computeUrgency_of_rsq hkept (by rw [hform]) (by rw [hform]), hkept, hrsq, hurgency]
    draw := by
      rw [hform]
      simp
      exact ⟨rfl, rfl⟩
    peers := by
      rw [hpeers]
      simp
      rfl
    ended := hended
    released := fun ht hl => hrel (by simpa [State.freezeMet] using ht) (by simpa [State.freezeMet] using hl) }

/-- Settles O45: the record is held, and its users then act on it by state. -/
theorem aSampleRecordIsHeldAndGiven : Obligations.a_sample_record_is_held_and_given := by
  refine ⟨fun bytes fault f level s hr h hf hst hs ht => ?_, fun bytes fault f level s hr h hf hst hs hc hm => ?_,
    fun bytes fault f level s hr h hf hp hw hno => ?_, fun bytes fault f level s hr h hf hst hp hw hc ht hn hno => ?_,
    fun bytes fault s hr hne hlost => ?_⟩
  · have htrack : giveFeedback (s.sampleHeld f level)
        = setGranted (s.drawOf (min f 8000)) (s.sampleHeld f level) := by
      have hset : trackFeedback (s.sampleHeld f level) = setGranted (s.drawOf (min f 8000)) (s.sampleHeld f level) :=
        if_pos (sampleHeld_fresh f level hst)
      have hten : (s.sampleHeld f level).ssu.tenure = false := ht
      rw [giveFeedback_tracks (s := s.sampleHeld f level) hs, hset]
      exact tenureCreepTest_stays (.inl (by simpa using hten))
    refine ⟨_, execSampleRecord_held hr h hf, ?_⟩
    rw [htrack, setGranted]
    generalize hv : ({ s.sampleHeld f level with
      dbu := { (s.sampleHeld f level).dbu with granted := s.drawOf (min f 8000) } } : State) = v
    have hmade := stampFault_weighed s v
    have hfault := stampFault_evalOvercommit (b := s) (s := v) (by rw [← hv]; rfl)
    generalize (stampFault s (evalOvercommit v)).cpn.fault = g at hmade hfault
    rw [hmade]
    subst hv
    exact ⟨rfl, hfault⟩
  · have hx := giveFeedback_meets (s := s.sampleHeld f level) ⟨hs, sampleHeld_creep hst hc, hm⟩
    have hfault : (giveFeedback (s.sampleHeld f level)).cpn.fault = s.cpn.fault := by
      rw [hx.same]
      rfl
    refine ⟨_, execSampleRecord_held hr h hf, ?_⟩
    rw [stampFault_of_fault_eq hfault]
    exact ⟨hx.same, hx.rsq, hx.draw.1, hx.draw.2, hx.peers, hx.ended, hx.released⟩
  · have hcreep : CreepMet (s.sampleHeld f level) → False := fun ⟨hram, hcr, hm⟩ => by
      rcases hno with hlt | ⟨-, hram' | ⟨hmoment, hcarried⟩⟩
      · exact Bool.noConfusion (hcr.symm.trans (sampleHeld_no_creep hlt))
      · exact hram' hram
      · rcases hm with hm | hm
        · exact hmoment hm
        · rw [show (s.sampleHeld f level).rsq.carried = none from hcarried] at hm
          exact nomatch hm
    have hgive : giveFeedback (s.sampleHeld f level) = s.sampleHeld f level := by
      rw [giveFeedback_tests (s := s.sampleHeld f level) hp hw, creepTest_passes hcreep]
      exact tenureCreepTest_stays (hno.symm.imp And.left sampleHeld_no_creep)
    rw [execSampleRecord_held hr h hf, hgive, stampFault_of_fault_eq (by rfl)]
    rfl
  · have hcreep : ¬ CreepMet (s.sampleHeld f level) := fun ⟨hram, _, hm⟩ => by
      rcases hno with hram' | ⟨hmoment, hcarried⟩
      · exact hram' hram
      · rcases hm with hm | hm
        · exact hmoment hm
        · rw [show (s.sampleHeld f level).rsq.carried = none from hcarried] at hm
          exact nomatch hm
    have hgive : giveFeedback (s.sampleHeld f level) = endTenure .creep (s.sampleHeld f level) := by
      rw [giveFeedback_tests (s := s.sampleHeld f level) hp hw, creepTest_passes hcreep]
      exact tenureCreepTest_ends ht (sampleHeld_creep hst hc)
    rw [execSampleRecord_held hr h hf, hgive, endTenure_released (s := s.sampleHeld f level) _ ht hn,
      stampFault_of_fault_eq (by rfl)]
    rfl
  · have hend : recordEnd bytes fault s = { s with spu := { s.spu with search := none } } := by
      rcases hlost with h | h
      · exact recordEnd_discarded h
      · exact recordEnd_lost (recordLost_searching h)
    have hrow := row_next_of_fault (f := recordEnd bytes fault) (c := !bytes.isEmpty) hr (by simpa using hne)
      (by rw [hend])
    exact hrow.trans (congrArg Host.Outcome.next hend)

end Sys2Proof.Machine
end

section
/-! SUPPORT. The samples of the discrete inputs, the held samples that go stale, and the reference records
(R157, R162 to R165). -/

namespace Sys2Proof.Machine

/-! ### The samples of the four inputs (R157) -/

/-- What an edge leaves, whatever it brings. -/
theorem giveEdge_keeps (i : Input) (raw : Bool) (s : State) :
    (giveEdge i raw s).rstLow = s.rstLow ∧ (giveEdge i raw s).now = s.now ∧ (giveEdge i raw s).micros = s.micros
    ∧ (giveEdge i raw s).joinedAt = s.joinedAt ∧ (giveEdge i raw s).pst = s.pst
    ∧ (giveEdge i raw s).spu = { s.spu with refWaiting := (giveEdge i raw s).spu.refWaiting }
    ∧ (giveEdge i raw s).pending = s.pending ∧ (giveEdge i raw s).pvu.peers = s.pvu.peers
    ∧ (giveEdge i raw s).cpn.reply = s.cpn.reply ∧ (giveEdge i raw s).cpn.spi = s.cpn.spi
    ∧ (giveEdge i raw s).cpn.straps = s.cpn.straps := by
  have hspu : ∀ p q : Spu, q.inputs = p.inputs ∧ q.sampled = p.sampled ∧ q.search = p.search
      ∧ q.feedback = p.feedback ∧ q.level = p.level ∧ q.staleMark = p.staleMark
      ∧ q.refSequence = p.refSequence ∧ q.refTx = p.refTx → q = { p with refWaiting := q.refWaiting } := fun p q => by
    rintro ⟨h1, h2, h3, h4, h5, h6, h7, h8⟩
    rw [← h1, ← h2, ← h3, ← h4, ← h5, ← h6, ← h7, ← h8]
  unfold giveEdge drvReadyRise
  dsimp only
  repeat' split
  all_goals refine ⟨?_, ?_, ?_, ?_, ?_, hspu _ _ ?_, ?_, ?_, ?_, ?_, ?_⟩ <;> simp

theorem sampleInput_rstLow (i : Input) (raw : Bool) (s : State) : (sampleInput i raw s).rstLow = s.rstLow := by
  refine sampleInput_keeps (P := fun t => t.rstLow = s.rstLow) rfl (fun h => h) (fun {u} hu => ?_) fun _ => ?_
  · rw [stampFault_does]
    exact hu
  · exact (giveEdge_keeps i raw _).1

theorem execInputEdgeAccepted_taken {i : Input} {raw : Bool} {s : State} (hr : s.rstLow = false)
    (h : Accepts s i raw) :
    exec (.inputEdgeAccepted ⟨i, raw⟩) s = .next (stampFault s (giveEdge i raw (s.withInput i raw))) := by
  rw [← sampleInput_accepts h]
  refine (released_high _ hr).trans ?_
  rw [(s.edgeReady_iff i raw).2 h]
  rfl

theorem execInputEdgeAccepted_none {i : Input} {raw : Bool} {s : State} (hr : s.rstLow = false)
    (h : ¬ Accepts s i raw) : exec (.inputEdgeAccepted ⟨i, raw⟩) s = .next s := by
  refine (released_high _ hr).trans ?_
  rw [Bool.eq_false_iff.2 fun hready => h ((s.edgeReady_iff i raw).1 hready)]
  rfl

theorem oneSampled_sampleInput {i : Input} {raw : Bool} {s : State} (hr : s.rstLow = false) :
    OneSampled i raw s (sampleInput i raw s) := by
  unfold OneSampled
  by_cases h : Accepts s i raw
  · rw [if_pos h, sampleInput_accepts h]
    exact execInputEdgeAccepted_taken hr h
  · rw [if_neg h]
    exact sampleInput_counts h

theorem execInputFilterSample_eq {raw : InputLevels} {s : State} (hr : s.rstLow = false) :
    exec (.inputFilterSample raw) s = .next (sampleInput .dummyIn raw.dummyIn (sampleInput .brkIn raw.brkIn
      (sampleInput .drvReady raw.drvReady (sampleInput .supplyOk raw.supplyOk
        { s with spu := { s.spu with sampled := true } })))) := released_high _ hr

theorem accepts_other {i j : Input} (hne : j ≠ i) {raw level : Bool} {s : State} :
    Accepts (s.countInput i raw) j level ↔ Accepts s j level := by
  unfold Accepts State.filtered State.countInput
  dsimp only
  rw [inputGet_inputSet_ne _ _ hne]

/-- The four samples of a ms that accept no change. -/
theorem samples_count {raw : InputLevels} {s : State} (h : ∀ i, ¬ Accepts s i (inputGet raw i)) :
    sampleInput .dummyIn raw.dummyIn (sampleInput .brkIn raw.brkIn
      (sampleInput .drvReady raw.drvReady (sampleInput .supplyOk raw.supplyOk s)))
    = (((s.countInput .supplyOk raw.supplyOk).countInput .drvReady raw.drvReady).countInput .brkIn
      raw.brkIn).countInput .dummyIn raw.dummyIn := by
  rw [sampleInput_counts (i := .supplyOk) (raw := raw.supplyOk) (h .supplyOk), sampleInput_counts (i := .drvReady) ?drv,
    sampleInput_counts (i := .brkIn) ?brk, sampleInput_counts (i := .dummyIn) ?dummy]
  case drv =>
    rw [accepts_other (by decide)]
    exact h .drvReady
  case brk =>
    rw [accepts_other (by decide), accepts_other (by decide)]
    exact h .brkIn
  case dummy =>
    rw [accepts_other (by decide), accepts_other (by decide), accepts_other (by decide)]
    exact h .dummyIn

/-! ### Samples that go stale (R162, R163) -/

theorem reachesStale_of {s : State} {a : Moment} {h : Held} (hf : h.fresh = true) (ht : h.takenAt = some a)
    (ha : s.pst.strand.staleTime ≤ ageAt s.now a) : s.reachesStale h = true := by
  unfold State.reachesStale State.isFresh
  rw [hf, ht]
  simpa using ha

theorem execSamplesGoStale_row {a : Moment} {s : State} (hr : s.rstLow = false)
    (hf : s.spu.feedback.fresh = true) (ht : s.spu.feedback.takenAt = some a)
    (ha : s.pst.strand.staleTime ≤ ageAt s.now a) :
    exec .samplesGoStale s = .next (stampFault s (goStale s)) :=
  row_next hr (by rw [reachesStale_of hf ht ha]; rfl)

/-- The station with both held values stale. -/
def State.staled (s : State) (mark : Bool) : State :=
  { s with spu := { s.spu with
    feedback := { s.spu.feedback with fresh := false }
    level := { s.spu.level with fresh := false }, staleMark := mark } }

/-- Settles O43: each row is read off its own definition, and the sample of the four inputs input by input. -/
theorem strandPortSamplesAndRecords : Obligations.strand_port_samples_and_records := by
  refine ⟨fun raw s hr h => ?_, fun raw s hr => ?_, fun a s hr hf ht ha hauth hmark => ?_,
    fun a s hr hf ht ha hno => ?_, fun s hr hw htx => ?_, fun r s hr htx => ?_⟩
  · refine ⟨_, (execInputFilterSample_eq hr).trans (congrArg Host.Outcome.next (samples_count h)), rfl, fun i => ?_⟩
    cases i <;> rfl
  · refine ⟨_, _, _, _, oneSampled_sampleInput hr, oneSampled_sampleInput ?_, oneSampled_sampleInput ?_,
      oneSampled_sampleInput ?_, execInputFilterSample_eq hr⟩
    · rw [sampleInput_rstLow]
      exact hr
    · rw [sampleInput_rstLow, sampleInput_rstLow]
      exact hr
    · rw [sampleInput_rstLow, sampleInput_rstLow, sampleInput_rstLow]
      exact hr
  · have hstale : goStale s = capture .fieldStale s.spu.feedback.value (s.staled true) :=
      if_pos (by rw [hauth, hmark]; rfl)
    rw [execSamplesGoStale_row hr hf ht ha, hstale,
      stampFault_of_captured (b := s) (t := capture .fieldStale s.spu.feedback.value (s.staled true)) (s.staled true)
        .fieldStale s.spu.feedback.value (by rfl) ⟨by rfl, by rfl, by rfl⟩]
    rfl
  · have hstale : goStale s = s.staled s.spu.staleMark := if_neg (by rcases hno with h | h <;> simp [h])
    rw [execSamplesGoStale_row hr hf ht ha, hstale, stampFault_of_fault_eq (by rfl)]
    rfl
  · refine (released_high _ hr).trans ?_
    rw [hw, htx]
    rfl
  · refine (released_high _ hr).trans ?_
    rw [htx]
    rfl

end Sys2Proof.Machine
end

section
/-! SUPPORT. A line that goes DEAF or BARRED (R98, R105, R111, R117, R154): what the change leaves of the own
claims, whatever the solo allowance and a slot taken without the line bring after them. -/

namespace Sys2Proof.Machine

/-- The station as the change of line state first leaves it. -/
def State.onLine (s : State) (q : LineState) : State :=
  notify .lineChanged { s with lnc := { s.lnc with line := q } }

theorem changeLine_lost {q : LineState} (hq : q = .deaf ∨ q = .barred) (s : State) : changeLine q s
    = lineBeacon q (firstPointTest (actOnRequest (withdrawStart (drawLineLost (s.onLine q))))) := by
  rcases hq with rfl | rfl <;> rfl

/-! ### What follows the loss of the claims touches neither list nor queue (R16, R99, R117) -/

/-- The lists of a station that has lost the line: no own START entry and no CLEAR stands in them. -/
structure LineLost (p : Pvu) (l : Lnc) : Prop where
  line : l.line = .deaf ∨ l.line = .barred
  unlisted : p.removeOwn .start = p
  unsent : l.dropClear = l

/-- The station has the claim list `p`, the line controller `l` but for its beacon, and no own claim. -/
structure Unclaimed (p : Pvu) (l : Lnc) (t : State) : Prop where
  pvu : t.pvu = p
  lnc : ∃ a, t.lnc = l.askIf a
  draw : t.dbu.claim = .none
  start : t.ssu.claim = .none
  told : t.cpn.events.lineChanged = true

namespace Unclaimed

variable {p : Pvu} {l : Lnc} {t u : State}

theorem same (h : Unclaimed p l t) (hp : u.pvu = t.pvu) (hl : ∃ a, u.lnc = t.lnc.askIf a)
    (hd : u.dbu.claim = .none) (hs : u.ssu.claim = .none) (hc : u.cpn.events.lineChanged = t.cpn.events.lineChanged) :
    Unclaimed p l u where
  pvu := hp.trans h.pvu
  lnc := by
    obtain ⟨a, ha⟩ := h.lnc
    obtain ⟨b, hb⟩ := hl
    exact ⟨a || b, by rw [hb, ha, Lnc.askIf_askIf]⟩
  draw := hd
  start := hs
  told := hc.trans h.told

theorem line (h : Unclaimed p l t) (hlost : LineLost p l) : t.lnc.line = .deaf ∨ t.lnc.line = .barred := by
  obtain ⟨a, ha⟩ := h.lnc
  rw [ha, Lnc.askIf_beacon]
  exact hlost.line

theorem dropped (h : Unclaimed p l t) (hlost : LineLost p l) : t.lnc.dropClear = t.lnc := by
  obtain ⟨a, ha⟩ := h.lnc
  rw [ha, Lnc.askIf_beacon]
  exact congrArg (fun m : Lnc => { m with beacon := (l.askIf a).beacon }) hlost.unsent

theorem beacon (h : Unclaimed p l t) : Unclaimed p l (requestBeacon t) :=
  h.same rfl ⟨true, rfl⟩ h.draw h.start rfl

theorem urgency (h : Unclaimed p l t) : Unclaimed p l (refreshUrgency t) := by
  obtain ⟨a, ha⟩ := refreshUrgency_quiet (s := t) (by rw [h.draw]; rfl) h.start
  rw [ha]
  exact h.same rfl ⟨a, rfl⟩ h.draw h.start rfl

theorem creep (h : Unclaimed p l t) : Unclaimed p l (creepTest t) := by
  by_cases hc : CreepMet t
  · rw [creepTest_meets hc]
    exact (h.same (u := t.freezeMet) rfl ⟨false, rfl⟩ h.draw h.start rfl).urgency
  · rw [creepTest_passes hc]
    exact h

theorem ramping (h : Unclaimed p l t) : Unclaimed p l (enterRamping t) :=
  (h.same (u := t.rampBegun) rfl ⟨true, rfl⟩ h.draw h.start rfl).creep.urgency

theorem need (h : Unclaimed p l t) (hlost : LineLost p l) (n : Nat) : Unclaimed p l (giveNeed n t) := by
  obtain ⟨o, f, hsolo, -⟩ := soloRaise_made n t
  rw [giveNeed_off_line n (h.line hlost), hsolo]
  refine h.same rfl ⟨decide (t.dbu.granted < t.soloGoal n), ?_⟩ rfl h.start rfl
  by_cases hlt : t.dbu.granted < t.soloGoal n <;> simp [State.soloRaised, hlt]

theorem firstPoint (h : Unclaimed p l t) (hlost : LineLost p l) : Unclaimed p l (firstPointTest t) := by
  unfold firstPointTest
  dsimp only
  split
  · split
    · exact h.ramping
    · split
      · exact h
      · split
        · exact (h.need hlost _).ramping
        · exact h.need hlost _
  · exact h

theorem withdrawn (h : Unclaimed p l t) (hlost : LineLost p l) : Unclaimed p l (withdrawStart t) := by
  have hdo : withdrawStart t = { t with
      ssu := { t.ssu with claim := .none, settleAt := none, clearSent := false }
      pvu := t.pvu.removeOwn .start, lnc := t.lnc.dropClear } := by
    unfold withdrawStart
    rw [if_pos h.start]
  rw [hdo]
  refine h.same ?_ ⟨false, h.dropped hlost⟩ h.draw rfl rfl
  show t.pvu.removeOwn .start = t.pvu
  rw [h.pvu, hlost.unlisted]

theorem drive (h : Unclaimed p l t) (hlost : LineLost p l) : Unclaimed p l (driveTest t) := by
  unfold driveTest
  split
  · exact ((h.same (u := { t with ssu := { t.ssu with request := false } }) rfl ⟨false, rfl⟩ h.draw h.start
      rfl).withdrawn hlost).firstPoint hlost
  · exact h

theorem slot (h : Unclaimed p l t) (hlost : LineLost p l) (n : Nat) : Unclaimed p l (takeSlot n t) := by
  have htaken : Unclaimed p l (slotTaken n t) := by
    refine h.same ?_ ⟨false, h.dropped hlost⟩ h.draw rfl rfl
    show t.pvu.removeOwn .start = t.pvu
    rw [h.pvu, hlost.unlisted]
  exact htaken.beacon.drive hlost

theorem act (h : Unclaimed p l t) (hlost : LineLost p l) : Unclaimed p l (actOnRequest t) := by
  by_cases hreq : t.ssu.request = true ∧ t.ssu.tenure = false ∧ t.rsq.urgency = 3
  · rw [actOnRequest_takes (h.line hlost) hreq.1 hreq.2.1 h.start hreq.2.2]
    exact h.slot hlost _
  · have hstays : actOnRequest t = t := by
      unfold actOnRequest
      split
      · next hif =>
        have hu : t.rsq.urgency ≠ 3 := fun hu => hreq ⟨hif.1, hif.2.1, hu⟩
        rcases h.line hlost with hl | hl <;> (rw [hl]; exact if_neg hu)
      · rfl
    rw [hstays]
    exact h

end Unclaimed

/-! ### The change to DEAF and BARRED -/

theorem State.claimsWithoutOwn_start (s : State) :
    s.claimsWithoutOwn.filter (fun e => !(e.isOwn && decide (e.kind = .start))) = s.claimsWithoutOwn := by
  unfold State.claimsWithoutOwn
  rw [List.filter_filter]
  refine List.filter_congr fun e _ => ?_
  cases e.isOwn <;> cases e.kind <;> simp

theorem State.claimsWithdrawn_clear (s : State) (q : List QueuedFrame) :
    (s.claimsWithdrawn q).filter (fun f => decide (f.slot ≠ .clear)) = s.claimsWithdrawn q := by
  unfold State.claimsWithdrawn
  rw [List.filter_filter]
  simp

/-- The claim list and the line controller as the own claims leave them. -/
theorem lineLost_claims {s : State} (hl : s.lnc.line = .deaf ∨ s.lnc.line = .barred) :
    LineLost { s.pvu with claims := s.claimsWithoutOwn } { s.lnc with queue := s.claimsWithdrawn s.lnc.queue } where
  line := hl
  unlisted := congrArg (fun c : List ClaimEntry => ({ s.pvu with claims := c } : Pvu)) s.claimsWithoutOwn_start
  unsent := congrArg (fun q : List QueuedFrame => ({ s.lnc with queue := q } : Lnc)) (s.claimsWithdrawn_clear _)

/-- What a change of line state to DEAF or BARRED leaves, before its beacon. -/
theorem changeLine_unclaimed {q : LineState} (hq : q = .deaf ∨ q = .barred) (s : State) :
    Unclaimed { s.pvu with claims := s.claimsWithoutOwn }
      { (s.onLine q).lnc with queue := (s.onLine q).claimsWithdrawn s.lnc.queue }
      (firstPointTest (actOnRequest (withdrawStart (drawLineLost (s.onLine q))))) := by
  have hlost := lineLost_claims (s := s.onLine q) hq
  obtain ⟨o, f, a, hmade, -⟩ := claimsLost_made (s.onLine q)
  refine Unclaimed.firstPoint (Unclaimed.act ?_ hlost) hlost
  rw [hmade]
  exact ⟨rfl, ⟨a, (Lnc.askIf_queue ..).symm⟩, rfl, rfl, rfl⟩

/-- The beacon that a change to DEAF asks for, with the beacon timer. -/
theorem Lnc.requestBeacon_deaf {l : Lnc} (h : l.line.allowsBeacon = true) (a : Bool) :
    (l.askIf a).requestBeacon = { l with beacon := if l.beacon = .empty then .queued else l.beacon } := by
  have hone : l.requestBeacon = { l with beacon := if l.beacon = .empty then .queued else l.beacon } := by
    unfold Lnc.requestBeacon
    rw [h]
    by_cases hb : l.beacon = .empty <;> simp [hb]
  cases a
  · exact hone
  · exact (Lnc.requestBeacon_requestBeacon l).trans hone

/-- The line controller once a line on which a BEACON may be sent has gone DEAF. -/
def State.deafLine (s : State) : Lnc :=
  { s.lnc with
    line := .deaf, queue := s.claimsWithdrawn s.lnc.queue
    beacon := if s.lnc.beacon = .empty then .queued else s.lnc.beacon
    beaconAt := some (s.lnc.beaconAt.getD (later s.now (s.pst.strand.periodCode * 10))) }

/-- What a line that has gone DEAF or BARRED leaves, with the line controller `l`. -/
structure LeftLine (l : Lnc) (s t : State) : Prop where
  lnc : t.lnc = l
  draw : t.dbu.claim.outstanding = false
  start : t.ssu.claim = .none
  peers : t.pvu.peers = s.pvu.peers
  claims : t.pvu.claims = s.claimsWithoutOwn
  told : t.cpn.events.lineChanged = true
  same : t = { s with rsq := t.rsq, dbu := t.dbu, ssu := t.ssu, pvu := t.pvu, lnc := t.lnc, cpn := t.cpn }

theorem LeftLine.stamp {l : Lnc} {s t : State} (h : LeftLine l s t) (b : State) : LeftLine l s (stampFault b t) := by
  rw [stampFault_does]
  exact { h with
    same := congrArg (fun v : State => { v with cpn := { t.cpn with fault := (stampFault b t).cpn.fault } }) h.same }

theorem changeLine_deaf {s : State} (h : s.lnc.line.allowsBeacon = true) :
    LeftLine s.deafLine s (changeLine .deaf s) := by
  have hu := changeLine_unclaimed (q := .deaf) (.inl rfl) s
  have hq : (s.onLine .deaf).claimsWithdrawn s.lnc.queue = s.claimsWithdrawn s.lnc.queue :=
    claimsWithdrawn_congr (u := s.onLine .deaf) (s := s) rfl ⟨rfl, rfl⟩ ⟨h.symm, rfl⟩ _
  rw [hq] at hu
  rw [changeLine_lost (.inl rfl)]
  have hkept : ∀ u, u = firstPointTest (actOnRequest (withdrawStart (drawLineLost (s.onLine .deaf)))) →
      u.now = s.now ∧ u.pst = s.pst ∧ u.lnc.beaconAt = s.lnc.beaconAt ∧ u = { s with
        rsq := u.rsq, dbu := u.dbu, ssu := u.ssu, pvu := u.pvu, lnc := u.lnc, cpn := u.cpn } := by
    rintro u rfl
    refine ⟨by simp [State.onLine], by simp [State.onLine], by simp [State.onLine], State.of_blocks ?_⟩
    simp [State.onLine]
  replace hkept := hkept _ rfl
  generalize firstPointTest (actOnRequest (withdrawStart (drawLineLost (s.onLine .deaf)))) = u at hu hkept ⊢
  obtain ⟨hnow, hpst, hat, hsame⟩ := hkept
  obtain ⟨a, ha⟩ := hu.lnc
  have hlnc : (lineBeacon .deaf u).lnc = s.deafLine := by
    show ({ u.lnc.requestBeacon with
      beaconAt := some (u.lnc.beaconAt.getD (later u.now u.beaconPeriod)) } : Lnc) = s.deafLine
    rw [hat, hnow, State.beaconPeriod, hpst, ha, Lnc.requestBeacon_deaf rfl]
    rfl
  exact {
    lnc := hlnc, start := hu.start, told := hu.told
    draw := by
      show u.dbu.claim.outstanding = false
      rw [hu.draw]
      rfl
    peers := (congrArg Pvu.peers hu.pvu :), claims := (congrArg Pvu.claims hu.pvu :)
    same := congrArg (fun v : State => { v with lnc := (lineBeacon .deaf u).lnc }) hsame }

/-! ### Nothing to take and no drive running (R16, R105, R117) -/

theorem actOnRequest_quiet {s : State} (hl : s.lnc.line = .deaf ∨ s.lnc.line = .barred)
    (h : s.ssu.request = false ∨ s.rsq.urgency ≠ 3 ∨ s.ssu.tenure = true) : actOnRequest s = s := by
  have hoff : s.lnc.line ≠ .active := by rcases hl with hl | hl <;> simp [hl]
  rcases h with h | h | h
  · exact actOnRequest_stays (.inl h)
  · exact actOnRequest_stays (.inr ⟨hoff, .inr h⟩)
  · exact if_neg fun hif => by simp [h] at hif

/-- A line lost with nothing to take and no drive running leaves what the loss makes of the own claims, with the
overcommit condition `o` and its fault record `f`. -/
theorem changeLine_quiet {q : LineState} (hq : q = .deaf ∨ q = .barred) {s : State} (h : LineLostQuiet s) :
    ∃ o f a, changeLine q s = lineBeacon q ((s.onLine q).claimsLost o f a)
      ∧ (o = if s.grantAlone = s.dbu.granted then s.dbu.overcommit
          else ((s.onLine q).claimsLost o f a).overcommitted)
      ∧ OvercommitOnWay (s.onLine q) ((s.onLine q).claimsLost o f a) := by
  obtain ⟨o, f, a, hmade, hover, hway⟩ := claimsLost_made (s.onLine q)
  refine ⟨o, f, a, ?_, hover, hway⟩
  have hline : ((s.onLine q).claimsLost o f a).lnc.line = q := by
    show ((s.onLine q).lnc.askIf a).line = q
    rw [Lnc.askIf_beacon]
    rfl
  have hact : actOnRequest ((s.onLine q).claimsLost o f a) = (s.onLine q).claimsLost o f a :=
    actOnRequest_quiet (by rw [hline]; exact hq) h.1
  have hpoint : firstPointTest ((s.onLine q).claimsLost o f a) = (s.onLine q).claimsLost o f a :=
    firstPointTest_stays h.2
  rw [changeLine_lost hq, hmade, hact, hpoint]

theorem changeLine_claimsLost {q : LineState} (hq : q = .deaf ∨ q = .barred) {s : State} (h : LineLostQuiet s)
    (b : State) : ClaimsLost s (stampFault b (changeLine q s)) := by
  obtain ⟨o, f, a, hmade, hover, -⟩ := changeLine_quiet hq h
  have hline : ∀ u, ∃ l, lineBeacon q u = { u with lnc := l } := fun u => by
    unfold lineBeacon
    split
    · exact ⟨_, rfl⟩
    · exact ⟨u.lnc, rfl⟩
  obtain ⟨l, hl⟩ := hline ((s.onLine q).claimsLost o f a)
  rw [stampFault_does]
  generalize (stampFault b (changeLine q s)).cpn.fault = g
  rw [hmade, hl]
  refine ⟨rfl, ?_, rfl, rfl⟩
  refine congrArg (fun x => ({ (s.onLine q).drawTaken.dbu with
    granted := s.grantAlone, need := none, claim := .none, overcommit := x } : Dbu)) hover

/-! ### LINE_DEAF (R151) -/

theorem goDeaf_firstFault {d : Nat} {s u : State} (hf : u.cpn.fault = s.cpn.fault) (hn : u.now = s.now)
    (hj : u.joinedAt = s.joinedAt) : FirstFault s (stampFault s (goDeaf d u)) .lineDeaf d := by
  intro hl
  obtain ⟨hkept, hlocked⟩ := faultKept_capture (k := .lineDeaf) (d := d) (s := u) (by rw [hf, hl])
  refine firstFault_stamped hf hn hj ?_ hl
  exact (faultKept_traced hlocked).changeLine .deaf (hkept.of_fault rfl)

/-- The station with a fault captured. -/
theorem LineLostQuiet.captured {s : State} (h : LineLostQuiet s) (k : FaultKind) (d : Nat) :
    LineLostQuiet (capture k d s) := h

/-- Nothing beside LINE_DEAF is captured unless the overcommit condition rises. -/
theorem goDeaf_cpn {d : Nat} {s u : State} (h : LineLostQuiet u) (hf : u.cpn.fault = s.cpn.fault)
    (hn : u.now = s.now) (hj : u.joinedAt = s.joinedAt) :
    (stampFault s (goDeaf d u)).cpn = { u.cpn with
        events := { u.cpn.events with lineChanged := true }, fault := (stampFault s (goDeaf d u)).cpn.fault }
      ∧ ((stampFault s (goDeaf d u)).dbu.overcommit = false ∨ u.dbu.overcommit = true →
        (stampFault s (goDeaf d u)).cpn.fault = s.captured .lineDeaf d) := by
  obtain ⟨o, f, a, hmade, -, hway⟩ := changeLine_quiet (.inl rfl) (h.captured .lineDeaf d)
  have hfault : o = false ∨ u.dbu.overcommit = true → f = u.captured .lineDeaf d := fun ho => by
    obtain ⟨v, -, -, -, hv⟩ := hway
    refine hv.trans (if_neg ?_)
    rintro ⟨h1, h2⟩
    rcases ho with ho | ho
    · exact absurd (ho.symm.trans h1) (by decide)
    · exact absurd (ho.symm.trans h2) (by decide)
  have hcpn : (goDeaf d u).cpn = { u.cpn with
      events := { u.cpn.events with lineChanged := true }, fault := f } := (congrArg State.cpn hmade :)
  have hover : (goDeaf d u).dbu.overcommit = o := (congrArg (fun v : State => v.dbu.overcommit) hmade :)
  have hstamp := stampFault_does s (goDeaf d u)
  refine ⟨?_, fun ho => ?_⟩
  · generalize (stampFault s (goDeaf d u)).cpn.fault = g at hstamp ⊢
    rw [hstamp]
    show ({ (goDeaf d u).cpn with fault := g } : Cpn) = _
    rw [hcpn]
  · have hsame : (stampFault s (goDeaf d u)).dbu = (goDeaf d u).dbu := by rw [stampFault_does]
    rw [hsame, hover] at ho
    refine stampFault_captured (u := u) ?_ hf hn hj
    rw [hcpn]
    exact hfault ho

/-! ### BARRED (R153) -/

/-- The line controller of a station that a duplicate has barred. -/
def State.barredLine (s : State) : Lnc :=
  { s.lnc with
    line := .barred, queue := [], beacon := .empty, tx := none, beaconAt := none, listenAt := none
    quiet := some 10, charLeft := 0 }

/-- The station that a duplicate bars, before the change of line state. -/
def State.silenced (s : State) (kind : FrameKind) : State :=
  { capture .duplicateStation (frameKindCode kind).toNat s with
    lnc := { s.lnc.atFrameEnd with
      queue := [], beacon := .empty, tx := none, beaconAt := none, listenAt := none } }

theorem enterBarred_eq (kind : FrameKind) (s : State) : enterBarred kind s = changeLine .barred (s.silenced kind) :=
  rfl

theorem enterBarred_left {kind : FrameKind} {s : State} (h : s.lnc.synced = true) :
    LeftLine s.barredLine s (enterBarred kind s) := by
  have hu := changeLine_unclaimed (q := .barred) (.inr rfl) (s.silenced kind)
  have hq : ((s.silenced kind).onLine .barred).claimsWithdrawn [] = [] := by
    unfold State.claimsWithdrawn State.withdrawnFrom
    simp [State.onLine, notify, LineState.allowsBeacon]
  have hkept : ∀ u, u = changeLine .barred (s.silenced kind) → u = { s with
        rsq := u.rsq, dbu := u.dbu, ssu := u.ssu, pvu := u.pvu, lnc := u.lnc, cpn := u.cpn } := by
    rintro u rfl
    refine State.of_blocks ?_
    simp [State.silenced, capture]
  replace hkept := hkept _ rfl
  have hbar : changeLine .barred (s.silenced kind)
      = firstPointTest (actOnRequest (withdrawStart (drawLineLost ((s.silenced kind).onLine .barred)))) := rfl
  rw [enterBarred_eq]
  rw [← hbar] at hu
  generalize changeLine .barred (s.silenced kind) = u at hu hkept ⊢
  obtain ⟨a, ha⟩ := hu.lnc
  have hlnc : u.lnc = s.barredLine := by
    refine ha.trans ?_
    have hsilent : ∀ l : Lnc, l.line = .barred → l.askIf a = l := fun l hl => by
      cases a
      · rfl
      · exact Lnc.requestBeacon_of_silent (by rw [hl]; rfl)
    rw [hsilent _ rfl]
    refine (congrArg (fun q : List QueuedFrame => ({ ((s.silenced kind).onLine .barred).lnc with queue := q } : Lnc))
      hq).trans ?_
    exact congrArg (fun b : Bool => ({ s.barredLine with synced := b } : Lnc)) h.symm
  exact {
    lnc := hlnc, start := hu.start, told := hu.told
    draw := by
      rw [hu.draw]
      rfl
    peers := (congrArg Pvu.peers hu.pvu :), claims := (congrArg Pvu.claims hu.pvu :)
    same := hkept }

theorem enterBarred_firstFault (kind : FrameKind) (s : State) :
    FirstFault s (stampFault s (enterBarred kind s)) .duplicateStation (frameKindCode kind).toNat := by
  intro hl
  obtain ⟨hkept, hlocked⟩ := faultKept_capture (k := .duplicateStation) (d := (frameKindCode kind).toNat) hl
  refine firstFault_stamped rfl rfl rfl ?_ hl
  exact (faultKept_traced hlocked).changeLine .barred (hkept.of_fault rfl)

end Sys2Proof.Machine
end

section
/-! SUPPORT. Bad frames, the duplicate station, and peers that fall silent (R103, R122, R123, R148 to R153). -/

namespace Sys2Proof.Machine

/-! ### Bad frames (R148) -/

theorem State.isBadFrame_of {s : State} {bytes : List Byte} {fault : Bool} (hl : s.lnc.line ≠ .off)
    (hb : bytes ≠ []) (h : validFrame s.strandCount bytes fault = none) : s.isBadFrame bytes fault = true := by
  unfold State.isBadFrame
  rw [h, decide_eq_true hl]
  cases bytes with
  | nil => exact absurd rfl hb
  | cons b rest => rfl

/-- The station once its line controller has counted a bad frame. -/
def State.misheard (s : State) : State :=
  { s with lnc := { s.lnc with
    quiet := some 10, charLeft := 0
    deafCount := if s.lnc.line = .barred then s.lnc.deafCount else min 255 (s.lnc.deafCount + 4) } }

/-- The frame end of a receiver that has seen its quiet since JOIN. -/
theorem State.frameEnd_synced {s : State} (h : s.lnc.synced = true) :
    s.lnc.atFrameEnd = { s.lnc with quiet := some 10, charLeft := 0 } :=
  congrArg (fun b : Bool => ({ s.lnc with quiet := some 10, charLeft := 0, synced := b } : Lnc)) h.symm

theorem takeBadFrame_eq {s : State} (h : s.lnc.synced = true) : takeBadFrame s
    = if s.lnc.line = .active ∧ s.pst.strand.deafThreshold ≤ min 255 (s.lnc.deafCount + 4) then
        goDeaf detailErrors s.misheard
      else s.misheard := by
  unfold takeBadFrame State.misheard
  rw [State.frameEnd_synced h]
  by_cases hb : s.lnc.line = .barred
  · simp [hb]
  · simp [hb, sat255, Config.badFrameWeight]

theorem execBadFrameReceived_taken {s : State} {bytes : List Byte} {fault : Bool} (hr : s.rstLow = false)
    (hl : s.lnc.line ≠ .off) (hs : s.lnc.synced = true) (hb : bytes ≠ [])
    (h : validFrame s.strandCount bytes fault = none) :
    exec (.badFrameReceived bytes fault) s = .next (stampFault s (takeBadFrame s)) := by
  refine (row_next hr (State.isBadFrame_of hl hb h)).trans ?_
  rw [frameTaken_synced hs]

/-- A frame under way at JOIN gives the receiver its quiet, and nothing else. -/
theorem row_searching {s : State} {c : Bool} {f : State → State} (hr : s.rstLow = false) (hc : c = true)
    (h : s.lnc.synced = false) : released s (occur (whenever c (frameTaken f)) s)
      = .next { s with lnc := { s.lnc with quiet := some 10, charLeft := 0, synced := true } } := by
  rw [row_next_of_fault hr hc (by rw [frameTaken_searching h]), frameTaken_searching h]
  rfl

/-- A row that delivers a peer's frame takes it as the reception leaves the station. -/
theorem exec_frame {c : Instr} {k : Nat} (hc : frameSender c = some k) : ∃ g : State → State, ∀ s : State,
    exec c s = released s (occur (whenever (s.hears k) (frameTaken fun s => g (receivePeer s))) s) := by
  cases c with
  | beaconReceived j b => cases hc; exact ⟨takeBeacon k b, fun _ => rfl⟩
  | claimReceived j b => cases hc; exact ⟨fun s => drawViewChange (enterClaim (s.claimEntry k b) s), fun _ => rfl⟩
  | withdrawReceived j kind n => cases hc; exact ⟨claimsLeave (withdrawnBy k kind n), fun _ => rfl⟩
  | releaseReceived j reason => cases hc; exact ⟨takeRelease k reason, fun _ => rfl⟩
  | clearReceived j target => cases hc; exact ⟨takeClear target, fun _ => rfl⟩
  | eventBeginReceived j e => cases hc; exact ⟨takeBegin e, fun _ => rfl⟩
  | eventReadyReceived j e l => cases hc; exact ⟨takeReadyEvent e l, fun _ => rfl⟩
  | _ => exact nomatch hc

/-! ### The loss of a line in short -/

/-- The loss reads the sequencer, the claims and the claim list alone. -/
theorem ClaimsLost.before {s u t : State} (h : ClaimsLost u t) (hr : u.rsq = s.rsq) (hd : u.dbu = s.dbu)
    (hs : u.ssu = s.ssu) (hp : u.pvu = s.pvu) (hpst : u.pst = s.pst) : ClaimsLost s t := by
  have hclaims : u.claimsWithoutOwn = s.claimsWithoutOwn := by
    unfold State.claimsWithoutOwn
    rw [hd, hp]
  unfold ClaimsLost at h
  rw [hr, hd, hs, hp, hpst, hclaims] at h
  exact h

/-! ### Peers that fall silent (R122, R123) -/

theorem turnsSuspect_of {k : Fin 8} {m : Moment} {s : State} (hs : s.pvu.peers[k].status = .live)
    (hm : s.pvu.peers[k].lastBeacon = some m)
    (ha : 3 * (s.pvu.peers[k].periodCode * 10) < 2 * ageAt s.now m) : s.turnsSuspect k.val = true := by
  unfold State.turnsSuspect State.ageOf PeerEntry.period
  rw [s.peer_fin, hm]
  exact decide_eq_true ⟨hs, ha⟩

/-- A list element replaced by one of the same value leaves the list of values. -/
theorem map_set_same {α β : Type} {g : α → β} {l : List α} {i : Nat} {hi : i < l.length} {e : α}
    (h : g e = g l[i]) : (l.set i e).map g = l.map g := by
  have hat : g l[i] = (l.map g)[i]'(by simpa using hi) := by simp
  rw [List.map_set, h, hat, List.set_getElem_self]

/-- A peer that goes SUSPECT reports its draw as before. -/
theorem peerAged_reportedSum {s : State} {k : Fin 8} (h : s.pvu.peers[k].status = .live) :
    (s.peerAged k .suspect).reportedSum = s.reportedSum := by
  have hset : (s.peerAged k .suspect).pvu.peers.toList
      = s.pvu.peers.toList.set k.val { s.pvu.peers[k] with status := .suspect } :=
    Vector.toList_set (h := k.isLt)
  unfold State.reportedSum
  rw [hset]
  refine congrArg List.sum (map_set_same (hi := by simp) ?_)
  have hdrawn : s.pvu.peers.toList[k.val]'(by simp) = s.pvu.peers[k] := rfl
  rw [hdrawn, h]
  rfl

/-- Settles O60: a bad frame that deafens and a duplicate lose the line, each with its own fault first. -/
theorem badFramesDuplicatesAndSilentPeersAct : Obligations.bad_frames_duplicates_and_silent_peers_act := by
  refine ⟨fun bytes fault s hr hl hs hb h hcalm => ?_, fun bytes fault s hr hs hb h hl hdeaf => ?_,
    fun kind s hr hs hl => ?_, fun c k s hr hc hk hown hl hs => ?_, fun bytes fault s hr hl hs hb h => ?_,
    fun kind s hr hs hl => ?_, fun k m s hr hlive hm hage hd => ?_, fun k m s hr hst hm hage hidle => ?_⟩
  · rw [execBadFrameReceived_taken hr hl hs hb h, takeBadFrame_eq hs, if_neg,
      stampFault_of_fault_eq (b := s) (t := s.misheard) rfl]
    · rfl
    · rintro ⟨hact, hle⟩
      rcases hcalm with hne | hlt
      · exact hne hact
      · omega
  · have hdo : takeBadFrame s = goDeaf detailErrors s.misheard := (takeBadFrame_eq hs).trans (if_pos ⟨hl, hdeaf⟩)
    refine ⟨_, execBadFrameReceived_taken hr (by rw [hl]; decide) hs hb h, ?_⟩
    rw [hdo]
    have hleft := (changeLine_deaf (s := capture .lineDeaf detailErrors s.misheard)
      (by show s.lnc.line.allowsBeacon = true; rw [hl]; rfl)).stamp s
    have hfirst : FirstFault s (stampFault s (goDeaf detailErrors s.misheard)) .lineDeaf 1 :=
      goDeaf_firstFault rfl rfl rfl
    have hlost (hquiet : LineLostQuiet s) : ClaimsLost s (stampFault s (goDeaf detailErrors s.misheard)) :=
      (changeLine_claimsLost (s := capture .lineDeaf detailErrors s.misheard) (.inl rfl) hquiet s).before
        rfl rfl rfl rfl rfl
    refine ⟨hleft.lnc.trans ?_, hleft.draw, hleft.start, hleft.peers, hleft.claims, hleft.told, hfirst, hlost⟩
    have hq : s.misheard.claimsWithdrawn s.lnc.queue = s.claimsWithdrawn s.lnc.queue :=
      claimsWithdrawn_congr (s := s) (u := s.misheard) rfl ⟨rfl, rfl⟩ ⟨rfl, rfl⟩ _
    have hcount : s.misheard.lnc.deafCount = min 255 (s.lnc.deafCount + 4) := if_neg (by rw [hl]; decide)
    refine Eq.trans (b := { s.deafLine with
      quiet := some 10, charLeft := 0, queue := s.misheard.claimsWithdrawn s.lnc.queue
      deafCount := s.misheard.lnc.deafCount }) rfl ?_
    rw [hq, hcount]
    rfl
  · have hbar : s.lnc.line.canBar = true := by rcases hl with hl | hl | hl <;> rw [hl] <;> rfl
    have hrow : exec (.duplicateStation kind) s = .next (stampFault s (enterBarred kind s)) := by
      refine (row_next hr hbar).trans ?_
      rw [frameTaken_synced hs]
    have hleft := (enterBarred_left (kind := kind) hs).stamp s
    have hlost (hquiet : LineLostQuiet s) : ClaimsLost s (stampFault s (enterBarred kind s)) :=
      (changeLine_claimsLost (s := s.silenced kind) (.inr rfl) hquiet s).before rfl rfl rfl rfl rfl
    exact ⟨_, hrow, hleft.lnc, hleft.draw, hleft.start, hleft.peers, hleft.claims, hleft.told, hlost,
      enterBarred_firstFault kind s⟩
  · obtain ⟨g, hg⟩ := exec_frame hc
    exact (hg s).trans (row_searching hr (decide_eq_true ⟨hl, hk, hown⟩) hs)
  · exact row_searching hr (State.isBadFrame_of hl hb h) hs
  · exact row_searching hr (by rcases hl with hl | hl | hl <;> rw [hl] <;> rfl) hs
  · have hrow : exec (.peerSuspect k) s = .next (stampFault s (evalOvercommit (s.peerAged k .suspect))) := by
      rw [← goSuspect_eq hd]
      exact row_next hr (turnsSuspect_of hlive hm hage)
    have hw := stampFault_weighed s (s.peerAged k .suspect)
    have hkeeps := stampFault_evalOvercommit (b := s) (s := s.peerAged k .suspect) rfl
    generalize (stampFault s (evalOvercommit (s.peerAged k .suspect))).cpn.fault = f at hw hkeeps
    rw [hw] at hrow
    exact ⟨_, hrow, rfl, peerAged_reportedSum hlive, hkeeps⟩
  · obtain ⟨t, hrow, ht, hfirst, hkeeps⟩ := execPeerLost_made hr hst hm hage hidle.1 (.inl hidle.2)
    refine ⟨t, hrow, ?_, hfirst, hkeeps⟩
    have hcalm : ((s.peerUnheld k).weighed t.overcommitted t.cpn.fault).ssu.claim ≠ .waiting := by
      show (s.peerUnheld k).ssu.claim ≠ .waiting
      unfold State.peerUnheld
      split <;> exact hidle.2
    rw [retestStart_idle hcalm] at ht
    refine ht.trans ?_
    unfold State.peerUnheld
    by_cases hh : s.ssu.holder = some k.val
    · rw [if_pos hh, if_pos hh, if_pos hh]
      rfl
    · rw [if_neg hh, if_neg hh, if_neg hh]
      rfl

end Sys2Proof.Machine
end

section
/-! SUPPORT. The timers of the line and the return from DEAF (R146, R150 to R152, R154). -/

namespace Sys2Proof.Machine

/-! ### The beacon of a change of line state (R146, R154) -/

/-- A line controller with its beacon asked for and its beacon timer running. -/
def State.beaconed (s : State) : Lnc :=
  { s.lnc with
    beacon := if s.lnc.beacon = .empty then .queued else s.lnc.beacon
    beaconAt := some (s.lnc.beaconAt.getD (later s.now (s.pst.strand.periodCode * 10))) }

theorem lineBeacon_asked {q : LineState} {s : State} {l : Lnc} {a : Bool} (hq : q.allowsBeacon = true)
    (hl : l.line.allowsBeacon = true) (hs : s.lnc = l.askIf a) :
    lineBeacon q s = { s with lnc := ({ s with lnc := l } : State).beaconed } := by
  have hat : s.lnc.beaconAt = l.beaconAt := by
    rw [hs, Lnc.askIf_beacon]
  have hasked := Lnc.requestBeacon_deaf hl a
  unfold lineBeacon
  rw [if_pos hq, hat, hs, hasked]
  rfl

theorem lineBeacon_allowed {q : LineState} {s : State} (hq : q.allowsBeacon = true)
    (hl : s.lnc.line.allowsBeacon = true) : lineBeacon q s = { s with lnc := s.beaconed } :=
  lineBeacon_asked (a := false) hq hl rfl

theorem State.beaconed_beacon (s : State) : s.beaconed.beacon ≠ .empty := by
  show (if s.lnc.beacon = .empty then BeaconSlot.queued else s.lnc.beacon) ≠ .empty
  split
  · decide
  · next h => exact h

/-! ### The change to ACTIVE -/

theorem changeLine_active (s : State) :
    changeLine .active s = lineBeacon .active (firstPointTest (actOnRequest (drawViewChange (s.onLine .active)))) :=
  rfl

/-- A station with nothing to send finds nothing to do on a line that is ACTIVE again. -/
structure LineIdle (s : State) : Prop where
  draw : s.dbu.claim = .none
  need : s.dbu.need = none
  start : s.ssu.claim = .none
  request : s.ssu.request = false
  calm : s.rsq.state ≠ .queued

theorem changeLine_active_idle {s : State} (h : LineIdle s) :
    changeLine .active s = { s.onLine .active with lnc := (s.onLine .active).beaconed } := by
  rw [changeLine_active, drawViewChange_idle (s := s.onLine .active) (.inl h.draw),
    actOnRequest_stays (s := s.onLine .active) (.inl h.request),
    firstPointTest_stays (s := s.onLine .active) (.inl h.calm), lineBeacon_allowed rfl rfl]

/-- On an ACTIVE line the test of the first point captures nothing. -/
theorem firstPointTest_fault {s : State} (hl : s.lnc.line = .active) :
    (firstPointTest s).cpn.fault = s.cpn.fault := by
  have hneed : ∀ n, (giveNeed n s).cpn = s.cpn := fun n => by
    unfold giveNeed
    rw [hl]
    cases s.dbu.claim <;> simp
  unfold firstPointTest
  dsimp only
  split
  · split
    · rw [enterRamping_cpn]
    · split
      · rfl
      · split
        · rw [enterRamping_cpn, hneed]
        · rw [hneed]
  · rfl

theorem actOnRequest_fault {s : State} (hl : s.lnc.line = .active) : (actOnRequest s).cpn = s.cpn := by
  unfold actOnRequest
  split
  · rw [hl]
    show (formStart s).cpn = s.cpn
    rw [formStart_eq hl]
  · rfl

theorem changeLine_active_fault (s : State) : (changeLine .active s).cpn.fault = s.cpn.fault := by
  have hview : (drawViewChange (s.onLine .active)).lnc.line = .active := by simp [State.onLine]
  have hact : (actOnRequest (drawViewChange (s.onLine .active))).lnc.line = .active := by simp [State.onLine]
  have hbeacon : ∀ u, (lineBeacon .active u).cpn = u.cpn := fun u => rfl
  rw [changeLine_active, hbeacon, firstPointTest_fault hact, actOnRequest_fault hview]
  simp [State.onLine, notify]

theorem changeLine_active_line (s : State) : (changeLine .active s).lnc.line = .active := by
  have hline : ∀ u : State, u.lnc.line = .active → (lineBeacon .active u).lnc.line = .active := fun u hu => by
    rw [lineBeacon_allowed rfl (by rw [hu]; rfl)]
    exact hu
  rw [changeLine_active]
  refine hline _ ?_
  simp [State.onLine]

/-- The request of a station without a claim, a tenure or a running drive forms a START claim as the line
becomes ACTIVE (R105). -/
structure StartAsked (s : State) : Prop where
  request : s.ssu.request = true
  start : s.ssu.claim = .none
  tenure : s.ssu.tenure = false
  drive : s.driveRunning = false
  draw : s.dbu.claim.outstanding = false

theorem drawViewChange_keepsRestart {s : State} (h : s.dbu.claim.outstanding = false) :
    (drawViewChange s).rsq = s.rsq := by
  unfold drawViewChange
  split
  · split <;> simp
  · next hc => rw [hc] at h; exact nomatch h
  · split <;> simp
  all_goals rfl

theorem changeLine_active_forms {s : State} (h : StartAsked s) : ∃ u, changeLine .active s
      = { formStart u with lnc := (formStart u).beaconed }
    ∧ u.lnc.line = .active ∧ u.rsq = s.rsq ∧ u.ssu = s.ssu ∧ u.pst = s.pst ∧ u.now = s.now
    ∧ u.lnc.beaconAt = s.lnc.beaconAt ∧ u.cpn = (s.onLine .active).cpn := by
  refine ⟨drawViewChange (s.onLine .active), ?_, by simp [State.onLine],
    drawViewChange_keepsRestart (s := s.onLine .active) h.draw, by simp [State.onLine], by simp [State.onLine],
    by simp [State.onLine], by simp [State.onLine], by simp⟩
  have hl : (drawViewChange (s.onLine .active)).lnc.line = .active := by simp [State.onLine]
  have hssu : (drawViewChange (s.onLine .active)).ssu = s.ssu := by simp [State.onLine]
  have hdrive : (drawViewChange (s.onLine .active)).driveRunning = false := by
    rw [← h.drive]
    unfold State.driveRunning
    rw [drawViewChange_keepsRestart (s := s.onLine .active) h.draw]
    simp [State.drvReady, State.onLine]
  rw [changeLine_active]
  generalize drawViewChange (s.onLine .active) = u at hl hssu hdrive ⊢
  rw [actOnRequest_active (by rw [hssu, h.request]) (by rw [hssu, h.start]) (by rw [hssu, h.tenure]) hl,
    firstPointTest_stays (.inr (by rw [formStart_eq hl]; exact hdrive)),
    lineBeacon_allowed rfl (by rw [formStart_eq hl]; show u.lnc.line.allowsBeacon = true; rw [hl]; rfl)]

/-- What the START claim formed on the line that is ACTIVE again shows. -/
abbrev AskedOnLine (s t : State) : Prop :=
  t.lnc.line = .active ∧ t.rsq = s.rsq ∧ t.ssu.request = true ∧ t.ssu.claim = .sent
    ∧ .claim .start t.ssu.claimNumber 0 s.pst.strand.settleTime ∈ t.lnc.queue
    ∧ t.ssu.claimNumber ≠ s.ssu.lastSettled ∧ t.startEntry .sent ∈ t.pvu.claims
    ∧ t.cpn.events.lineChanged = true ∧ t.lnc.beacon ≠ .empty
    ∧ t.lnc.beaconAt = some (s.lnc.beaconAt.getD (later s.now (s.pst.strand.periodCode * 10)))

theorem changeLine_active_asked {s : State} (h : StartAsked s) : AskedOnLine s (changeLine .active s) := by
  obtain ⟨u, hmade, hl, hrsq, hssu, hpst, hnow, hat, hcpn⟩ := changeLine_active_forms h
  rw [hmade]
  have hform := formStart_eq hl
  have hbeacon := State.beaconed_beacon (formStart u)
  refine ⟨?_, ?_, ?_, ?_, ?_, ?_, ?_, ?_, hbeacon, ?_⟩
  · show (formStart u).lnc.line = .active
    rw [hform]
    exact hl
  · rw [hform]
    exact hrsq
  · rw [hform]
    show u.ssu.request = true
    rw [hssu, h.request]
  · rw [hform]
  · rw [hform, ← hpst]
    exact putFrame_mem _ _
  · rw [hform, ← hssu]
    exact nextNumber_ne _ _
  · rw [hform]
    exact List.mem_append_right _ (List.mem_singleton.2 rfl)
  · rw [hform]
    show u.cpn.events.lineChanged = true
    rw [hcpn]
    rfl
  · rw [hform, ← hpst, ← hnow, ← hat]
    rfl

/-! ### The change to DEAF of an idle station -/

theorem drawLineLost_idle {s : State} (hd : s.dbu.claim = .none) (hn : s.dbu.need = none) : drawLineLost s = s := by
  unfold drawLineLost
  rw [hn, if_neg (by rw [hd]; decide)]
  exact congrArg (fun c : DrawStatus => { s with dbu := { s.dbu with claim := c } }) hd.symm

theorem withdrawStart_idle {s : State} (h : s.ssu.claim = .none) : withdrawStart s = { s with
    ssu := { s.ssu with settleAt := none, clearSent := false }
    pvu := s.pvu.removeOwn .start, lnc := s.lnc.dropClear } := by
  unfold withdrawStart
  rw [if_pos h]
  exact congrArg (fun c : StartStatus => { s with
    ssu := { s.ssu with claim := c, settleAt := none, clearSent := false }
    pvu := s.pvu.removeOwn .start, lnc := s.lnc.dropClear }) h.symm

/-- The station once its line has gone DEAF with nothing of its own on it. -/
def State.deafened (s : State) : State :=
  { s.onLine .deaf with
    ssu := { s.ssu with settleAt := none, clearSent := false }
    pvu := s.pvu.removeOwn .start
    lnc := { (s.onLine .deaf).beaconed with queue := s.lnc.queue.filter fun f => decide (f.slot ≠ .clear) } }

theorem changeLine_deaf_idle {s : State} (h : LineIdle s) : changeLine .deaf s = s.deafened := by
  have hlost : LineLostQuiet (withdrawStart (s.onLine .deaf)) := by
    rw [withdrawStart_idle (s := s.onLine .deaf) h.start]
    exact ⟨.inl h.request, .inl h.calm⟩
  rw [changeLine_lost (.inl rfl), drawLineLost_idle (s := s.onLine .deaf) h.draw h.need,
    actOnRequest_quiet (by simp [State.onLine]) hlost.1, firstPointTest_stays hlost.2,
    withdrawStart_idle (s := s.onLine .deaf) h.start, lineBeacon_allowed rfl rfl]
  rfl

theorem goDeaf_idle {d : Nat} {s u : State} (h : LineIdle u) (hf : u.cpn.fault = s.cpn.fault) (hn : u.now = s.now)
    (hj : u.joinedAt = s.joinedAt) : stampFault s (goDeaf d u) = { u.deafened with
      cpn := { u.deafened.cpn with fault := s.captured .lineDeaf d } } := by
  have hmade : goDeaf d u = (capture .lineDeaf d u).deafened :=
    changeLine_deaf_idle (s := capture .lineDeaf d u) ⟨h.draw, h.need, h.start, h.request, h.calm⟩
  rw [hmade, stampFault_of_captured (b := s) (t := (capture .lineDeaf d u).deafened) u .lineDeaf d (by rfl)
    ⟨hf, hn, hj⟩]
  rfl

/-! ### A slot taken as the line is lost (R105, R117) -/

/-- The station that takes the slot as its line goes DEAF, with a request standing at urgency 3 and the drive not
ready. -/
structure TakesOnLoss (s : State) : Prop where
  request : s.ssu.request = true
  urgent : s.rsq.urgency = 3
  tenure : s.ssu.tenure = false
  drive : s.drvReady = false
  draw : s.dbu.claim = .none
  need : s.dbu.need = none

/-- The station whose own START claim has ended as its line went DEAF. -/
def State.unclaimed (s : State) : State :=
  { s.onLine .deaf with
    ssu := { s.ssu with claim := .none, settleAt := none, clearSent := false }
    pvu := s.pvu.removeOwn .start
    lnc := { (s.onLine .deaf).lnc with queue := s.claimsWithdrawn s.lnc.queue } }

theorem withdrawStart_onLine {s : State} (hl : s.lnc.line.allowsBeacon = true) (hd : s.dbu.claim = .none) :
    withdrawStart (s.onLine .deaf) = s.unclaimed := by
  have hq : (if s.ssu.claim = .none then s.lnc.queue
      else (s.onLine .deaf).withdrawnFrom .start s.ssu.claimNumber s.lnc.queue).filter
        (fun f => decide (f.slot ≠ .clear)) = s.claimsWithdrawn s.lnc.queue := by
    rw [withdrawnFrom_congr (u := s.onLine .deaf) (s := s) ⟨hl.symm, rfl⟩]
    unfold State.claimsWithdrawn
    rw [hd]
    rfl
  refine (withdrawStart_ends (s.onLine .deaf)).trans ?_
  rw [State.unclaimed, ← hq]
  rfl

/-- The station that has taken the slot as its line went DEAF, before the beacon of the change. -/
def State.tookSlot (s : State) : State :=
  { s.unclaimed with
    rsq := { s.rsq with
      runReq := true
      counters := { s.rsq.counters with startAttempts := min 255 (s.rsq.counters.startAttempts + 1) } }
    ssu := s.unclaimed.slotHeld s.ssu.lastSettled
    lnc := s.unclaimed.lnc.askIf true }

theorem changeLine_deaf_takes {s : State} (hl : s.lnc.line.allowsBeacon = true) (h : TakesOnLoss s) :
    changeLine .deaf s = { s.tookSlot with lnc := s.unclaimed.beaconed } := by
  have hact : actOnRequest s.unclaimed = takeSlot s.ssu.lastSettled s.unclaimed :=
    actOnRequest_takes (s := s.unclaimed) (.inl rfl) h.request h.tenure rfl h.urgent
  have hpvu : s.unclaimed.pvu.removeOwn .start = s.pvu.removeOwn .start := by
    refine congrArg (fun c : List ClaimEntry => ({ s.pvu with claims := c } : Pvu)) ?_
    simp [State.unclaimed, Pvu.removeOwn, List.filter_filter]
  have hclear : s.unclaimed.lnc.dropClear = s.unclaimed.lnc :=
    congrArg (fun q : List QueuedFrame => ({ (s.onLine .deaf).lnc with queue := q } : Lnc)) (s.claimsWithdrawn_clear _)
  have hslot : takeSlot s.ssu.lastSettled s.unclaimed = s.tookSlot := by
    rw [takeSlot_idle (s := s.unclaimed) _ (.inl h.drive), slotTaken_does, hclear, hpvu]
    rfl
  have hdrive : s.tookSlot.driveRunning = false := h.drive
  rw [changeLine_lost (.inl rfl), drawLineLost_idle (s := s.onLine .deaf) h.draw h.need,
    withdrawStart_onLine hl h.draw, hact, hslot, firstPointTest_stays (.inr hdrive)]
  exact lineBeacon_asked (l := s.unclaimed.lnc) (a := true) rfl rfl rfl

/-! ### The rows (R146, R150 to R152) -/

/-- The end of LISTEN without its timer. -/
def State.listened (s : State) : State := { s with lnc := { s.lnc with listenAt := none } }

theorem execListenTimerExpiry_row {s : State} (hr : s.rstLow = false) (hl : s.lnc.line = .listen)
    (h : RunOut s s.lnc.listenAt) : exec .listenTimerExpiry s = .next (stampFault s (endListen s)) :=
  row_next hr (by rw [hl, expired_of_runOut h]; rfl)

theorem execListenTimerExpiry_active {s : State} (hr : s.rstLow = false) (hl : s.lnc.line = .listen)
    (h : RunOut s s.lnc.listenAt) (hcount : s.lnc.deafCount < s.pst.strand.deafThreshold) :
    exec .listenTimerExpiry s = .next (changeLine .active s.listened) := by
  have hend : endListen s = changeLine .active s.listened := if_neg (by omega)
  rw [execListenTimerExpiry_row hr hl h, hend, stampFault_of_fault_eq (b := s) (changeLine_active_fault s.listened)]

theorem execSilenceTimerExpiry_row {s : State} (hr : s.rstLow = false) (hl : s.lnc.line = .active)
    (h : RunOut s s.lnc.silenceAt) :
    exec .silenceTimerExpiry s = .next (stampFault s (goDeaf detailSilence s)) :=
  row_next hr (by rw [hl, expired_of_runOut h]; rfl)

/-- The station whose deaf counter a peer's frame has brought to 0. -/
def State.revived (s : State) : State :=
  { s with lnc := { s.lnc with
    quiet := some 10, charLeft := 0, synced := true, deafCount := 0
    silenceAt := some (later s.now (3 * (s.pst.strand.periodCode * 10))) } }

theorem changeLine_station (q : LineState) (s : State) :
    (changeLine q s).ownStation = s.ownStation ∧ (changeLine q s).strandCount = s.strandCount := by
  simp [State.ownStation, State.strandCount]

theorem receivePeer_revives {s : State} (hl : s.lnc.line = .deaf) (hcount : s.lnc.deafCount ≤ 1) :
    receivePeer s = changeLine .active s.revived := by
  have hzero : s.lnc.deafCount - 1 = 0 := by omega
  unfold receivePeer
  dsimp only
  rw [hzero, if_neg (by rw [hl]; decide), if_pos ⟨hl, hcount⟩]
  rfl

theorem execClearReceived_revives {k target : Nat} {s : State} (hr : s.rstLow = false) (hl : s.lnc.line = .deaf)
    (hcount : s.lnc.deafCount ≤ 1) (hk : Heard s k) (ht : target ≠ s.ownStation) :
    exec (.clearReceived k target) s = .next (changeLine .active s.revived) := by
  have hown : (changeLine .active s.revived).ownStation = s.ownStation := (changeLine_station .active s.revived).1
  have hig : takeClear target (receivePeer s) = changeLine .active s.revived := by
    rw [receivePeer_revives hl hcount]
    exact takeClear_ignored (.inl (by rwa [hown]))
  refine (row_next hr (hears_of_heard hk)).trans ?_
  rw [frameTaken_synced hk.2.1, hig, stampFault_of_fault_eq (b := s) (changeLine_active_fault s.revived)]

/-- No station has the number 255. -/
theorem State.ownStation_ne (s : State) : 255 ≠ s.ownStation := by
  have := s.ownStation_lt
  omega

/-- A frame of a peer at the moment of the return changes nothing of the reception. -/
theorem receivePeer_revived (s : State) :
    receivePeer (changeLine .active s.revived) = changeLine .active s.revived := by
  have hline := changeLine_active_line s.revived
  have hfields : ∀ v, v = changeLine .active s.revived → v.lnc.quiet = some 10 ∧ v.lnc.charLeft = 0
      ∧ v.lnc.synced = true ∧ v.lnc.deafCount = 0
      ∧ v.lnc.silenceAt = some (later v.now (3 * (v.pst.strand.periodCode * 10))) := by
    rintro v rfl
    simp [State.revived]
  replace hfields := hfields _ rfl
  generalize changeLine .active s.revived = v at hline hfields ⊢
  obtain ⟨hq, hc, hs, hd, hsil⟩ := hfields
  rw [receivePeer_heard (by rw [hline]; exact fun h => nomatch h)]
  refine congrArg (fun l : Lnc => ({ v with lnc := l } : State)) ?_
  have hsame : ({ v.lnc with quiet := v.lnc.quiet, charLeft := v.lnc.charLeft, synced := v.lnc.synced
                             deafCount := v.lnc.deafCount - 1, silenceAt := v.lnc.silenceAt } : Lnc) = v.lnc := by
    have hzero : v.lnc.deafCount - 1 = v.lnc.deafCount := by omega
    rw [hzero]
  unfold State.heardLine
  rw [if_neg (by rw [hline]; decide)]
  rw [hq, hc, hs, hsil] at hsame
  exact hsame

/-- The values before an occurrence stand in the record whichever of its parts stamps it first. -/
theorem stampFault_stampFault {s v u : State} (h : v.cpn.fault = s.cpn.fault) :
    stampFault s (stampFault v u) = stampFault s u := by
  unfold stampFault
  rw [h]
  cases hs : s.cpn.fault.locked <;> cases hu : u.cpn.fault.locked <;> simp [hu]

/-- Settles O54: each change of line state is read off its effect on the own claims. -/
theorem lineTimersQueueBeaconsAndChangeState : Obligations.line_timers_queue_beacons_and_change_state := by
  refine ⟨fun s hr hl hout => ?_, fun s hr hl hout hcount hd hn hc hq hs => ?_,
    fun s hr hl hout hcount hreq hc ht hdrive hd => ?_, fun s hr hl hout hcount hd hn hc hq hs => ?_,
    fun k target s hr hl hcount hk hown hd hn hc hq hs => ?_, fun c k s hr hc hk hl hcount => ?_,
    fun k s hr hl hcount hk hreq hc ht hdrive hd => ?_, fun s hr hl hout => ?_,
    fun s hr hl hout hd hn hc hq hs => ?_, fun s hr hl hout hreq hu ht hdrive hd hn => ?_⟩
  · have hallows : s.lnc.line.allowsBeacon = true := by rcases hl with hl | hl <;> rw [hl] <;> rfl
    have hasked := Lnc.requestBeacon_deaf (l := { s.lnc with beaconAt := none }) hallows false
    refine (released_high _ hr).trans ?_
    rw [hallows, expired_of_runOut hout]
    exact congrArg (fun l : Lnc => Host.Outcome.next { s with lnc := l }) hasked
  · rw [execListenTimerExpiry_active hr hl hout hcount,
      changeLine_active_idle (s := s.listened) ⟨hd, hn, hc, hq, hs⟩]
    rfl
  · exact ⟨_, execListenTimerExpiry_active hr hl hout hcount,
      changeLine_active_asked (s := s.listened) ⟨hreq, hc, ht, hdrive, hd⟩⟩
  · have hend : endListen s = goDeaf detailErrors s.listened := if_pos hcount
    rw [execListenTimerExpiry_row hr hl hout, hend,
      goDeaf_idle (s := s) (u := s.listened) ⟨hd, hn, hc, hq, hs⟩ rfl rfl rfl]
    rfl
  · rw [execClearReceived_revives hr hl hcount hk hown,
      changeLine_active_idle (s := s.revived) ⟨hd, hn, hc, hq, hs⟩]
    rfl
  · obtain ⟨g, hg⟩ := exec_frame hc
    have hback := execClearReceived_revives (target := 255) hr hl hcount hk s.ownStation_ne
    have hpeer := receivePeer_revived s
    have hfault : (changeLine .active s.revived).cpn.fault = s.cpn.fault := changeLine_active_fault s.revived
    have hrow : exec c s = .next (stampFault s (g (changeLine .active s.revived))) := by
      rw [hg s, row_next hr (hears_of_heard hk), frameTaken_synced hk.2.1, receivePeer_revives hl hcount]
    have hline := changeLine_active_line s.revived
    have hkept : ∀ v, v = changeLine .active s.revived → v.rstLow = s.rstLow ∧ v.lnc.synced = true
        ∧ v.lnc.deafCount = 0 ∧ v.strandCount = s.strandCount ∧ v.ownStation = s.ownStation := by
      rintro v rfl
      have hstation := changeLine_station .active s.revived
      exact ⟨by simp [State.revived], by simp [State.revived], by simp [State.revived], hstation.2, hstation.1⟩
    replace hkept := hkept _ rfl
    generalize changeLine .active s.revived = v at hback hpeer hfault hrow hline hkept
    obtain ⟨hrst, hsync, hzero, hcount', hown⟩ := hkept
    have hhears : v.hears k = true := by
      refine decide_eq_true ⟨by rw [hline]; decide, ?_, ?_⟩
      · rw [hcount']
        exact hk.2.2.1
      · rw [hown]
        exact hk.2.2.2
    have hagain : exec c v = .next (stampFault v (g v)) := by
      rw [hg v, row_next (hrst.trans hr) hhears, frameTaken_synced hsync, hpeer]
    exact ⟨_, hrow, v, hback, hline, hzero, _, hagain, (stampFault_stampFault hfault).symm⟩
  · exact ⟨_, execClearReceived_revives hr hl hcount hk s.ownStation_ne,
      changeLine_active_asked (s := s.revived) ⟨hreq, hc, ht, hdrive, hd⟩⟩
  · have hallows : (capture .lineDeaf detailSilence s).lnc.line.allowsBeacon = true := by
      show s.lnc.line.allowsBeacon = true
      rw [hl]
      rfl
    have hleft := (changeLine_deaf hallows).stamp s
    refine ⟨_, execSilenceTimerExpiry_row hr hl hout, ?_⟩
    have hfirst : FirstFault s (stampFault s (goDeaf detailSilence s)) .lineDeaf 2 := goDeaf_firstFault rfl rfl rfl
    have hquiet (h : LineLostQuiet s) := goDeaf_cpn (d := detailSilence) (s := s) h rfl rfl rfl
    have hlost (h : LineLostQuiet s) : ClaimsLost s (stampFault s (goDeaf detailSilence s)) :=
      (changeLine_claimsLost (s := capture .lineDeaf detailSilence s) (.inl rfl) h s).before rfl rfl rfl rfl rfl
    refine ⟨?_, hleft.lnc, hleft.draw, hleft.start, hleft.peers, hleft.claims, hleft.told, hfirst,
      fun h => ⟨hlost h, hquiet h⟩⟩
    exact hleft.same
  · rw [execSilenceTimerExpiry_row hr hl hout, goDeaf_idle (s := s) ⟨hd, hn, hc, hq, hs⟩ rfl rfl rfl]
    rfl
  · have hallows : s.lnc.line.allowsBeacon = true := by
      rw [hl]
      rfl
    have htakes : goDeaf detailSilence s = { (capture .lineDeaf detailSilence s).tookSlot with
        lnc := (capture .lineDeaf detailSilence s).unclaimed.beaconed } :=
      changeLine_deaf_takes (s := capture .lineDeaf detailSilence s) hallows ⟨hreq, hu, ht, hdrive, hd, hn⟩
    have hfault := stampFault_of_captured (b := s) (t := goDeaf detailSilence s) s .lineDeaf detailSilence
      (by rw [htakes]; rfl) ⟨rfl, rfl, rfl⟩
    rw [execSilenceTimerExpiry_row hr hl hout, hfault, htakes]
    rfl

end Sys2Proof.Machine
end

section
/-! SUPPORT. The edges of SUPPLY_OK and BRK_IN (R5, R158): the stops they give, in each state that takes one. -/

namespace Sys2Proof.Machine

/-! ### What every edge keeps (R158) -/

theorem SamePeers.edge {s t : State} (i : Input) (raw : Bool) (h : SamePeers s t) : SamePeers s (giveEdge i raw t) := by
  unfold giveEdge drvReadyRise
  dsimp only
  split
  · split
    · exact h.preconditions
    · exact h.stop _ _
  · split
    · split
      · exact h.drive.tenure _
      · exact h.drive
    · split
      · exact h.stop _ _
      · exact h
  · split
    · exact h.stop _ _
    · exact h
  · exact h.preconditions

/-! ### The edges that stop (R5) -/

/-- The edge of input `i` to `raw` is a stop of cause `c`. -/
abbrev StopEdge (i : Input) (raw : Bool) (c : Cause) : Prop :=
  (i = .supplyOk ∧ raw = false ∧ c = .dip) ∨ (i = .brkIn ∧ raw = true ∧ c = .breakout)

theorem giveEdge_stop {i : Input} {raw : Bool} {c : Cause} (h : StopEdge i raw c) (s : State) :
    giveEdge i raw s = stopEvent c none s := by
  rcases h with ⟨rfl, rfl, rfl⟩ | ⟨rfl, rfl, rfl⟩ <;> rfl

theorem StopEdge.cause {i : Input} {raw : Bool} {c : Cause} (h : StopEdge i raw c) : c ≠ .tundish := by
  rcases h with ⟨-, -, rfl⟩ | ⟨-, -, rfl⟩ <;> decide

theorem StopEdge.drvReady {i : Input} {raw : Bool} {c : Cause} (h : StopEdge i raw c) (s : State) :
    (s.withInput i raw).drvReady = s.drvReady := by
  rcases h with ⟨rfl, -, -⟩ | ⟨rfl, -, -⟩
  · exact State.filtered_withInput_ne (j := .drvReady) (i := .supplyOk) s _ (by decide)
  · exact State.filtered_withInput_ne (j := .drvReady) (i := .brkIn) s _ (by decide)

/-- A stopping edge, from the state `u` its stop leads to before stop entry. -/
theorem execInputEdgeAccepted_stops {i : Input} {raw : Bool} {c : Cause} {s u : State} {r : PendingRecord}
    (hr : s.rstLow = false) (ha : Accepts s i raw) (h : StopEdge i raw c)
    (hmet : (s.withInput i raw).stopMet c none = some u) (hget : u.rsq.pendingSet.get c = some r)
    (hlatch : c = .breakout → r.latch = some false)
    (hu : u = { s.withInput i raw with rsq := u.rsq, cpn := u.cpn }) :
    ∃ t, exec (.inputEdgeAccepted ⟨i, raw⟩) s = .next t ∧ StopEntered c (s.withInput i raw) u t
      ∧ (u.cpn = s.cpn → OvercommitAlone s t) := by
  have hspu : u.spu = (s.withInput i raw).spu := (congrArg State.spu hu :)
  have hjoined : u.rsq.state ≠ .unjoined := by
    rw [(State.stopMet_does hmet).1]
    decide
  obtain ⟨hx, hway⟩ := stopEntry_entered c (s.withInput i raw) hjoined
  refine ⟨stampFault s (stopEntry c (s.withInput i raw) u), ?_, hx.stamp s, fun hcpn => OvercommitOnWay.stamped ?_⟩
  · rw [execInputEdgeAccepted_taken hr ha, giveEdge_stop h, stopEvent_entered hmet hget ?_]
    rcases h with ⟨rfl, rfl, rfl⟩ | ⟨rfl, rfl, rfl⟩
    · have hsupply : (stopEntry .dip (s.withInput .supplyOk false) u).filtered .supplyOk
          = (s.withInput .supplyOk false).filtered .supplyOk :=
        State.filtered_congr (by simp [hspu]) _
      exact hsupply.trans (State.filtered_withInput_same s _ _)
    · exact State.preconditionMet_latch _ (.inl rfl) (hlatch rfl)
  · have hnow : u.now = s.now := (congrArg State.now hu :)
    have hj : u.joinedAt = s.joinedAt := (congrArg State.joinedAt hu :)
    have hdbu : u.dbu = s.dbu := (congrArg State.dbu hu :)
    unfold OvercommitOnWay at hway ⊢
    rw [hcpn, hnow, hj, hdbu] at hway
    exact hway

/-! ### The records of a stop (R10, R31) -/

/-- The record of cause `c` made now by a stop that brings no epoch. -/
def State.madeRecord (s : State) (c : Cause) : PendingRecord :=
  { stopTime := s.now, deadline := (durationMs (s.pst.causes.get c).freezeCode).map (later s.now)
    epoch := none, latch := if c = .dip then none else some false }

theorem State.newRecord_made (s : State) {c : Cause} (hc : c ≠ .tundish) : s.newRecord c none = s.madeRecord c :=
  s.newRecord_eq hc

/-- The record of cause `c` after a stop that brings no epoch meets the records that stand. -/
def State.metRecord (s : State) (c : Cause) : PendingRecord :=
  match s.rsq.pendingSet.get c with
  | some r => { r with latch := if c = .dip then r.latch else some false }
  | none => s.madeRecord c

theorem State.metRecord_latch (s : State) {c : Cause} (hc : c = .breakout) :
    (s.metRecord c).latch = some false := by
  subst hc
  unfold State.metRecord
  split <;> rfl

theorem State.mergeCause_met (s : State) {c : Cause} (hc : c ≠ .tundish) :
    s.mergeCause s.rsq.pendingSet c none = s.rsq.pendingSet.set c (some (s.metRecord c)) := by
  unfold State.metRecord
  split
  · next r hr => rw [s.mergeCause_some hr, r.repeated_eq hc]
  · next hn => rw [s.mergeCause_none hn, s.newRecord_made hc]

end Sys2Proof.Machine
end

section
/-! SUPPORT. The edges of DRV_READY (R15, R16, R23, R116, R158): the stop its fall gives, with the start request
that may follow at once, and the end of the request at its rise. -/

namespace Sys2Proof.Machine

/-! ### Entry to QUEUED without an own claim and with the drive not ready (R14, R15, R105, R117) -/

/-- Causes are pending in STOPPED with RUN_REQ clear, the drive not ready, and nothing of the own claims left. -/
structure Unowned (s : State) : Prop where
  draw : s.dbu.claim.outstanding = false
  start : s.ssu.claim = .none
  tenure : s.ssu.tenure = false
  run : s.rsq.runReq = false
  drive : s.drvReady = false
  unlisted : s.pvu.removeOwn .start = s.pvu
  unsent : s.lnc.dropClear = s.lnc

/-- The station in QUEUED with its start request standing, before SSU acts on it. -/
def State.requesting (s : State) : State :=
  { s with
    rsq := { s.rsq with
      state := .queued
      urgency := ({ s with rsq := { s.rsq with state := .queued } } : State).computeUrgency }
    ssu := { s.ssu with request := true }
    lnc := s.lnc.requestBeacon }

theorem enterQueued_requesting {s : State} (h : Unowned s) : enterQueued s = actOnRequest s.requesting := by
  unfold enterQueued
  rw [queued_quiet h.draw h.start]
  exact if_neg (by simp [h.run])

/-- The slot is taken at once where the line is lost and the restart is urgent. -/
abbrev SelfTakes (s t : State) : Prop := (s.lnc.line = .deaf ∨ s.lnc.line = .barred) ∧ t.rsq.urgency = 3

/-- From STOPPED to QUEUED with a start request (R15, R105, R117). -/
structure QueuedAsking (s t : State) : Prop where
  state : t.rsq.state = .queued
  pending : t.rsq.pendingSet = s.rsq.pendingSet
  request : t.ssu.request = true
  run : t.rsq.runReq = decide (SelfTakes s t)
  tenure : t.ssu.tenure = decide (SelfTakes s t)
  takes : SelfTakes s t → t.ssu.holder = some s.ownStation ∧ t.ssu.attempts = s.ssu.attempts + 1
  claim : if s.lnc.line = .active then StartFormed s t s.pvu.claims s.lnc.queue
    else t.ssu.claim = .none ∧ t.pvu.claims = s.pvu.claims ∧ t.lnc.queue = s.lnc.queue
  urgency : t.rsq.urgency = t.computeUrgency
  dbu : t.dbu = s.dbu
  keeps : t.rsq.speed = s.rsq.speed ∧ t.rsq.stack = s.rsq.stack ∧ t.spu = s.spu ∧ t.cpn = s.cpn

theorem State.requesting_urgency (s : State) : s.requesting.rsq.urgency = s.requesting.computeUrgency := by
  show ({ s with rsq := { s.rsq with state := .queued } } : State).computeUrgency = s.requesting.computeUrgency
  exact State.computeUrgency_congr rfl rfl rfl rfl rfl rfl rfl rfl

theorem Lnc.requestBeacon_line (l : Lnc) : l.requestBeacon.line = l.line := by simp

theorem Lnc.queue_requestBeacon (l : Lnc) : l.requestBeacon.queue = l.queue := by simp

/-- On an ACTIVE line the request forms the START claim. -/
theorem requesting_forms {s : State} (h : Unowned s) (hl : s.lnc.line = .active) :
    QueuedAsking s (actOnRequest s.requesting) := by
  have hline : s.requesting.lnc.line = .active := (Lnc.requestBeacon_line s.lnc).trans hl
  have hno : ∀ t, ¬ SelfTakes s t := fun t => by
    rintro ⟨h1 | h1, -⟩ <;> (rw [hl] at h1; exact nomatch h1)
  have hqueue : s.requesting.lnc.queue = s.lnc.queue := Lnc.queue_requestBeacon s.lnc
  have hu := s.requesting_urgency
  rw [actOnRequest_active (s := s.requesting) rfl h.start h.tenure hline, formStart_eq hline, hqueue]
  exact {
    state := rfl, pending := rfl, request := rfl
    run := by
      rw [decide_eq_false (hno _)]
      exact h.run
    tenure := by
      rw [decide_eq_false (hno _)]
      exact h.tenure
    takes := fun ht => absurd ht (hno _)
    claim := by
      rw [if_pos hl]
      exact ⟨rfl, rfl, rfl, nextNumber_eq _ _, rfl, rfl⟩
    urgency := hu, dbu := rfl, keeps := ⟨rfl, rfl, rfl, rfl⟩ }

/-- On a lost line, at urgency 3, the request takes the slot. -/
theorem requesting_takes {s : State} (h : Unowned s) (hl : s.lnc.line = .deaf ∨ s.lnc.line = .barred)
    (hurgent : s.requesting.rsq.urgency = 3) : QueuedAsking s (actOnRequest s.requesting) := by
  have hoff : s.lnc.line ≠ .active := by rcases hl with hl | hl <;> simp [hl]
  have hline : s.requesting.lnc.line = .deaf ∨ s.requesting.lnc.line = .barred := by
    rw [show s.requesting.lnc.line = s.lnc.line from Lnc.requestBeacon_line s.lnc]
    exact hl
  have hqueue : s.requesting.lnc.dropClear.requestBeacon.queue = s.lnc.queue := by
    have hbeacon := s.lnc.askIf_beacon true
    have hd : s.requesting.lnc.dropClear = s.requesting.lnc := by
      show s.lnc.requestBeacon.dropClear = s.lnc.requestBeacon
      rw [← Lnc.askIf_true, hbeacon]
      exact congrArg (fun l : Lnc => { l with beacon := (s.lnc.askIf true).beacon }) h.unsent
    rw [hd, Lnc.queue_requestBeacon]
    exact Lnc.queue_requestBeacon s.lnc
  have hpvu : s.requesting.pvu.removeOwn .start = s.pvu := h.unlisted
  have hu := s.requesting_urgency
  have hyes : ∀ t, t.rsq.urgency = s.requesting.rsq.urgency → SelfTakes s t :=
    fun t ht => ⟨hl, ht.trans hurgent⟩
  rw [actOnRequest_takes (s := s.requesting) hline rfl h.tenure h.start hurgent,
    takeSlot_idle (s := s.requesting) _ (.inl h.drive), slotTaken_does, hpvu]
  exact {
    state := rfl, pending := rfl, request := rfl
    run := (decide_eq_true (hyes _ rfl)).symm
    tenure := (decide_eq_true (hyes _ rfl)).symm
    takes := fun _ => ⟨rfl, rfl⟩
    claim := by
      rw [if_neg hoff]
      exact ⟨rfl, rfl, hqueue⟩
    urgency := hu, dbu := rfl, keeps := ⟨rfl, rfl, rfl, rfl⟩ }

/-- Elsewhere the request stands. -/
theorem requesting_stands {s : State} (h : Unowned s) (hoff : s.lnc.line ≠ .active)
    (hno : ¬ SelfTakes s s.requesting) : QueuedAsking s (actOnRequest s.requesting) := by
  have hline : s.requesting.lnc.line = s.lnc.line := Lnc.requestBeacon_line s.lnc
  have hqueue : s.requesting.lnc.queue = s.lnc.queue := Lnc.queue_requestBeacon s.lnc
  have hstay : actOnRequest s.requesting = s.requesting := by
    refine actOnRequest_stays (.inr ⟨by rwa [hline], ?_⟩)
    rw [hline]
    by_cases hl : s.lnc.line = .deaf ∨ s.lnc.line = .barred
    · exact .inr fun hu => hno ⟨hl, hu⟩
    · exact .inl ⟨fun h1 => hl (.inl h1), fun h1 => hl (.inr h1)⟩
  rw [hstay]
  exact {
    state := rfl, pending := rfl, request := rfl
    run := by
      rw [decide_eq_false hno]
      exact h.run
    tenure := by
      rw [decide_eq_false hno]
      exact h.tenure
    takes := fun ht => absurd ht hno
    claim := by
      rw [if_neg hoff]
      exact ⟨h.start, rfl, hqueue⟩
    urgency := s.requesting_urgency, dbu := rfl, keeps := ⟨rfl, rfl, rfl, rfl⟩ }

theorem enterQueued_asks {s : State} (h : Unowned s) : QueuedAsking s (enterQueued s) := by
  rw [enterQueued_requesting h]
  by_cases hl : s.lnc.line = .active
  · exact requesting_forms h hl
  · by_cases ht : SelfTakes s s.requesting
    · exact requesting_takes h ht.1 ht.2
    · exact requesting_stands h hl ht

/-! ### The fall of DRV_READY with RUN_REQ set (R23, R158) -/

/-- The states in which a restart or a handback runs. -/
abbrev Restarting (s : State) : Prop :=
  s.rsq.state = .stopped ∨ s.rsq.state = .queued ∨ s.rsq.state = .ramping ∨ s.rsq.state = .handback

/-- The pending set once a DIP stop has met it. -/
def State.dipPending (s : State) : PendingSet :=
  if s.rsq.state = .handback then PendingSet.empty.set .dip (some (s.madeRecord .dip))
  else { s.rsq.pendingSet with dip := some (s.rsq.pendingSet.dip.getD (s.madeRecord .dip)) }

theorem mergeCause_dip (s : State) (p : PendingSet) :
    s.mergeCause p .dip none = { p with dip := some (p.dip.getD (s.madeRecord .dip)) } := by
  cases hp : p.get .dip with
  | none =>
    have hd : p.dip = none := hp
    rw [s.mergeCause_none hp, hd]
    rfl
  | some r =>
    have hd : p.dip = some r := hp
    rw [s.mergeCause_some hp, hd]
    rfl

/-- The stack once a stop has met it: a running restart is pushed on at most two contexts. -/
def State.stackAtStop (s : State) : List Context :=
  if s.rsq.state = .ramping then s.rsq.context :: s.rsq.stack.take 2 else s.rsq.stack

theorem stopMet_dip {s : State} (h : Restarting s) (hlen : s.rsq.stack.length ≤ 3) :
    ∃ r p, s.stopMet .dip none = some { s with rsq := r, cpn := p } ∧ p.straps = s.cpn.straps
      ∧ r.pendingSet = s.dipPending ∧ r.stack = s.stackAtStop := by
  unfold State.stopMet State.dipPending State.stackAtStop
  rcases h with h | h | h | h
  · rw [h]
    exact ⟨_, _, rfl, rfl, mergeCause_dip s _, rfl⟩
  · rw [h]
    exact ⟨_, _, rfl, rfl, mergeCause_dip s _, rfl⟩
  · have hdrop := dropBottom_eq hlen
    have hstraps : (dropBottom s).cpn.straps = s.cpn.straps := by simp
    rw [h]
    unfold causeMerged pushContext
    generalize dropBottom s = d at hdrop hstraps
    rw [hdrop]
    exact ⟨_, _, rfl, hstraps, mergeCause_dip s _, rfl⟩
  · rw [h]
    exact ⟨_, _, rfl, rfl, rfl, rfl⟩

/-- After the stop the slot is taken at once, on a lost line at urgency 3. -/
abbrev FallTakes (s t : State) : Prop := t.rsq.state = .queued ∧ SelfTakes s t

/-- What the stop at a fall of DRV_READY makes of `s`, with the preconditions evaluated after it. -/
structure DriveFell (s t : State) : Prop where
  pending : t.rsq.pendingSet = s.dipPending
  state : t.rsq.state = if t.allMet then .queued else .stopped
  request : t.ssu.request = t.allMet
  run : t.rsq.runReq = decide (FallTakes s t)
  tenure : t.ssu.tenure = decide (FallTakes s t)
  takes : FallTakes s t → t.ssu.holder = some s.ownStation ∧ t.ssu.attempts = 1
  claim : if t.rsq.state = .queued ∧ s.lnc.line = .active then StartFormed s t s.claimsWithoutOwn s.queueEnded
    else t.ssu.claim = .none ∧ t.pvu.claims = s.claimsWithoutOwn ∧ t.lnc.queue = s.queueEnded
  urgency : t.rsq.urgency = t.computeUrgency
  draw : t.dbu.claim = .none
  speed : t.rsq.speed = (s.entryOf t.rsq.pendingSet.profile).holdSpeed
  granted : t.dbu.granted = s.drawOf t.rsq.speed
  told : t.cpn.events.stopTaken = true
  stack : t.rsq.stack = s.stackAtStop

/-- What stop entry for a DIP stop makes of `s` with the drive not ready, before the preconditions are evaluated. -/
structure DipEntered (s t : State) : Prop where
  unowned : Unowned t
  state : t.rsq.state = .stopped
  pending : t.rsq.pendingSet = s.dipPending
  stack : t.rsq.stack = s.stackAtStop
  request : t.ssu.request = false
  attempts : t.ssu.attempts = 0
  numbers : t.ssu.claimNumber = s.ssu.claimNumber ∧ t.ssu.lastSettled = s.ssu.lastSettled
  claims : t.pvu.claims = s.claimsWithoutOwn
  line : t.lnc.line = s.lnc.line
  queue : t.lnc.queue = s.queueEnded
  urgency : t.rsq.urgency = t.computeUrgency
  draw : t.dbu.claim = .none
  speed : t.rsq.speed = (s.entryOf t.rsq.pendingSet.profile).holdSpeed
  granted : t.dbu.granted = s.drawOf t.rsq.speed
  told : t.cpn.events.stopTaken = true
  straps : t.cpn.straps = s.cpn.straps
  pst : t.pst = s.pst

theorem State.queueEnded_clear (s : State) :
    s.queueEnded.filter (fun f => decide (f.slot ≠ .clear)) = s.queueEnded := by
  unfold State.queueEnded State.releaseQueued
  split
  · rw [← putFrame_filter_clear (by decide), s.claimsWithdrawn_clear]
  · exact s.claimsWithdrawn_clear _

theorem stopEntry_dip {s : State} {r : Rsq} {p : Cpn} (hd : s.drvReady = false) (hs : r.state = .stopped)
    (hstraps : p.straps = s.cpn.straps) (hp : r.pendingSet = s.dipPending) (hstack : r.stack = s.stackAtStop) :
    DipEntered s (stopEntry .dip s { s with rsq := r, cpn := p }) := by
  obtain ⟨hx, -⟩ := stopEntry_entered .dip s (u := { s with rsq := r, cpn := p }) (by simp [hs])
  generalize stopEntry .dip s { s with rsq := r, cpn := p } = x at hx
  have hgone : OwnClaimsGone s x := hx.gone.congr rfl rfl rfl rfl hstraps
  obtain ⟨hclaim, -, -, hssu, -, hclaims, hqueue⟩ := hgone
  have hspu : x.spu.inputs = s.spu.inputs := (congrArg (fun v : State => v.spu.inputs) hx.same :)
  have hrsq := hx.rsq
  exact {
    unowned := {
      draw := by
        rw [hclaim]
        rfl
      start := (congrArg Ssu.claim hssu :)
      tenure := (congrArg Ssu.tenure hssu :)
      run := (congrArg Rsq.runReq hrsq).trans (Bool.and_false _)
      drive := (State.filtered_congr hspu .drvReady).trans hd
      unlisted := by
        have hstart := s.claimsWithoutOwn_start
        rw [← hclaims] at hstart
        exact congrArg (fun c : List ClaimEntry => ({ x.pvu with claims := c } : Pvu)) hstart
      unsent := by
        have hclear := s.queueEnded_clear
        rw [← show x.lnc.queue = s.queueEnded from hqueue] at hclear
        exact congrArg (fun q : List QueuedFrame => ({ x.lnc with queue := q } : Lnc)) hclear }
    state := (congrArg Rsq.state hrsq).trans hs
    pending := (congrArg Rsq.pendingSet hrsq).trans hp
    stack := (congrArg Rsq.stack hrsq).trans hstack
    request := (congrArg Ssu.request hssu :)
    attempts := hx.attempts
    numbers := ⟨(congrArg Ssu.claimNumber hssu :), (congrArg Ssu.lastSettled hssu :)⟩
    claims := hclaims
    line := (congrArg Lnc.line hx.lnc :)
    queue := hqueue
    urgency := (congrArg Rsq.urgency hrsq :)
    draw := hclaim
    speed := by
      rw [show x.rsq.pendingSet = r.pendingSet from (congrArg Rsq.pendingSet hrsq :)]
      exact (congrArg Rsq.speed hrsq :)
    granted := (congrArg Dbu.granted hx.dbu :)
    told := (congrArg (fun v : Cpn => v.events.stopTaken) hx.cpn :)
    straps := (congrArg Cpn.straps hx.cpn).trans hstraps
    pst := (congrArg State.pst hx.same :) }

/-- A precondition that is not met keeps the restart in STOPPED. -/
theorem DipEntered.fell_unmet {s e : State} (h : DipEntered s e) (hm : e.allMet = false) : DriveFell s e := by
  have hno : ¬ FallTakes s e := fun ht => by
    rw [FallTakes, h.state] at ht
    exact nomatch ht.1
  exact {
    pending := h.pending
    state := by
      rw [hm]
      exact h.state
    request := h.request.trans hm.symm
    run := by
      rw [decide_eq_false hno]
      exact h.unowned.run
    tenure := by
      rw [decide_eq_false hno]
      exact h.unowned.tenure
    takes := fun ht => absurd ht hno
    claim := by
      rw [if_neg fun hq => by rw [h.state] at hq; exact nomatch hq.1]
      exact ⟨h.unowned.start, h.claims, h.queue⟩
    urgency := h.urgency, draw := h.draw, speed := h.speed, granted := h.granted, told := h.told, stack := h.stack }

/-- With all preconditions met the restart goes on to QUEUED. -/
theorem DipEntered.fell_met {s e : State} (h : DipEntered s e) (hm : e.allMet = true) :
    DriveFell s (enterQueued e) := by
  have hq := enterQueued_asks h.unowned
  generalize enterQueued e = t at hq
  obtain ⟨hspeed, hstack, hspu, hcpn⟩ := hq.keeps
  have hmet : t.allMet = true := by
    rw [← hm]
    exact State.allMet_congr hq.pending (by rw [hq.dbu]) (by rw [hq.dbu]) (by simp only [State.filtered, hspu])
      (by simp only [State.filtered, hspu])
  have htakes : FallTakes s t ↔ SelfTakes e t := by
    unfold FallTakes SelfTakes
    rw [h.line, hq.state]
    exact ⟨fun hf => hf.2, fun hf => ⟨rfl, hf⟩⟩
  have hown : e.ownStation = s.ownStation := by
    rw [State.ownStation, h.straps]
    rfl
  have hclaim := hq.claim
  rw [h.line] at hclaim
  exact {
    pending := hq.pending.trans h.pending
    state := by
      rw [hmet]
      exact hq.state
    request := hq.request.trans hmet.symm
    run := hq.run.trans (decide_eq_decide.2 htakes.symm)
    tenure := hq.tenure.trans (decide_eq_decide.2 htakes.symm)
    takes := fun ht => by
      obtain ⟨hholder, hatt⟩ := hq.takes (htakes.1 ht)
      exact ⟨by rw [hholder, hown], by rw [hatt, h.attempts]⟩
    claim := by
      by_cases hl : s.lnc.line = .active
      · rw [if_pos hl] at hclaim
        rw [if_pos ⟨hq.state, hl⟩, ← h.claims, ← h.queue]
        unfold StartFormed at hclaim ⊢
        rw [h.numbers.1, h.numbers.2, hown, h.pst] at hclaim
        exact hclaim
      · rw [if_neg hl] at hclaim
        rw [if_neg fun hboth => hl hboth.2, ← h.claims, ← h.queue]
        exact hclaim
    urgency := hq.urgency
    draw := by rw [hq.dbu, h.draw]
    speed := by rw [hspeed, hq.pending, h.speed]
    granted := by rw [hq.dbu, hspeed, h.granted]
    told := by rw [hcpn, h.told]
    stack := hstack.trans h.stack }

theorem DipEntered.fell {s e : State} (h : DipEntered s e) : DriveFell s (evalPreconditions e) := by
  cases hm : e.allMet
  · rw [evalPreconditions_stays (by rw [h.state]; decide) hm]
    exact h.fell_unmet hm
  · rw [evalPreconditions_leaves h.state hm]
    exact h.fell_met hm

theorem DriveFell.stamp {s t : State} (h : DriveFell s t) (b : State) : DriveFell s (stampFault b t) := by
  rw [stampFault_does]
  exact { h with }

/-- A fall of DRV_READY with RUN_REQ set and the supply good is a DIP stop, with the preconditions evaluated
after it. -/
theorem stopEvent_fell {s : State} (h : Restarting s) (hlen : s.rsq.stack.length ≤ 3) (hd : s.drvReady = false) :
    DriveFell s (stopEvent .dip none s) := by
  obtain ⟨r, p, hmet, hstraps, hp, hstack⟩ := stopMet_dip h hlen
  rw [stopEvent_eq, hmet]
  exact (stopEntry_dip hd (State.stopMet_does hmet).1 hstraps hp hstack).fell

end Sys2Proof.Machine
end

section
/-! SUPPORT. The rise of DRV_READY in QUEUED (R15, R16, R111, R116), and the edges of the four inputs as a whole
(R158). -/

namespace Sys2Proof.Machine

/-! ### The frames of the START slot (R142) -/

theorem putFrame_slot {f : QueuedFrame} {c : Slot} (h : f.slot ≠ c) (q : List QueuedFrame) :
    (putFrame f q).filter (fun g => decide (g.slot = c)) = q.filter fun g => decide (g.slot = c) := by
  unfold putFrame
  split
  · clear * - h
    induction q with
    | nil => rfl
    | cons g q ih =>
      by_cases hg : g.slot = f.slot
      · have hgc : g.slot ≠ c := by rwa [hg]
        simpa [hg, h, hgc] using ih
      · by_cases hgc : g.slot = c <;> simpa [hg, hgc, Ne.symm h] using ih
  · simp [h]

/-- A frame of another slot leaves the frames of the START slot alone. -/
theorem Lnc.queueFrame_slot (l : Lnc) {f : QueuedFrame} {c : Slot} (h : f.slot ≠ c)
    (hw : ∀ k n, f ≠ .withdraw k n) :
    (l.queueFrame f).queue.filter (fun g => decide (g.slot = c)) = l.queue.filter fun g => decide (g.slot = c) := by
  unfold Lnc.queueFrame
  split
  · split
    · exact absurd rfl (hw _ _)
    · exact putFrame_slot h _
  · rfl

/-- The frames of the START slot. -/
def Lnc.startFrames (l : Lnc) : List QueuedFrame := l.queue.filter fun g => decide (g.slot = .startClaim)

/-- From `s`, which has no START claim, to `t` the frames of the START slot stand, and no claim is formed. -/
structure StartSlotKept (s t : State) : Prop where
  frames : t.lnc.startFrames = s.lnc.startFrames
  claim : t.ssu.claim = .none

namespace StartSlotKept

variable {s t u : State}

theorem of_same (h : StartSlotKept s t) (hs : u.ssu.claim = t.ssu.claim) (hq : u.lnc.queue = t.lnc.queue) :
    StartSlotKept s u :=
  ⟨by rw [Lnc.startFrames, hq]; exact h.frames, hs.trans h.claim⟩

theorem queued (h : StartSlotKept s t) {f : QueuedFrame} (hs : u.ssu.claim = t.ssu.claim)
    (hq : u.lnc = t.lnc.queueFrame f) (hf : f.slot ≠ .startClaim) (hw : ∀ k n, f ≠ .withdraw k n) : StartSlotKept s u :=
  ⟨by rw [hq, Lnc.startFrames, Lnc.queueFrame_slot _ hf hw]; exact h.frames, hs.trans h.claim⟩

theorem form (h : StartSlotKept s t) : StartSlotKept s (formDraw t) := by
  unfold formDraw
  split
  · exact h
  · dsimp only
    split
    · exact h.of_same rfl rfl
    · exact h.queued rfl rfl (by simp [QueuedFrame.slot]) (by simp)

theorem need (n : Nat) (h : StartSlotKept s t) : StartSlotKept s (giveNeed n t) := by
  have hsolo : StartSlotKept s (soloRaise n t) := h.of_same (by simp) (by simp)
  unfold giveNeed
  split
  · split
    · exact form (h.of_same rfl rfl)
    · exact form (h.of_same rfl rfl)
    · exact h.of_same rfl rfl
    all_goals exact h
  · exact h.of_same rfl rfl
  · exact hsolo
  · exact hsolo
  · exact h

theorem resend (h : StartSlotKept s t) : StartSlotKept s (resendDraw t) := by
  unfold resendDraw
  dsimp only
  split
  · split
    · exact h
    · exact h.queued rfl rfl (by simp [QueuedFrame.slot]) (by simp)
  · exact h.queued rfl rfl (by simp [QueuedFrame.slot]) (by simp)
  all_goals exact h

theorem urgency (h : StartSlotKept s t) : StartSlotKept s (refreshUrgency t) := by
  have h1 : StartSlotKept s (requestBeacon { t with rsq := { t.rsq with urgency := t.computeUrgency } }) :=
    h.of_same rfl (by simp)
  unfold refreshUrgency
  dsimp only
  split
  · exact h
  · split
    · rw [resendStart_none h1.resend.claim]
      exact h1.resend
    · exact h1

theorem creep (h : StartSlotKept s t) : StartSlotKept s (creepTest t) := by
  by_cases hc : CreepMet t
  · rw [creepTest_meets hc]
    exact (h.of_same (u := t.freezeMet) rfl rfl).urgency
  · rw [creepTest_passes hc]
    exact h

theorem ramping (h : StartSlotKept s t) : StartSlotKept s (enterRamping t) :=
  (h.of_same (u := t.rampBegun) rfl (by simp [State.rampBegun])).creep.urgency

theorem firstPoint (h : StartSlotKept s t) : StartSlotKept s (firstPointTest t) := by
  unfold firstPointTest
  dsimp only
  split
  · split
    · exact h.ramping
    · split
      · exact h
      · split
        · exact (h.need _).ramping
        · exact h.need _
  · exact h

theorem released (h : StartSlotKept s t) (reason : ReleaseReason) : StartSlotKept s (endTenure reason t) := by
  by_cases ht : t.ssu.tenure = true
  · rw [endTenure_released reason ht h.claim]
    have hclear : ∀ l : Lnc, l.dropClear.startFrames = l.startFrames := fun l => by
      simp only [Lnc.dropClear, Lnc.startFrames, List.filter_filter]
      refine List.filter_congr fun f _ => ?_
      by_cases hf : f.slot = .startClaim <;> simp [hf]
    have hrelease : (t.lnc.queueFrame (.release reason)).startFrames = t.lnc.startFrames :=
      Lnc.queueFrame_slot _ (by simp [QueuedFrame.slot]) (by simp)
    have hbeacon : ∀ l : Lnc, l.requestBeacon.startFrames = l.startFrames := fun l => by
      simp [Lnc.startFrames]
    refine ⟨?_, h.claim⟩
    show (t.lineReleased reason).startFrames = s.lnc.startFrames
    unfold State.lineReleased
    rw [hbeacon]
    split
    · rw [hclear, hrelease, h.frames]
    · rw [hrelease, h.frames]
  · have hstay : endTenure reason t = t := if_neg ht
    rw [hstay]
    exact h

end StartSlotKept

/-! ### The rise of DRV_READY -/

/-- What the rise of DRV_READY makes of a restart in QUEUED with RUN_REQ set (R15, R16, R111, R116). -/
structure DriveRose (s t : State) : Prop where
  drive : t.drvReady = true
  run : t.rsq.runReq = true
  request : t.ssu.request = false
  claim : t.ssu.claim = .none
  tenure : s.ssu.tenure = true → s.ssu.clearPending = true → t.ssu.tenure = false
  frames : s.ssu.claim ≠ .none → t.lnc.startFrames
    = (s.withdrawnFrom .start s.ssu.claimNumber s.lnc.queue).filter fun f => decide (f.slot = .startClaim)
  went : t.rsq.state = .queued ∧ t.rsq.pendingSet = s.rsq.pendingSet
    ∨ t.rsq.state = .ramping ∧ t.rsq.currentCause = s.rsq.pendingSet.profile ∧ t.cpn.events.rampStarted = true

theorem DriveRose.stamp {s t : State} (h : DriveRose s t) (b : State) : DriveRose s (stampFault b t) := by
  rw [stampFault_does]
  exact { h with }

/-- The station whose start request has ended, with the claim it formed. -/
def State.unasked (s : State) : State := withdrawStart { s with ssu := { s.ssu with request := false } }

theorem unasked_frames {s : State} (h : s.ssu.claim ≠ .none) : s.unasked.lnc.startFrames
    = (s.withdrawnFrom .start s.ssu.claimNumber s.lnc.queue).filter fun f => decide (f.slot = .startClaim) := by
  have hends := withdrawStart_ends { s with ssu := { s.ssu with request := false } }
  have hfrom : ∀ q, ({ s with ssu := { s.ssu with request := false } } : State).withdrawnFrom .start
      s.ssu.claimNumber q = s.withdrawnFrom .start s.ssu.claimNumber q :=
    fun q => withdrawnFrom_congr ⟨rfl, rfl⟩ _ _ q
  unfold State.unasked Lnc.startFrames
  rw [hends]
  dsimp only
  rw [if_neg h, hfrom, List.filter_filter]
  refine List.filter_congr fun f _ => ?_
  by_cases hf : f.slot = .startClaim <;> simp [hf]

theorem driveTest_unasked {s : State} (hq : s.rsq.state = .queued) (hd : s.driveRunning = true) :
    driveTest s = firstPointTest s.unasked := if_pos ⟨hq, hd⟩

/-- The rise of DRV_READY, as the drive test leaves the station. -/
theorem driveTest_rose {s : State} (hq : s.rsq.state = .queued) (hrun : s.rsq.runReq = true)
    (hd : s.drvReady = true) : (driveTest s).drvReady = true ∧ (driveTest s).rsq.runReq = true
      ∧ (driveTest s).ssu.request = false ∧ (driveTest s).ssu.tenure = s.ssu.tenure
      ∧ (driveTest s).ssu.clearPending = s.ssu.clearPending
      ∧ StartSlotKept s.unasked (driveTest s) ∧ WentOn s (driveTest s) := by
  have hdrive : s.driveRunning = true := by
    rw [State.driveRunning, hrun, hd]
    rfl
  refine ⟨by simpa [State.drvReady, State.filtered] using hd, by simpa using hrun, ?_, by simp, by simp, ?_,
    WentOn.drive hq⟩
  · rw [driveTest_unasked hq hdrive]
    simp [State.unasked]
  · rw [driveTest_unasked hq hdrive]
    exact StartSlotKept.firstPoint ⟨rfl, by simp [State.unasked, withdrawStart]⟩

theorem drvReadyRise_rose {s : State} (hq : s.rsq.state = .queued) (hrun : s.rsq.runReq = true)
    (hd : s.drvReady = true) : DriveRose s (drvReadyRise s) := by
  obtain ⟨hready, hrun', hreq, hten, hpend, hkept, hwent⟩ := driveTest_rose hq hrun hd
  have hrsq : (drvReadyRise s).rsq = (driveTest s).rsq ∧ (drvReadyRise s).spu = (driveTest s).spu
      ∧ (drvReadyRise s).ssu.request = (driveTest s).ssu.request ∧ (drvReadyRise s).cpn = (driveTest s).cpn := by
    unfold drvReadyRise
    dsimp only
    split <;> simp
  have hkept' : StartSlotKept s.unasked (drvReadyRise s) := by
    unfold drvReadyRise
    dsimp only
    split
    · exact hkept.released _
    · exact hkept
  have htenure : s.ssu.tenure = true → s.ssu.clearPending = true → (drvReadyRise s).ssu.tenure = false := by
    intro ht hp
    unfold drvReadyRise
    dsimp only
    rw [if_pos (by rw [hten, hpend, ht, hp]; rfl)]
    exact endTenure_tenure ..
  generalize drvReadyRise s = t at hrsq hkept' htenure ⊢
  obtain ⟨hr, hspu, hreq', hcpn⟩ := hrsq
  have hwent' : WentOn s t := hwent.after ⟨hr, hreq', hspu, by rw [hcpn]⟩
  exact {
    drive := by
      rw [← hready]
      exact State.filtered_congr (s := driveTest s) (by rw [hspu]) .drvReady
    run := by rw [hr, hrun']
    request := by rw [hreq', hreq]
    claim := hkept'.claim
    tenure := htenure
    frames := fun hc => hkept'.frames.trans (unasked_frames hc)
    went := by
      rcases hwent' with ⟨hs, hp, -⟩ | ⟨hs, -, -, hcause, -, htold⟩
      · exact .inl ⟨hs, hp⟩
      · exact .inr ⟨hs, hcause, htold⟩ }

/-! ### Edges that change nothing more -/

/-- An edge that changes nothing more leaves the input alone changed. -/
theorem execInputEdgeAccepted_idle {i : Input} {raw : Bool} {s : State} (hr : s.rstLow = false)
    (ha : Accepts s i raw) (h : giveEdge i raw (s.withInput i raw) = s.withInput i raw) :
    exec (.inputEdgeAccepted ⟨i, raw⟩) s = .next (s.withInput i raw) := by
  rw [execInputEdgeAccepted_taken hr ha, h, stampFault_of_fault_eq (b := s) (t := s.withInput i raw) rfl]

theorem mayPend_elsewhere {q : SeqState} (hs : q ≠ .stopped) (hq : q ≠ .queued) : mayPend q = false := by
  cases q <;> simp_all [mayPend]

/-- The edges that let the preconditions be evaluated. -/
theorem giveEdge_tests {i : Input} {raw : Bool} (h : (i = .supplyOk ∧ raw = true) ∨ i = .dummyIn) (s : State) :
    giveEdge i raw s = evalPreconditions s := by
  rcases h with ⟨rfl, rfl⟩ | rfl <;> rfl

theorem drvReadyRise_idle {s : State} (hd : s.rsq.state ≠ .queued ∨ s.rsq.runReq = false)
    (ht : s.ssu.tenure = false ∨ s.ssu.clearPending = false) : drvReadyRise s = s := by
  have hstay : driveTest s = s := by
    refine if_neg ?_
    rintro ⟨hq, hdrive⟩
    rcases hd with hd | hd
    · exact hd hq
    · rw [State.driveRunning, hd] at hdrive
      exact nomatch hdrive
  unfold drvReadyRise
  rw [hstay]
  exact if_neg (by rcases ht with ht | ht <;> simp [ht])

/-- Settles O44: the stops by stop entry, the fall and the rise of DRV_READY by what they make of the restart,
and the other edges by the preconditions they let be evaluated. -/
theorem inputEdgesReachTheirBlocks : Obligations.input_edges_reach_their_blocks := by
  refine ⟨fun i raw s hr ha => ?_, fun i raw s hr ha => execInputEdgeAccepted_none hr ha,
    fun i raw c s hr hw ha h => ?_, fun i raw c s hr hs ha h => ?_, fun i raw c s hr hs hp hlen ha h => ?_,
    fun i raw c s hr hs ha h => ?_, fun s hr hs ha hrun hsupply hlen => ?_, fun s hr hs ha hrun => ?_,
    fun raw s hr ha h => ?_, fun i raw s hr ha h hs => ?_, fun i raw s hr ha h hs hm => ?_,
    fun i raw s hr ha h hs hm => ?_, fun i raw s hr ha h => ?_⟩
  · have hkeeps := giveEdge_keeps i raw (s.withInput i raw)
    have hpeers : SamePeers s (giveEdge i raw (s.withInput i raw)) :=
      .edge i raw ((SamePeers.refl s).of_claims rfl rfl)
    refine ⟨_, execInputEdgeAccepted_taken hr ha, ?_⟩
    replace hpeers := hpeers.stamped s
    rw [stampFault_does] at hpeers ⊢
    generalize (stampFault s (giveEdge i raw (s.withInput i raw))).cpn.fault = f at hpeers ⊢
    generalize giveEdge i raw (s.withInput i raw) = u at hkeeps hpeers ⊢
    obtain ⟨hrst, hnow, hmicros, hj, hpst, hspu, hpend, hpv, hreply, hspi, hstraps⟩ := hkeeps
    refine ⟨?_, hpv, hpeers.others, hreply, hspi, hstraps⟩
    have hsame : u = { s with
        rsq := u.rsq, dbu := u.dbu, ssu := u.ssu, pvu := u.pvu, lnc := u.lnc, spu := u.spu, cpn := u.cpn } := by
      rw [← show u.rstLow = s.rstLow from hrst, ← show u.now = s.now from hnow,
        ← show u.micros = s.micros from hmicros, ← show u.joinedAt = s.joinedAt from hj,
        ← show u.pst = s.pst from hpst, ← show u.pending = s.pending from hpend]
    refine (congrArg (fun w : State => { w with cpn := { u.cpn with fault := f } }) hsame).trans ?_
    exact congrArg (fun p : Spu => { s with
      rsq := u.rsq, dbu := u.dbu, ssu := u.ssu, pvu := u.pvu, lnc := u.lnc, spu := p
      cpn := { u.cpn with fault := f } }) hspu
  · have hv : (s.withInput i raw).rsq.state = .watch := hw
    have hpending := authorityTaken_pending (s.withInput i raw) c
    rw [State.newRecord_made _ (StopEdge.cause h), State.newRecord_made _ (by decide),
      StopEdge.drvReady h s] at hpending
    obtain ⟨t, hrow, hx, hover⟩ := execInputEdgeAccepted_stops hr ha h
      (u := authorityTaken c none (s.withInput i raw)) (r := (s.withInput i raw).madeRecord c)
      (by rw [State.stopMet, hv]) (by rw [hpending, PerCause.get_set_same]) (by rintro rfl; rfl) rfl
    have hrun : (authorityTaken c none (s.withInput i raw)).rsq.runReq = s.drvReady := StopEdge.drvReady h s
    have hrsq := hx.rsq
    have hp : t.rsq.pendingSet = (authorityTaken c none (s.withInput i raw)).rsq.pendingSet :=
      (congrArg Rsq.pendingSet hrsq :)
    refine ⟨t, hrow, (congrArg Rsq.state hrsq :), ?_, hp.trans hpending, ?_, (congrArg Rsq.counters hrsq :),
      (congrArg Rsq.stack hrsq :), hx.dbu, hx.gone, hx.attempts, ?_, hover rfl, hx.cpn⟩
    · rw [← hrun]
      exact (congrArg Rsq.runReq hrsq :)
    · rw [hp]
      exact (congrArg Rsq.speed hrsq :)
    · exact hx.asked (by rw [hv]; simp [authorityTaken])
  · have hmerge := (s.withInput i raw).mergeCause_met (StopEdge.cause h)
    obtain ⟨t, hrow, hx, hover⟩ := execInputEdgeAccepted_stops hr ha h
      (u := causeMerged c none (s.withInput i raw)) (r := (s.withInput i raw).metRecord c)
      (stopMet_stopped (s := s.withInput i raw) hs none)
      (by rw [causeMerged, hmerge, PerCause.get_set_same]) (State.metRecord_latch _) rfl
    refine ⟨t, hrow, hx.same, ?_, hx.dbu, hx.gone, hx.attempts, hover rfl, hx.lnc, hx.cpn⟩
    have hp : t.rsq.pendingSet = (causeMerged c none (s.withInput i raw)).rsq.pendingSet :=
      (congrArg Rsq.pendingSet hx.rsq :)
    refine hx.rsq.trans ?_
    rw [← hp]
    refine (congrArg (fun p : PendingSet => ({ s.rsq with
      state := .stopped, runReq := s.rsq.runReq && decide (c ≠ .dip), pendingSet := p
      speed := (s.entryOf t.rsq.pendingSet.profile).holdSpeed, urgency := t.computeUrgency } : Rsq)) hmerge).trans ?_
    unfold State.metRecord
    rw [show (s.withInput i raw).rsq.pendingSet.get c = s.rsq.pendingSet.get c from rfl]
    cases s.rsq.pendingSet.get c <;> rfl
  · obtain ⟨t, hrow, hx, hover⟩ := execInputEdgeAccepted_stops hr ha h
      (u := (s.withInput i raw).pushed c) (r := (s.withInput i raw).newRecord c none)
      (stopMet_ramping (s := s.withInput i raw) hs hp hlen) (PerCause.get_set_same _ _ _)
      (by rintro rfl; rfl) rfl
    refine ⟨t, hrow, hx.same, ?_, hx.dbu,
      hx.gone.congr rfl rfl rfl rfl (by simp [State.pushed, State.withInput]), hx.attempts,
      hx.asked (by simp [State.pushed, State.withInput, hs]),
      (congrArg (fun p : Cpn => p.events.stopTaken) hx.cpn :), fun hroom => ?_⟩
    · refine hx.rsq.trans ?_
      rw [show ((s.withInput i raw).pushed c).rsq.pendingSet.profile = some c from PendingSet.set_profile c _]
      have hnew : (s.withInput i raw).newRecord c none =
        { stopTime := s.now, deadline := (durationMs (s.pst.causes.get c).freezeCode).map (later s.now)
          epoch := none, latch := if c = .dip then none else some false } :=
        State.newRecord_eq _ (StopEdge.cause h)
      rw [← hnew]
      rfl
    · have hcpn : ((s.withInput i raw).pushed c).cpn = s.cpn := by
        show (dropBottom (s.withInput i raw)).cpn = s.cpn
        rw [dropBottom_room (s := s.withInput i raw) hroom]
        rfl
      have hport := hx.cpn
      rw [hcpn] at hport
      exact ⟨hover hcpn, hport⟩
  · obtain ⟨t, hrow, hx, hover⟩ := execInputEdgeAccepted_stops hr ha h
      (u := handbackStopped c none (s.withInput i raw)) (r := (s.withInput i raw).newRecord c none)
      (stopMet_handback (s := s.withInput i raw) hs none) (PerCause.get_set_same _ _ _)
      (by rintro rfl; rfl) rfl
    refine ⟨t, hrow, hx.same, ?_, hx.dbu, hx.gone, hx.attempts, hover rfl, hx.lnc, hx.cpn⟩
    refine hx.rsq.trans ?_
    rw [show (handbackStopped c none (s.withInput i raw)).rsq.pendingSet.profile = some c from
      PendingSet.set_profile c _]
    have hnew : (s.withInput i raw).newRecord c none =
      { stopTime := s.now, deadline := (durationMs (s.pst.causes.get c).freezeCode).map (later s.now)
        epoch := none, latch := if c = .dip then none else some false } :=
      State.newRecord_eq _ (StopEdge.cause h)
    rw [← hnew]
    rfl
  · have hd : (s.withInput .drvReady false).drvReady = false := State.filtered_withInput_same s .drvReady false
    have hon : (s.withInput .drvReady false).filtered .supplyOk = true := by
      rw [State.filtered_withInput_ne (i := .drvReady) (j := .supplyOk) s false (by decide)]
      exact hsupply
    have hgive : giveEdge .drvReady false (s.withInput .drvReady false)
        = stopEvent .dip none (s.withInput .drvReady false) := by
      refine if_pos ?_
      rw [hon, show (s.withInput .drvReady false).rsq.runReq = true from hrun]
      rfl
    have hfell := (stopEvent_fell (s := s.withInput .drvReady false) hs hlen hd).stamp s
    have hrow := execInputEdgeAccepted_taken hr ha
    rw [hgive] at hrow
    generalize stampFault s (stopEvent .dip none (s.withInput .drvReady false)) = t at hfell hrow
    exact ⟨t, hrow, hfell.pending, hfell.state, hfell.request, hfell.run, hfell.tenure, hfell.takes, hfell.claim,
      hfell.urgency, hfell.draw, hfell.speed, hfell.granted, hfell.told, hfell.stack⟩
  · have hd : (s.withInput .drvReady true).drvReady = true := State.filtered_withInput_same s .drvReady true
    have hrose := (drvReadyRise_rose (s := s.withInput .drvReady true) hs hrun hd).stamp s
    have hrow : exec (.inputEdgeAccepted ⟨.drvReady, true⟩) s
        = .next (stampFault s (drvReadyRise (s.withInput .drvReady true))) := execInputEdgeAccepted_taken hr ha
    generalize stampFault s (drvReadyRise (s.withInput .drvReady true)) = t at hrose hrow
    exact ⟨t, hrow, hrose.drive, hrose.run, hrose.request, hrose.claim, hrose.tenure, hrose.frames, hrose.went⟩
  · refine execInputEdgeAccepted_idle hr ha ?_
    rcases h with ⟨rfl, h⟩ | ⟨rfl, hd, ht⟩
    · refine if_neg ?_
      rw [State.filtered_withInput_ne (i := .drvReady) (j := .supplyOk) s false (by decide)]
      show ¬ (s.rsq.runReq && s.filtered .supplyOk) = true
      rcases h with h | h <;> simp [h]
    · exact drvReadyRise_idle (s := s.withInput .drvReady true) hd ht
  · refine execInputEdgeAccepted_idle hr ha ((giveEdge_tests h _).trans ?_)
    rcases hs with ⟨hstop, hq⟩ | ⟨hstop, hm⟩ | ⟨hq, hm⟩
    · refine evalPreconditions_idle ?_
      exact mayPend_elsewhere hstop hq
    · exact evalPreconditions_stays (s := s.withInput i raw) (by simp [State.withInput, hstop]) hm
    · exact evalPreconditions_queued (s := s.withInput i raw) hq hm
  · have hrow := execInputEdgeAccepted_taken hr ha
    rw [giveEdge_tests h, evalPreconditions_leaves (s := s.withInput i raw) hs hm] at hrow
    have hx := (enterQueued_left (s.withInput i raw)).stamp s
    have htold : (stampFault s (enterQueued (s.withInput i raw))).cpn.events.stopTaken = s.cpn.events.stopTaken := by
      rw [stampFault_does]
      exact (ToldAlike.queued (s.withInput i raw)).1
    generalize stampFault s (enterQueued (s.withInput i raw)) = x at hrow hx htold
    obtain ⟨hspeed, hstack, hpeers, hring, -⟩ := hx.keeps
    exact ⟨x, hrow, hx.same, hx.went, hspeed, hstack, hpeers, hring, htold, hx.asked, hx.claims⟩
  · have hrow := execInputEdgeAccepted_taken hr ha
    rw [giveEdge_tests h, evalPreconditions_returns (s := s.withInput i raw) hs hm, returnToStopped_eq,
      stampFault_of_fault_eq (b := s) (by rfl)] at hrow
    exact ⟨_, hrow, rfl, rfl, rfl, ⟨rfl, rfl, rfl, rfl, rfl, rfl, rfl⟩, rfl, rfl⟩
  · refine execInputEdgeAccepted_idle hr ha ?_
    rcases h with ⟨rfl, rfl⟩ | ⟨hs, hi⟩
    · rfl
    · have hstop : ∀ c, stopEvent c none (s.withInput i raw) = s.withInput i raw :=
        fun c => stopEvent_ignored (s := s.withInput i raw) c none hs
      have htest : evalPreconditions (s.withInput i raw) = s.withInput i raw := by
        refine evalPreconditions_idle ?_
        show mayPend s.rsq.state = false
        rcases hs with hs | hs | hs <;> rw [hs] <;> rfl
      cases i with
      | supplyOk =>
        cases raw
        · exact hstop .dip
        · exact htest
      | drvReady =>
        obtain rfl : raw = false := hi.resolve_left fun hne => hne rfl
        exact (ite_eq_right_iff.2 fun _ => hstop .dip)
      | brkIn =>
        cases raw
        · rfl
        · exact hstop .breakout
      | dummyIn => exact htest

end Sys2Proof.Machine
end
